-- ==== Sys2Proof/Word.lean ====
section
/-!
DEFINITION. The plain value types of the part: bytes, station addresses, the numbers of slots, supplies, fans,
zones, uplinks, groups, ports and identities (spec/00_scope.md, "Conventions: Names"), and the fixed-size tables
the units keep, with their one read and their one write.
-/

namespace Sys2Proof

/-- One byte of a frame, an item image or an announcement record. -/
abbrev Byte := BitVec 8

/-- A 6-byte station address in transmission order: the first byte is the most significant. -/
abbrev Addr := BitVec 48

/-- A slot, 0 to 15. -/
abbrev SlotId := Fin 16

/-- A power supply, P0 to P5. -/
abbrev PsuId := Fin 6

/-- A fan, F0 to F5. -/
abbrev FanId := Fin 6

/-- A fan zone, Z0 to Z2. -/
abbrev ZoneId := Fin 3

/-- An uplink, U0 to U4. -/
abbrev UplinkId := Fin 5

/-- An uplink group, 0 to 3. -/
abbrev GroupId := Fin 4

/-- A port, 0 to 19 (section 7.1). -/
abbrev PortId := Fin 20

/-- A management identity, 0 to 3. -/
abbrev IdentityId := Fin 4

/-- A sensor id, 0 to 3. -/
abbrev SensorId := Fin 4

/-- A slot meter's rate code, 0 to 15. -/
abbrev RateCode := Fin 16

/-- A set of port numbers: bit p stands for port p (R179, "Port sets"). -/
abbrev PortSet := BitVec 20

/-- Reads one record of a table. -/
def Tab.get {α : Type} {n : Nat} (t : Vector α n) (i : Fin n) : α := t[i.val]

/-- Replaces one record of a table. -/
def Tab.put {α : Type} {n : Nat} (t : Vector α n) (i : Fin n) (x : α) : Vector α n := t.set i.val x

/-- Changes one record of a table by a function. -/
def Tab.upd {α : Type} {n : Nat} (t : Vector α n) (i : Fin n) (f : α → α) : Vector α n :=
  Tab.put t i (f (Tab.get t i))

/-- Builds a table record by record. -/
def Tab.make {α : Type} {n : Nat} (f : Fin n → α) : Vector α n := Vector.ofFn f

/-- Changes every record of a table at once, each by a function of its number. -/
def Tab.each {α : Type} {n : Nat} (f : Fin n → α → α) (t : Vector α n) : Vector α n :=
  Tab.make fun i => f i (Tab.get t i)

end Sys2Proof
end

