-- ==== Sys2Proof/Syntax.lean ====
section
/-!
DEFINITION. The commands the part takes from outside, one constructor per row of spec/opcode_table.json, with the
operands each row needs (the table's rows give none; notes/assumptions/1.md says how they were chosen).
-/

namespace Sys2Proof

/-- One of a supply's two lines (R69). -/
inductive PsuLine where
  | present
  | powerGood
  deriving DecidableEq, Repr

/-- The redundancy mode of the capacity sums (R72). -/
inductive RedundancyMode where
  | none
  | nPlus1
  | grid
  deriving DecidableEq, Repr

/-- The tag match of a Classification Table entry (R140). -/
inductive TagMatch where
  | any
  | tagged
  | untagged
  deriving DecidableEq, Repr

/-- The action of a Classification Table entry (R140). -/
inductive ClassAction where
  | forward
  | forwardSnoop
  | drop
  | redirect
  deriving DecidableEq, Repr

/-- One Classification Table entry, the CLASSIFY item (R140). -/
structure ClassEntry where
  valid     : Bool
  ports     : PortSet
  dstValue  : Addr
  dstMask   : Addr
  typeValue : BitVec 16
  typeMask  : BitVec 16
  kindValue : Byte
  kindMask  : Byte
  tagMatch  : TagMatch
  action    : ClassAction
  redirect  : UplinkId
  deriving DecidableEq, Repr

/-- The NOTICE_CFG item (R180). The spacing is in milliseconds. -/
structure NoticeCfg where
  enable  : Bool
  dst     : Addr
  egress  : PortId
  spacing : Nat
  deriving DecidableEq, Repr

/-- The levels the part samples at power-on reset: true is asserted (R1, R27, R69, R111, R166, R178). -/
structure Pins where
  straps     : Byte
  interlock  : Bool
  warmReset  : Bool
  presence   : Vector Bool 16
  powerGood  : Vector Bool 16
  psuPresent : Vector Bool 6
  psuGood    : Vector Bool 6
  fanPresent : Vector Bool 6
  deriving DecidableEq, Repr

/-- An untagged version 1 service frame in its fields (R165): what the Ingress Gate hands on of a frame of the
kind that the command names. The payload is the first payload-length bytes after the header. -/
structure ServiceFrame where
  dst      : Addr
  src      : Addr
  sequence : Nat
  payload  : List Byte
  deriving DecidableEq, Repr

/-- The commands, one for each row of spec/opcode_table.json, in the table's order. -/
inductive Instr where
  /-- POWER_ON_RESET (R1), with the levels sampled. -/
  | powerOnReset (pins : Pins)
  /-- PRESENCE_ASSERTED (R4). -/
  | presenceAsserted (slot : SlotId)
  /-- PRESENCE_DEASSERTED (R24). -/
  | presenceDeasserted (slot : SlotId)
  /-- DEBOUNCE_EXPIRY (R5). -/
  | debounceExpiry (slot : SlotId)
  /-- HOLD_TIMER_EXPIRY (R7). -/
  | holdTimerExpiry (slot : SlotId)
  /-- RETRY_TIMER_EXPIRY (R26). -/
  | retryTimerExpiry (slot : SlotId)
  /-- DEAD_INTERVAL_EXPIRY (R28). -/
  | deadIntervalExpiry (slot : SlotId)
  /-- POWER_GOOD_ASSERTED (R31). -/
  | powerGoodAsserted (slot : SlotId)
  /-- POWER_GOOD_FALL (R34). -/
  | powerGoodFall (slot : SlotId)
  /-- POWER_GOOD_TIMER_EXPIRY (R31). -/
  | powerGoodTimerExpiry (slot : SlotId)
  /-- RESET_HOLD_EXPIRY (R32). -/
  | resetHoldExpiry (slot : SlotId)
  /-- DISCHARGE_TIMER_EXPIRY (R35). -/
  | dischargeTimerExpiry (slot : SlotId)
  /-- INTERLOCK_ASSERTED (R39). -/
  | interlockAsserted
  /-- INTERLOCK_RELEASED (R41). -/
  | interlockReleased
  /-- PSU_LINE_ASSERTED (R70). -/
  | psuLineAsserted (psu : PsuId) (line : PsuLine)
  /-- PSU_LINE_DEASSERTED (R70). -/
  | psuLineDeasserted (psu : PsuId) (line : PsuLine)
  /-- SETTLE_TIMER_EXPIRY (R70). -/
  | settleTimerExpiry (psu : PsuId)
  /-- ANNOUNCE (R48): an ANNOUNCE frame on the slot's port. -/
  | announce (slot : SlotId) (frame : ServiceFrame)
  /-- WAIT_EXTEND (R57): a WAIT_EXTEND frame on the slot's port. -/
  | waitExtend (slot : SlotId) (frame : ServiceFrame)
  /-- ANNOUNCE_DEADLINE_EXPIRY (R55). -/
  | announceDeadlineExpiry (slot : SlotId)
  /-- TELEMETRY (R99): a direct TELEMETRY frame on the slot's port. -/
  | telemetry (slot : SlotId) (frame : ServiceFrame)
  /-- SENSOR_STALE (R101). -/
  | sensorStale (slot : SlotId) (sensor : SensorId)
  /-- CRITICAL_GRACE_EXPIRY (R106). -/
  | criticalGraceExpiry (slot : SlotId)
  /-- CONTROL_INTERVAL (R113). -/
  | controlInterval
  /-- PWM_PERIOD_START (R119). -/
  | pwmPeriodStart (fan : FanId)
  /-- TACH_EDGE (R120): a count c stands for c + 1 whole microseconds since the reference edge (1 to 65535). -/
  | tachEdge (fan : FanId) (count : Fin 65535)
  /-- OVERFLOW_TIMER_EXPIRY (R121). -/
  | overflowTimerExpiry (fan : FanId)
  /-- FAN_PRESENCE_DEASSERTED (R125). -/
  | fanPresenceDeasserted (fan : FanId)
  /-- FAN_PRESENCE_ASSERTED (R126). -/
  | fanPresenceAsserted (fan : FanId)
  /-- LINK_UP (R147). -/
  | linkUp (port : PortId)
  /-- LINK_DOWN (R147). -/
  | linkDown (port : PortId)
  /-- HOLD_DOWN_EXPIRY (R147). -/
  | holdDownExpiry (uplink : UplinkId)
  /-- SLOT_PORT_FRAME (R137): the bytes received on slot port S(slot), from the destination address to the FCS. -/
  | slotPortFrame (slot : SlotId) (bytes : List Byte)
  /-- UPLINK_PORT_FRAME (R138): the bytes received on the uplink's port, from the destination address to the FCS. -/
  | uplinkPortFrame (uplink : UplinkId) (bytes : List Byte)
  /-- EPOCH (R162): one millisecond has passed. -/
  | epoch
  /-- REQUEST (R169): a REQUEST frame on a port. -/
  | request (port : PortId) (frame : ServiceFrame)
  /-- READ (R172): execution of a READ at the head of the service input queue. -/
  | read
  /-- WRITE (R173): the check of a WRITE at the head of the service input queue. -/
  | write
  /-- POWER_ON (R15): execution of a POWER_ON command at the head of the service input queue. -/
  | powerOn
  /-- POWER_OFF (R16): execution of a POWER_OFF command at the head of the service input queue. -/
  | powerOff
  /-- RELEASE (R8): execution of a RELEASE command at the head of the service input queue. -/
  | release
  /-- RESET (R17): execution of a RESET command at the head of the service input queue. -/
  | reset
  /-- REFRESH (R65): execution of a REFRESH command at the head of the service input queue. -/
  | refresh
  /-- CLEAR_FAULT (R18): execution of a CLEAR_FAULT command at the head of the service input queue. -/
  | clearFault
  /-- CONTROLLER_RESET (R177): execution of a CONTROLLER_RESET command at the head of the service input queue. -/
  | controllerReset
  /-- ADMIN_ENABLE_WRITE (R25). -/
  | adminEnableWrite (slot : SlotId) (value : Bool)
  /-- ROLE_SETTING_STACK_WRITE (R131). -/
  | roleSettingStackWrite
  /-- ROLE_SETTING_SLOT_WRITE (R132). -/
  | roleSettingSlotWrite
  /-- POWER_POLICY_WRITE (R78). -/
  | powerPolicyWrite (slot : SlotId) (priority bootAllowance capFloor : Nat)
  /-- PSU_CAPACITY_WRITE (R71). -/
  | psuCapacityWrite (psu : PsuId) (watts : Nat)
  /-- REDUNDANCY_MODE_WRITE (R74): the mode and the overhead, handed over together (R176). -/
  | redundancyModeWrite (mode : RedundancyMode) (overhead : Nat)
  /-- FAN_FULL_POWER_WRITE (R112). -/
  | fanFullPowerWrite (fan : FanId) (watts : Nat)
  /-- MIN_DEMAND_WRITE (R110). -/
  | minDemandWrite (zone : ZoneId) (perMille : Nat)
  /-- STALE_LIMIT_WRITE (R101). -/
  | staleLimitWrite (ms : Nat)
  /-- RATE_CODE_WRITE (R162). -/
  | rateCodeWrite (slot : SlotId) (rate capRate : RateCode)
  /-- BUCKET_DEPTH_WRITE (R163). -/
  | bucketDepthWrite (slot : SlotId) (kib : Nat)
  /-- MEMBER_LIST_WRITE (R150). -/
  | memberListWrite (group : GroupId) (members : List UplinkId)
  /-- CLASSIFY_ENTRY_WRITE (R145). -/
  | classifyEntryWrite (index : Fin 64) (entry : ClassEntry)
  /-- SERVICE_ETHERTYPE_WRITE (R176). -/
  | serviceEthertypeWrite (etherType : BitVec 16)
  /-- NOTICE_CFG_WRITE (R183). -/
  | noticeCfgWrite (cfg : NoticeCfg)
  /-- WRITE_ITEM (R174): the next item of the checked WRITE is applied. -/
  | writeItem
  /-- WARM_RESET_INPUT_ASSERTED (R178). -/
  | warmResetInputAsserted
  /-- WARM_RESET_INPUT_DEASSERTED (R178). -/
  | warmResetInputDeasserted
  /-- SPACING_TIMER_EXPIRY (R182). -/
  | spacingTimerExpiry
  deriving DecidableEq, Repr

end Sys2Proof
end

