-- ==== Sys2Proof/Config.lean ====
section
/-!
DEFINITION. What is fixed for the part, and the FREE VALUES: constants without a body for the values the spec does
not state. Nothing in Lean can say what a free value is, so a claim holds whatever it is.
-/

namespace Sys2Proof.Config

/-- Broadcast: the address with every bit set (R133). -/
def broadcast : Addr := BitVec.allOnes 48

/-- The 802.1Q tag type (R133, R153). -/
def tagType : BitVec 16 := 0x8100#16

/-- The version of the service header (R165). -/
def serviceVersion : Byte := 1#8

/-- Fewest bytes of a frame the part builds, from its destination address to its FCS (R165). -/
def minFrameBytes : Nat := 64

/-- Places in the service input queue (R169). -/
def serviceQueuePlaces : Nat := 4

/-- Rejects a window or a refresh survives (R51, R52). -/
def rejectLimit : Nat := 3

/-- Extensions a window or a refresh takes (R57). -/
def extensionLimit : Nat := 4

/-- Largest value of a 16-bit counter of the part (R80, R61, R180). -/
def counterTop : Nat := 65535

/-- Largest value of a drop count (R135, R161). -/
def dropCountTop : Nat := 4294967295

/-- The age at which a sensor's age stays (R96). -/
def ageTop : Nat := 65535

/-- The release margin of the critical test, in degrees (R97, R105). -/
def criticalMargin : Int := 3

/-- The number shown for a stopped timer (R179, "Timers"). -/
def stoppedTimerImage : Nat := 65535

/-- FREE VALUE (notes/assumptions/15.md). The two bytes that a POWER_STATUS snapshot shows for a headroom below 0.
R95 says that an item READ never holds one. A NOTICE snapshot taken by the capacity change event of R74 stands inside
the recomputation, and the spec states no encoding for the negative headroom it may find there. -/
opaque negativeHeadroomImage : Int → BitVec 16

/-- FREE VALUE (notes/assumptions/16.md). Whether the RESPONSE to a request of no known operation, whose payload is the
argument, carries the three fields of a COMMAND (code, slot, argument) rather than those of a READ or a WRITE (space, index,
count). R179 gives both layouts and says for neither that it is that request's. -/
opaque unknownOperationAsCommand : List Byte → Bool

/-- FREE VALUE (notes/assumptions/16.md). Whether the bytes that follow an unknown operation byte, in the payload that is
the argument, are fields the payload held (R171), to be echoed, or no fields at all, so that zeros stand for them. -/
opaque unknownOperationHeld : List Byte → Bool

/-- FREE VALUE (notes/assumptions/17.md). Whether the 2-byte item length of an INVENTORY item counts its own two
bytes. R179 says only "item length (2), 0 for a slot without a record". -/
opaque inventoryLengthCountsItself : Bool

end Sys2Proof.Config
end

