-- ==== Sys2Proof/Machine/Bytes.lean ====
section
/-!
DEFINITION. Byte order, the two cyclic redundancy checks, and the counting helpers: clamp, saturate, wrap.
-/

namespace Sys2Proof.Machine

/-- A two-byte number, most significant byte first (R179, "Numbers"). -/
def be16 (n : Nat) : List Byte := [BitVec.ofNat 8 (n / 256), BitVec.ofNat 8 n]

/-- A three-byte number, most significant byte first (a port set, R179). -/
def be24 (n : Nat) : List Byte := BitVec.ofNat 8 (n / 65536) :: be16 n

/-- A four-byte number, most significant byte first (R179, "Numbers"). -/
def be32 (n : Nat) : List Byte := be16 (n / 65536) ++ be16 n

/-- A one-byte number. -/
def byte1 (n : Nat) : Byte := BitVec.ofNat 8 n

/-- A flag or a line level: 1 means set or asserted (R179, "Flags"). -/
def flag (b : Bool) : Byte := if b then 1#8 else 0#8

/-- A temperature or a sensor limit as one signed byte (R179, "Numbers"). -/
def temperatureByte (t : Int) : Byte := BitVec.ofInt 8 t

/-- An address in transmission order (R179, "Numbers"). -/
def addrBytes (a : Addr) : List Byte :=
  [a.extractLsb' 40 8, a.extractLsb' 32 8, a.extractLsb' 24 8, a.extractLsb' 16 8, a.extractLsb' 8 8,
   a.extractLsb' 0 8]

/-- The byte at an offset; 0 past the end. -/
def byteAt (l : List Byte) (off : Nat) : Byte := l.getD off 0#8

/-- The number in one byte. -/
def nat8At (l : List Byte) (off : Nat) : Nat := (byteAt l off).toNat

/-- The two-byte number at an offset. -/
def nat16At (l : List Byte) (off : Nat) : Nat := nat8At l off * 256 + nat8At l (off + 1)

/-- The three-byte number at an offset. -/
def nat24At (l : List Byte) (off : Nat) : Nat := nat8At l off * 65536 + nat16At l (off + 1)

/-- The address at an offset. -/
def addrAt (l : List Byte) (off : Nat) : Addr :=
  byteAt l off ++ byteAt l (off + 1) ++ byteAt l (off + 2) ++ byteAt l (off + 3) ++ byteAt l (off + 4)
    ++ byteAt l (off + 5)

/-- The group bit of an address: the least significant bit of its first byte (R154, R158). -/
def groupBit (a : Addr) : Bool := a.getLsbD 40

/-- The sum of the six bytes of an address (R152). -/
def addrByteSum (a : Addr) : Nat := ((addrBytes a).map BitVec.toNat).sum

/-- Fills a list of bytes with zeros up to a length. -/
def padTo (n : Nat) (l : List Byte) : List Byte := l ++ List.replicate (n - l.length) 0#8

/-- A value outside a range is replaced by the nearer end of the range (R173). -/
def clamp (lo hi v : Nat) : Nat := max lo (min hi v)

/-- The same for a signed value (R59). -/
def clampInt (lo hi v : Int) : Int := max lo (min hi v)

/-- A count that stays at its top (R135, R164). -/
def countUp (top n : Nat) : Nat := if n < top then n + 1 else top

/-- One bit of the record CRC: polynomial x^16 + x^12 + x^5 + 1, most significant bit first (R53). -/
def crc16Bit (c : BitVec 16) : BitVec 16 :=
  if c.getLsbD 15 then (c <<< 1) ^^^ 0x1021#16 else c <<< 1

/-- One byte of the record CRC (R53). -/
def crc16Byte (c : BitVec 16) (b : Byte) : BitVec 16 :=
  (List.range 8).foldl (fun c _ => crc16Bit c) (c ^^^ (b.setWidth 16 <<< 8))

/-- The CRC of an announcement record: initial value 0xFFFF, no final inversion (R53). -/
def crc16 (l : List Byte) : BitVec 16 := l.foldl crc16Byte 0xFFFF#16

/-- One bit of the frame check: the polynomial of R129, taken least significant bit first. -/
def crc32Bit (c : BitVec 32) : BitVec 32 :=
  if c.getLsbD 0 then (c >>> 1) ^^^ 0xEDB88320#32 else c >>> 1

/-- One byte of the frame check (R129). -/
def crc32Byte (c : BitVec 32) (b : Byte) : BitVec 32 :=
  (List.range 8).foldl (fun c _ => crc32Bit c) (c ^^^ b.setWidth 32)

/-- The 32-bit frame check: initial value all ones, the result inverted (R129). -/
def crc32 (l : List Byte) : BitVec 32 := ~~~ l.foldl crc32Byte 0xFFFFFFFF#32

/-- The FCS field of a frame, its low byte first: with each byte taken least significant bit first, that puts the
coefficient of x^31 first on the line. PRESUMED from IEEE 802.3 (unsafe), notes/assumptions/9.md. -/
def fcsBytes (l : List Byte) : List Byte :=
  let c := crc32 l
  [c.extractLsb' 0 8, c.extractLsb' 8 8, c.extractLsb' 16 8, c.extractLsb' 24 8]

/-- A frame with its FCS computed afresh. -/
def withFcs (l : List Byte) : List Byte := l ++ fcsBytes l

end Sys2Proof.Machine
end

