-- ==== Sys2Proof/Machine/Records.lean ====
section
/-!
DEFINITION. The records the units hold, field by field as the spec's tables give them. Numbers are Nat with the
spec's range in the docstring; temperatures are Int.
-/

namespace Sys2Proof.Machine

/-- A running timer: the time it was started with and the clock reading at which it is due, in milliseconds. -/
structure Running where
  span : Nat
  due  : Nat
  deriving DecidableEq, Repr

/-- A timer is stopped (or expired), or running. -/
abbrev Timer := Option Running

/-! ### Slot Controller (chapter 1) -/

/-- The thirteen slot states, in the order of the table of section 1.2. -/
inductive SlotState where
  | empty
  | debounce
  | present
  | heldPower
  | powerWait
  | ramping
  | resetHold
  | announcing
  | heldOnline
  | online
  | draining
  | fault
  | disabled
  deriving DecidableEq, Repr

/-- Drain causes (R1). -/
inductive DrainCause where
  | none
  | command
  | denied
  | budget
  | thermal
  | emergency
  | admin
  | removed
  | fault
  deriving DecidableEq, Repr

/-- Drain next states (R1). -/
inductive DrainNext where
  | none
  | empty
  | present
  | powerWait
  | fault
  | disabled
  deriving DecidableEq, Repr

/-- Fault causes (R1). -/
inductive FaultCause where
  | none
  | noPowerGood
  | powerLost
  | announceTimeout
  | announceRejected
  | badRecord
  | thermal
  deriving DecidableEq, Repr

/-- The slot record (R1), with the presence level the Slot Controller keeps (R4). -/
structure Slot where
  presence   : Bool
  state      : SlotState
  drainCause : DrainCause
  drainNext  : DrainNext
  faultCause : FaultCause
  retryCount : Nat
  hold       : Timer
  debounce   : Timer
  retry      : Timer
  admission  : Nat
  deriving DecidableEq, Repr

/-- The hold default (R2). -/
inductive HoldDefault where
  | proceed
  | deny
  deriving DecidableEq, Repr

/-- The SLOT_POLICY item (R2, R78, R112). The hold timeout is in seconds, the retry interval in milliseconds. -/
structure SlotPolicy where
  adminEnable      : Bool
  autoPower        : Bool
  holdPower        : Bool
  holdOnline       : Bool
  restoreAfterShed : Bool
  holdDefault      : HoldDefault
  holdTimeout      : Nat
  retryLimit       : Nat
  retryInterval    : Nat
  bootAllowance    : Nat
  capFloor         : Nat
  priority         : Nat
  weights          : Vector Nat 3
  deriving DecidableEq, Repr

/-! ### CHASSIS settings (R176) -/

/-- The role of port 15, as setting and as port role (R130). -/
inductive PortRole where
  | slot
  | stack
  deriving DecidableEq, Repr

/-- The written fields of the CHASSIS item, in the order of their offsets (R179). -/
structure Chassis where
  mode             : RedundancyMode
  overhead         : Nat
  staleLimit       : Nat
  staleDemand      : Nat
  bootDemand       : Nat
  roleSetting      : PortRole
  etherType        : BitVec 16
  firstTimeout     : Nat
  gapTimeout       : Nat
  wholeTimeout     : Nat
  queryWait        : Nat
  holdDown         : Nat
  deadInterval     : Nat
  dischargeTime    : Nat
  resetHold        : Nat
  powerGoodTimeout : Nat
  debounce         : Nat
  settleTime       : Nat
  criticalGrace    : Nat
  deriving DecidableEq, Repr

/-! ### Rail Unit (chapter 2) -/

/-- Rail operations (R27). -/
inductive RailOp where
  | none
  | rampUp
  | rampDown
  | resetPulse
  deriving DecidableEq, Repr

/-- Stages of a rail operation, in the order of their codes (R27, R179). -/
inductive RailStage where
  | none
  | spacing
  | rising
  | resetting
  | stalled
  | discharging
  deriving DecidableEq, Repr

/-- The rail record (R27), with the slot's power-good level. -/
structure Rail where
  powerGood      : Bool
  mainEnable     : Bool
  discharge      : Bool
  bladeReset     : Bool
  powerCap       : Bool
  op             : RailOp
  stage          : RailStage
  downCause      : DrainCause
  seen           : Bool
  dead           : Timer
  powerGoodTimer : Timer
  resetTimer     : Timer
  dischargeTimer : Timer
  deriving DecidableEq, Repr

/-- What the Rail Unit reports to the Slot Controller. -/
inductive RailReport where
  | powerGoodSeen
  | powerGoodTimeout
  | resetReleased
  | powerLost
  | rampDownComplete
  deriving DecidableEq, Repr

/-! ### Announcement Receiver and Inventory Table (chapter 3) -/

/-- Modes of an assembly context (R43). -/
inductive ContextMode where
  | closed
  | window
  | refresh
  deriving DecidableEq, Repr

/-- The kinds of pending deadline (R43). -/
inductive DeadlineKind where
  | first
  | gap
  deriving DecidableEq, Repr

/-- A pending deadline and the clock reading at which it is due. -/
structure Deadline where
  kind : DeadlineKind
  due  : Nat
  deriving DecidableEq, Repr

/-- The assembly context (R43). "Bytes so far" is the length of the assembly. -/
structure Context where
  mode           : ContextMode
  expected       : Nat
  declaredLength : Option Nat
  declaredCount  : Option Nat
  assembly       : List Byte
  rejects        : Nat
  extensions     : Nat
  pending        : Option Deadline
  whole          : Option Nat
  replyAddr      : Option Addr
  replySeq       : Nat
  deriving DecidableEq, Repr

/-- Reasons of a REFUSE (R47), in the order of their codes. -/
inductive RefuseReason where
  | timeout
  | rejectLimit
  | badRecord
  deriving DecidableEq, Repr

/-- Status of a listed address (R60). -/
inductive AddrStatus where
  | installed
  | conflict
  | invalid
  deriving DecidableEq, Repr

/-- One entry of an inventory record's address list (R60). -/
structure ListedAddr where
  addr   : Addr
  status : AddrStatus
  deriving DecidableEq, Repr

/-- One entry of a sensor list (R60): id and limits in degrees Celsius. -/
structure SensorLimits where
  id   : SensorId
  lo   : Int
  hi   : Int
  crit : Int
  deriving DecidableEq, Repr

/-- A validated and repaired announcement record, before its addresses are offered (R58, R59). -/
structure Announced where
  vendor   : Nat
  hwRev    : Nat
  power    : Nat
  model    : List Byte
  serial   : List Byte
  firmware : List Byte
  addrs    : List Addr
  sensors  : List SensorLimits
  deriving DecidableEq, Repr

/-- The inventory record (R60). An empty firmware label is an absent one. -/
structure InvRecord where
  vendor     : Nat
  hwRev      : Nat
  power      : Nat
  generation : Nat
  model      : List Byte
  serial     : List Byte
  firmware   : List Byte
  addrs      : List ListedAddr
  sensors    : List SensorLimits
  deriving DecidableEq, Repr

/-- The Inventory Table's row of one slot: its record, if any, and its generation count (R60, R61). -/
structure Inventory where
  record     : Option InvRecord
  generation : Nat
  deriving DecidableEq, Repr

/-! ### Power Budget Unit (chapter 4) -/

/-- The PSU record (R69); the feed is fixed by the supply's number. -/
structure Psu where
  capacity  : Nat
  present   : Bool
  powerGood : Bool
  counted   : Bool
  settle    : Timer
  deriving DecidableEq, Repr

/-- The grant record (R75), with the capped mark the Power Budget Unit keeps (R38, R76). -/
structure Grant where
  grant        : Nat
  target       : Nat
  releasing    : Bool
  budgetCapped : Bool
  thermalCap   : Bool
  capped       : Bool
  admission    : Nat
  deriving DecidableEq, Repr

/-- Kinds of Power Request Queue entry (R79). -/
inductive EntryKind where
  | boot
  | upgrade
  deriving DecidableEq, Repr

/-- One Power Request Queue entry (R79). -/
structure PowerEntry where
  slot     : SlotId
  kind     : EntryKind
  priority : Nat
  seq      : Nat
  deriving DecidableEq, Repr

/-! ### Thermal Record Unit (chapter 5) -/

/-- A stored reading: its temperature and its age in milliseconds, 0 to 65535 (R96). -/
structure Reading where
  temp : Int
  age  : Nat
  deriving DecidableEq, Repr

/-- Validity of a sensor (R96). -/
inductive Validity where
  | none
  | valid
  | invalid
  deriving DecidableEq, Repr

/-- One sensor of a thermal record (R96). Last reading and age are absent together. -/
structure Sensor where
  limits   : SensorLimits
  last     : Option Reading
  validity : Validity
  deriving DecidableEq, Repr

/-- The thermal record (R96), its sensors in id order. -/
structure ThermalRecord where
  sensors  : List Sensor
  critical : Bool
  grace    : Timer
  deriving DecidableEq, Repr

/-! ### Fan Control Unit (chapter 6) -/

/-- The zone record (R110). -/
structure Zone where
  minDemand   : Nat
  slewUp      : Nat
  slewDown    : Nat
  stopAllowed : Bool
  command     : Nat
  target      : Nat
  forced      : Bool
  deriving DecidableEq, Repr

/-- Tach states (R120). -/
inductive TachState where
  | idle
  | armed
  | measuring
  deriving DecidableEq, Repr

/-- The latest tach period (R111). -/
inductive TachPeriod where
  | none
  | overflow
  | measured (us : Nat)
  deriving DecidableEq, Repr

/-- The fan record (R111): four settings, then the working state. The present field is the line's level. -/
structure Fan where
  minDrive   : Nat
  pulses     : Nat
  faultFloor : Nat
  fullPower  : Nat
  present    : Bool
  drive      : Nat
  effective  : Nat
  pending    : Option Nat
  kick       : Nat
  grace      : Nat
  faulted    : Bool
  low        : Nat
  high       : Nat
  tach       : TachState
  period     : TachPeriod
  overflow   : Bool
  rpm        : Nat
  deriving DecidableEq, Repr

/-! ### Uplink Steering Unit, Station Table, Slot Meters (chapter 8) -/

/-- The uplink record (R146); its link state is its port's. -/
structure Uplink where
  holdDown : Timer
  usable   : Bool
  deriving DecidableEq, Repr

/-- Modes of a group (R149). -/
inductive GroupMode where
  | failover
  | spread
  deriving DecidableEq, Repr

/-- The group record (R149). -/
structure Group where
  mode    : GroupMode
  members : List UplinkId
  active  : List UplinkId
  deriving DecidableEq, Repr

/-- The uplink map entry, the UPLINK_MAP item (R151). The depth is in KiB. -/
structure UplinkMap where
  group   : GroupId
  tag     : Nat
  rate    : RateCode
  capRate : RateCode
  depth   : Nat
  deriving DecidableEq, Repr

/-- A used Station Table entry (R157). -/
structure Station where
  addr : Addr
  slot : SlotId
  deriving DecidableEq, Repr

/-- The meter record (R161). -/
structure Meter where
  tokens      : Nat
  effective   : RateCode
  pending     : Option RateCode
  policeDrops : Nat
  deriving DecidableEq, Repr

/-! ### Service Unit (chapter 9) -/

/-- Access level of an identity (R166). -/
inductive Access where
  | observe
  | control
  deriving DecidableEq, Repr

/-- The identity record (R166). -/
structure Identity where
  enabled : Bool
  addr    : Addr
  access  : Access
  ports   : PortSet
  deriving DecidableEq, Repr

/-- A queued request (R169), with the address it was sent to (R167, notes/assumptions/11.md). -/
structure Request where
  port     : PortId
  source   : Addr
  identity : IdentityId
  sentTo   : Addr
  sequence : Nat
  payload  : List Byte
  deriving DecidableEq, Repr

/-- The ten status values of a RESPONSE, in the order of their codes (section 9.4). -/
inductive Status where
  | ok
  | okClamped
  | denied
  | badSpace
  | badIndex
  | badLength
  | badValue
  | readOnly
  | wrongState
  | busy
  deriving DecidableEq, Repr

/-- The writable part of one item, by space (section 9.5). -/
inductive Item where
  | classify (entry : ClassEntry)
  | uplinkMap (map : UplinkMap)
  | group (mode : GroupMode) (members : List UplinkId)
  | slotPolicy (policy : SlotPolicy)
  | psu (capacity : Nat)
  | fan (minDrive pulses faultFloor fullPower : Nat)
  | zone (minDemand slewUp slewDown : Nat) (stopAllowed : Bool)
  | chassis (settings : Chassis)
  | identity (record : Identity)
  | noticeCfg (cfg : NoticeCfg)
  deriving DecidableEq, Repr

/-- A checked WRITE in application: its items still to apply, each with its index, and its status (R174). -/
structure WriteJob where
  items  : List (Nat × Item)
  status : Status
  deriving DecidableEq, Repr

/-! ### Notice Queue (chapter 10) -/

/-- The 32 notice sources (R180). -/
inductive Source where
  | slot (slot : SlotId)
  | psu (psu : PsuId)
  | zone (zone : ZoneId)
  | uplink (uplink : UplinkId)
  | budget
  | chassis
  deriving DecidableEq, Repr

/-- The events of all sources (R179, event table). -/
inductive Event where
  | stateChange (slot : SlotId)
  | holdReached (slot : SlotId)
  | accepted (slot : SlotId)
  | refreshDone (slot : SlotId)
  | refreshFailed (slot : SlotId) (reason : RefuseReason)
  | addressChange (slot : SlotId)
  | thermalCapOn (slot : SlotId)
  | thermalCapOff (slot : SlotId)
  | countedChange (psu : PsuId)
  | fanFaultSet (fan : FanId)
  | fanFaultClear (fan : FanId)
  | fanPresenceChange (fan : FanId)
  | usableChange (uplink : UplinkId)
  | groupChange (uplink : UplinkId) (group : GroupId)
  | cappingPass
  | shedPass
  | capacityChange
  | interlockAsserted
  | interlockReleased
  | warmResetDone
  deriving DecidableEq, Repr

/-- A pending notice (R180). Each event stands at its bit of the event set. -/
structure Notice where
  source : Source
  events : BitVec 16
  reason : Nat
  deriving DecidableEq, Repr

/-! ### Frames sent -/

/-- What a sent frame is: one of the four kinds the part originates (R129), an upstream frame or a delivered one. -/
inductive SentKind where
  | response
  | notice
  | announceReply
  | query
  | upstream (slot : SlotId)
  | delivered
  deriving DecidableEq, Repr

/-- One frame handed to a port whose link is up: the MODEL's own record of the part's output. -/
structure Sent where
  port  : PortId
  kind  : SentKind
  bytes : List Byte
  deriving DecidableEq, Repr

end Sys2Proof.Machine
end

