-- ==== Sys2Proof/Machine/PowerOn.lean ====
section
/-!
DEFINITION. The value of every record after power-on reset, from the levels sampled there.
-/

namespace Sys2Proof.Machine

/-- Every sampled level deasserted and the straps 0: the levels State.reset takes.
DESIGN CHOICE (unsafe), notes/assumptions/6.md. -/
def idlePins : Pins where
  straps := 0#8
  interlock := false
  warmReset := false
  presence := Vector.replicate 16 false
  powerGood := Vector.replicate 16 false
  psuPresent := Vector.replicate 6 false
  psuGood := Vector.replicate 6 false
  fanPresent := Vector.replicate 6 false

/-- The CHASSIS settings after power-on reset (R2, R29, R54, R70, R72, R73, R97, R130, R133, R146). -/
def chassisPowerOn : Chassis where
  mode := .nPlus1
  overhead := 200
  staleLimit := 5000
  staleDemand := 600
  bootDemand := 400
  roleSetting := .slot
  etherType := 0x88B6#16
  firstTimeout := 5000
  gapTimeout := 500
  wholeTimeout := 15000
  queryWait := 2000
  holdDown := 2000
  deadInterval := 20
  dischargeTime := 500
  resetHold := 100
  powerGoodTimeout := 200
  debounce := 50
  settleTime := 1000
  criticalGrace := 10000

/-- The slot record after power-on reset (R1, R4): DEBOUNCE with its timer where presence is asserted. -/
def slotPowerOn (presence : Bool) : Slot where
  presence := presence
  state := if presence then .debounce else .empty
  drainCause := .none
  drainNext := .none
  faultCause := .none
  retryCount := 0
  hold := none
  debounce := if presence then some ⟨chassisPowerOn.debounce, chassisPowerOn.debounce⟩ else none
  retry := none
  admission := 0

/-- The SLOT_POLICY item after power-on reset (R2, R78, R112). -/
def policyPowerOn : SlotPolicy where
  adminEnable := true
  autoPower := true
  holdPower := false
  holdOnline := false
  restoreAfterShed := true
  holdDefault := .proceed
  holdTimeout := 0
  retryLimit := 3
  retryInterval := 2000
  bootAllowance := 60
  capFloor := 150
  priority := 4
  weights := Vector.replicate 3 8

/-- The rail record after power-on reset (R27): blade reset asserted, the dead interval running. -/
def railPowerOn (powerGood : Bool) : Rail where
  powerGood := powerGood
  mainEnable := false
  discharge := false
  bladeReset := true
  powerCap := false
  op := .none
  stage := .none
  downCause := .none
  seen := false
  dead := some ⟨chassisPowerOn.deadInterval, chassisPowerOn.deadInterval⟩
  powerGoodTimer := none
  resetTimer := none
  dischargeTimer := none

/-- A CLOSED context, which is also the context after power-on reset (R43). -/
def contextClosed : Context where
  mode := .closed
  expected := 0
  declaredLength := none
  declaredCount := none
  assembly := []
  rejects := 0
  extensions := 0
  pending := none
  whole := none
  replyAddr := none
  replySeq := 0

/-- The PSU record after power-on reset (R69). -/
def psuPowerOn (present powerGood : Bool) : Psu where
  capacity := 0
  present := present
  powerGood := powerGood
  counted := false
  settle := if present && powerGood then some ⟨chassisPowerOn.settleTime, chassisPowerOn.settleTime⟩ else none

/-- The grant record after power-on reset (R75). -/
def grantPowerOn : Grant where
  grant := 0
  target := 0
  releasing := false
  budgetCapped := false
  thermalCap := false
  capped := false
  admission := 0

/-- An empty thermal record, which is also the record after power-on reset (R96) and after clearing (R98). -/
def thermalEmpty : ThermalRecord where
  sensors := []
  critical := false
  grace := none

/-- The zone record after power-on reset (R110). -/
def zonePowerOn : Zone where
  minDemand := 250
  slewUp := 1000
  slewDown := 20
  stopAllowed := false
  command := 1000
  target := 0
  forced := false

/-- The fan record after power-on reset (R111). -/
def fanPowerOn (present : Bool) : Fan where
  minDrive := 200
  pulses := 2
  faultFloor := 1500
  fullPower := 40
  present := present
  drive := if present then 1000 else 0
  effective := if present then 400 else 0
  pending := none
  kick := if present then 2 else 0
  grace := if present then 4 else 0
  faulted := false
  low := 0
  high := 0
  tach := if present then .armed else .idle
  period := .none
  overflow := present
  rpm := 0

/-- A Classification Table entry after power-on reset (R140). -/
def classEntryPowerOn : ClassEntry where
  valid := false
  ports := 0#20
  dstValue := 0#48
  dstMask := 0#48
  typeValue := 0#16
  typeMask := 0#16
  kindValue := 0#8
  kindMask := 0#8
  tagMatch := .any
  action := .forward
  redirect := 0

/-- The group record after power-on reset (R149). -/
def groupPowerOn (g : GroupId) : Group where
  mode := .failover
  members := if g = 0 then [0, 1, 2, 3] else []
  active := []

/-- The uplink map entry after power-on reset (R151). -/
def uplinkMapPowerOn : UplinkMap where
  group := 0
  tag := 0
  rate := 0
  capRate := 0
  depth := 64

/-- The meter record after power-on reset (R161): tokens equal to the depth. -/
def meterPowerOn : Meter where
  tokens := 1024 * uplinkMapPowerOn.depth
  effective := 0
  pending := none
  policeDrops := 0

/-- The identity record after power-on reset (R166): identity 0 is 02-3C-71-A0-00-nn on U0 to U3. -/
def identityPowerOn (straps : Byte) (i : IdentityId) : Identity :=
  if i = 0 then ⟨true, 0x023C71A000#40 ++ straps, .control, 0xF0000#20⟩
  else ⟨false, 0#48, .observe, 0#20⟩

/-- The NOTICE_CFG item after power-on reset (R180). -/
def noticeCfgPowerOn : NoticeCfg where
  enable := false
  dst := 0#48
  egress := 16
  spacing := 10

end Sys2Proof.Machine
end

