-- ==== Sys2Proof/Machine/State.lean ====
section
/-!
DEFINITION. The state of the part: every piece of state the spec names, as plain data, each in the unit that holds it.
The model's own fields are `clock`, `sent` and `pending` (INVENTORY.md, "State").
-/

namespace Sys2Proof.Machine

/-- The whole state. INVENTORY.md lists each field with its rule and its reset value. -/
structure State where
  /-- The MODEL's own: whole milliseconds since power-on reset, advanced by EPOCH (notes/assumptions/4.md). -/
  clock            : Nat
  slots            : Vector Slot 16
  policies         : Vector SlotPolicy 16
  chassis          : Chassis
  interlock        : Bool
  rails            : Vector Rail 16
  contexts         : Vector Context 16
  inventory        : Vector Inventory 16
  psus             : Vector Psu 6
  grants           : Vector Grant 16
  powerQueue       : List PowerEntry
  queueCounter     : Nat
  admissionCounter : Nat
  thermal          : Vector ThermalRecord 16
  zones            : Vector Zone 3
  fans             : Vector Fan 6
  links            : Vector Bool 20
  portRole         : PortRole
  gateDrops        : Vector Nat 16
  classify         : Vector ClassEntry 64
  uplinks          : Vector Uplink 5
  groups           : Vector Group 4
  uplinkMap        : Vector UplinkMap 16
  stations         : Vector (Option Station) 64
  meters           : Vector Meter 16
  chassisNumber    : Byte
  identities       : Vector Identity 4
  requests         : List Request
  writeJob         : Option WriteJob
  warmHeld         : Bool
  notices          : List Notice
  noticeCfg        : NoticeCfg
  spacing          : Timer
  noticeSeq        : Nat
  /-- The MODEL's own: the frames handed to ports whose link is up, oldest first (notes/assumptions/8.md). -/
  sent             : List Sent
  /-- The commands that wait, first in first out. -/
  pending          : List Instr
  deriving DecidableEq, Repr

/-- The reasons a step can end in a fault. There is none: nothing in the spec stops the part, so the type has no
constructor and no meaning raises a fault (notes/assumptions/32.md, safe). -/
inductive Fault where
  deriving DecidableEq, Repr

/-- The reasons a step can be refused. -/
inductive Refusal where
  /-- Raised by an arm of exec whose command has no meaning yet; no arm of this model is such an arm. Safe: nothing is
  said about such a command. -/
  | notModelled (mnemonic : String)
  deriving DecidableEq, Repr

/-- The state after power-on reset, from the levels sampled there (R1, R27, R43, R69, R75, R79, R96, R110, R111, R129,
R130, R135, R140, R146, R149, R151, R157, R161, R166, R169, R178, R180). -/
def State.powerOn (pins : Pins) : State where
  clock := 0
  slots := Tab.make fun i => slotPowerOn (Tab.get pins.presence i)
  policies := Tab.make fun _ => policyPowerOn
  chassis := chassisPowerOn
  interlock := pins.interlock
  rails := Tab.make fun i => railPowerOn (Tab.get pins.powerGood i)
  contexts := Tab.make fun _ => contextClosed
  inventory := Tab.make fun _ => ⟨none, 0⟩
  psus := Tab.make fun i => psuPowerOn (Tab.get pins.psuPresent i) (Tab.get pins.psuGood i)
  grants := Tab.make fun _ => grantPowerOn
  powerQueue := []
  queueCounter := 0
  admissionCounter := 0
  thermal := Tab.make fun _ => thermalEmpty
  zones := Tab.make fun _ => zonePowerOn
  fans := Tab.make fun i => fanPowerOn (Tab.get pins.fanPresent i)
  links := Tab.make fun _ => false
  portRole := .slot
  gateDrops := Tab.make fun _ => 0
  classify := Tab.make fun _ => classEntryPowerOn
  uplinks := Tab.make fun _ => ⟨none, false⟩
  groups := Tab.make groupPowerOn
  uplinkMap := Tab.make fun _ => uplinkMapPowerOn
  stations := Tab.make fun _ => none
  meters := Tab.make fun _ => meterPowerOn
  chassisNumber := pins.straps
  identities := Tab.make (identityPowerOn pins.straps)
  requests := []
  writeJob := none
  warmHeld := pins.warmReset
  notices := []
  noticeCfg := noticeCfgPowerOn
  spacing := none
  noticeSeq := 0
  sent := []
  pending := []

/-- The part right after power-on reset with every sampled level deasserted (notes/assumptions/6.md). -/
def State.reset : State := State.powerOn idlePins

end Sys2Proof.Machine
end

