-- ==== Sys2Proof/Machine/Ops.lean ====
section
/-!
DEFINITION. The named operations over the tables: one read and one change for each, the timers, and the ports of
uplinks. Every unit reads and changes its records through these.
-/

namespace Sys2Proof.Machine

/-- Reads the slot record (R1). -/
def State.slot (s : State) (i : SlotId) : Slot := Tab.get s.slots i

/-- Changes the slot record (R1). -/
def State.updSlot (s : State) (i : SlotId) (f : Slot → Slot) : State :=
  { s with slots := Tab.upd s.slots i f }

/-- Reads the slot policy (R2, R78, R112). -/
def State.policy (s : State) (i : SlotId) : SlotPolicy := Tab.get s.policies i

/-- Changes the slot policy (R2, R78, R112). -/
def State.updPolicy (s : State) (i : SlotId) (f : SlotPolicy → SlotPolicy) : State :=
  { s with policies := Tab.upd s.policies i f }

/-- Reads the rail record (R27). -/
def State.rail (s : State) (i : SlotId) : Rail := Tab.get s.rails i

/-- Changes the rail record (R27). -/
def State.updRail (s : State) (i : SlotId) (f : Rail → Rail) : State :=
  { s with rails := Tab.upd s.rails i f }

/-- Reads the assembly context (R43). -/
def State.context (s : State) (i : SlotId) : Context := Tab.get s.contexts i

/-- Changes the assembly context (R43). -/
def State.updContext (s : State) (i : SlotId) (f : Context → Context) : State :=
  { s with contexts := Tab.upd s.contexts i f }

/-- Reads the Inventory Table row (R60, R61). -/
def State.inv (s : State) (i : SlotId) : Inventory := Tab.get s.inventory i

/-- Changes the Inventory Table row (R60, R61). -/
def State.updInv (s : State) (i : SlotId) (f : Inventory → Inventory) : State :=
  { s with inventory := Tab.upd s.inventory i f }

/-- Reads the PSU record (R69). -/
def State.psu (s : State) (i : PsuId) : Psu := Tab.get s.psus i

/-- Changes the PSU record (R69). -/
def State.updPsu (s : State) (i : PsuId) (f : Psu → Psu) : State :=
  { s with psus := Tab.upd s.psus i f }

/-- Reads the grant record (R75). -/
def State.grantOf (s : State) (i : SlotId) : Grant := Tab.get s.grants i

/-- Changes the grant record (R75). -/
def State.updGrant (s : State) (i : SlotId) (f : Grant → Grant) : State :=
  { s with grants := Tab.upd s.grants i f }

/-- Reads the thermal record (R96). -/
def State.thermalOf (s : State) (i : SlotId) : ThermalRecord := Tab.get s.thermal i

/-- Changes the thermal record (R96). -/
def State.updThermal (s : State) (i : SlotId) (f : ThermalRecord → ThermalRecord) : State :=
  { s with thermal := Tab.upd s.thermal i f }

/-- Reads the zone record (R110). -/
def State.zone (s : State) (i : ZoneId) : Zone := Tab.get s.zones i

/-- Changes the zone record (R110). -/
def State.updZone (s : State) (i : ZoneId) (f : Zone → Zone) : State :=
  { s with zones := Tab.upd s.zones i f }

/-- Reads the fan record (R111). -/
def State.fan (s : State) (i : FanId) : Fan := Tab.get s.fans i

/-- Changes the fan record (R111). -/
def State.updFan (s : State) (i : FanId) (f : Fan → Fan) : State :=
  { s with fans := Tab.upd s.fans i f }

/-- Reads the link state of a port (R129). -/
def State.link (s : State) (i : PortId) : Bool := Tab.get s.links i

/-- Changes the link state of a port (R129). -/
def State.updLink (s : State) (i : PortId) (f : Bool → Bool) : State :=
  { s with links := Tab.upd s.links i f }

/-- Reads the gate-drop count (R135). -/
def State.gateDrop (s : State) (i : SlotId) : Nat := Tab.get s.gateDrops i

/-- Changes the gate-drop count (R135). -/
def State.updGateDrop (s : State) (i : SlotId) (f : Nat → Nat) : State :=
  { s with gateDrops := Tab.upd s.gateDrops i f }

/-- Reads the Classification Table entry (R140). -/
def State.classEntry (s : State) (i : Fin 64) : ClassEntry := Tab.get s.classify i

/-- Changes the Classification Table entry (R140). -/
def State.updClassEntry (s : State) (i : Fin 64) (f : ClassEntry → ClassEntry) : State :=
  { s with classify := Tab.upd s.classify i f }

/-- Reads the uplink record (R146). -/
def State.uplink (s : State) (i : UplinkId) : Uplink := Tab.get s.uplinks i

/-- Changes the uplink record (R146). -/
def State.updUplink (s : State) (i : UplinkId) (f : Uplink → Uplink) : State :=
  { s with uplinks := Tab.upd s.uplinks i f }

/-- Reads the group record (R149). -/
def State.group (s : State) (i : GroupId) : Group := Tab.get s.groups i

/-- Changes the group record (R149). -/
def State.updGroup (s : State) (i : GroupId) (f : Group → Group) : State :=
  { s with groups := Tab.upd s.groups i f }

/-- Reads the uplink map entry (R151). -/
def State.map (s : State) (i : SlotId) : UplinkMap := Tab.get s.uplinkMap i

/-- Changes the uplink map entry (R151). -/
def State.updMap (s : State) (i : SlotId) (f : UplinkMap → UplinkMap) : State :=
  { s with uplinkMap := Tab.upd s.uplinkMap i f }

/-- Reads the Station Table entry (R157). -/
def State.station (s : State) (i : Fin 64) : Option Station := Tab.get s.stations i

/-- Changes the Station Table entry (R157). -/
def State.updStation (s : State) (i : Fin 64) (f : Option Station → Option Station) : State :=
  { s with stations := Tab.upd s.stations i f }

/-- Reads the meter record (R161). -/
def State.meter (s : State) (i : SlotId) : Meter := Tab.get s.meters i

/-- Changes the meter record (R161). -/
def State.updMeter (s : State) (i : SlotId) (f : Meter → Meter) : State :=
  { s with meters := Tab.upd s.meters i f }

/-- Reads the identity record (R166). -/
def State.identity (s : State) (i : IdentityId) : Identity := Tab.get s.identities i

/-- Changes the identity record (R166). -/
def State.updIdentity (s : State) (i : IdentityId) (f : Identity → Identity) : State :=
  { s with identities := Tab.upd s.identities i f }

/-- Every slot, in ascending order. -/
def allSlots : List SlotId := List.finRange 16

/-- A timer started now with a time. -/
def State.timer (s : State) (span : Nat) : Timer := some ⟨span, s.clock + span⟩

/-- Milliseconds left on a timer as an item shows them: 65535 where it is stopped (R179, "Timers"), and 0 where the due
time is reached and the expiry not yet taken (notes/assumptions/22.md). -/
def State.timeLeft (s : State) : Timer → Nat
  | none => Config.stoppedTimerImage
  | some r => r.due - s.clock

/-- The hold timer's time left in seconds, rounded up (R179, "Timers"). -/
def State.holdLeft (s : State) : Timer → Nat
  | none => Config.stoppedTimerImage
  | some r => (r.due - s.clock + 999) / 1000

/-- The port of an uplink: U0 to U3 are ports 16 to 19, U4 is port 15 (section 7.1). -/
def uplinkPort : UplinkId → PortId
  | 0 => 16
  | 1 => 17
  | 2 => 18
  | 3 => 19
  | 4 => 15

/-- The uplink of a port, if it is one's: port 15 is U4's whichever role it holds (R146). -/
def portUplink (p : PortId) : Option UplinkId :=
  (List.finRange 5).find? fun u => uplinkPort u = p

/-- The port of a slot: slot s is served by port S(s) ("Names"). -/
def slotPort (i : SlotId) : PortId := i.castLE (by decide)

/-- The link state of an uplink: its port's (R146). -/
def State.uplinkLink (s : State) (u : UplinkId) : Bool := s.link (uplinkPort u)

/-- Slot 15, which port 15 serves in the SLOT role. -/
def slot15 : SlotId := 15

/-- U4, which port 15 is in the STACK role. -/
def uplink4 : UplinkId := 4

end Sys2Proof.Machine
end

