-- ==== Sys2Proof/Machine/Flags.lean ====
section
/-!
DEFINITION. The marks and figures the units compute rather than store: capacity, headroom, cap level, the capped mark,
the wanted rate code, staleness, demand, the disable condition, the use of an uplink.
-/

namespace Sys2Proof.Machine

/-! ### Capacity (R72, R73, R77) -/

/-- Feed A is P0 to P2, feed B is P3 to P5 (R69). -/
def feedB (p : PsuId) : Bool := 3 ≤ p.val

/-- The capacity a supply adds while it is counted. -/
def Psu.countedCapacity (p : Psu) : Nat := if p.counted then p.capacity else 0

/-- A: the capacities of the counted supplies of feed A (R72). -/
def State.feedACapacity (s : State) : Nat :=
  ((List.finRange 6).map fun p => if feedB p then 0 else (s.psu p).countedCapacity).sum

/-- B: the same for feed B (R72). -/
def State.feedBCapacity (s : State) : Nat :=
  ((List.finRange 6).map fun p => if feedB p then (s.psu p).countedCapacity else 0).sum

/-- The largest capacity among all counted supplies, 0 where none is counted (R72). -/
def State.largestCounted (s : State) : Nat :=
  ((List.finRange 6).map fun p => (s.psu p).countedCapacity).foldl max 0

/-- The usable capacity under the redundancy mode (R72). -/
def State.usableCapacity (s : State) : Nat :=
  match s.chassis.mode with
  | .none => s.feedACapacity + s.feedBCapacity
  | .nPlus1 => s.feedACapacity + s.feedBCapacity - s.largestCounted
  | .grid => min s.feedACapacity s.feedBCapacity

/-- The reserve R: the overhead and the full power of each present fan, faulted or not (R73). -/
def State.reserve (s : State) : Nat :=
  s.chassis.overhead + ((List.finRange 6).map fun f => if (s.fan f).present then (s.fan f).fullPower else 0).sum

/-- C_avail = max(0, usable capacity - R) (R73). -/
def State.cAvail (s : State) : Nat := s.usableCapacity - s.reserve

/-- The sum of the grants not marked releasing (R77). -/
def State.grantsHeld (s : State) : Nat :=
  (allSlots.map fun i => if (s.grantOf i).releasing then 0 else (s.grantOf i).grant).sum

/-- The sum of the grants marked releasing (R95). -/
def State.grantsReleasing (s : State) : Nat :=
  (allSlots.map fun i => if (s.grantOf i).releasing then (s.grantOf i).grant else 0).sum

/-- Headroom H, which may fall below 0 inside a capacity recomputation (R77). -/
def State.headroom (s : State) : Int := (s.cAvail : Int) - (s.grantsHeld : Int)

/-- The cap level: the smaller of the cap floor and the target, read at each use (R75). -/
def State.capLevel (s : State) (i : SlotId) : Nat := min (s.policy i).capFloor (s.grantOf i).target

/-- What the capped mark should be: grant below target, or thermal cap set (R76). -/
def Grant.shouldCap (g : Grant) : Bool := g.grant < g.target || g.thermalCap

/-- The slot's wanted rate code (R162). -/
def State.wantedRate (s : State) (i : SlotId) : RateCode :=
  if (s.grantOf i).capped then (s.map i).capRate else (s.map i).rate

/-- The slot's entry of the Power Request Queue, if any (R79). -/
def State.entryOf (s : State) (i : SlotId) : Option PowerEntry := s.powerQueue.find? fun e => e.slot = i

/-! ### Slots -/

/-- The disable condition (R25): admin_enable 0, or slot 15 with the role setting STACK. -/
def State.disableCondition (s : State) (i : SlotId) : Bool :=
  !(s.policy i).adminEnable || (i = slot15 && s.chassis.roleSetting = .stack)

/-- A powered state that a drain may start from: powered, and not DRAINING (section 1.2, R19). -/
def SlotState.drainable : SlotState → Bool
  | .ramping => true
  | .resetHold => true
  | .announcing => true
  | .heldOnline => true
  | .online => true
  | .empty => false
  | .debounce => false
  | .present => false
  | .heldPower => false
  | .powerWait => false
  | .draining => false
  | .fault => false
  | .disabled => false

/-- A state whose power-good fall is acted on (R14). -/
def SlotState.heedsPowerLost : SlotState → Bool
  | .resetHold => true
  | .announcing => true
  | .heldOnline => true
  | .online => true
  | .empty => false
  | .debounce => false
  | .present => false
  | .heldPower => false
  | .powerWait => false
  | .ramping => false
  | .draining => false
  | .fault => false
  | .disabled => false

/-- A state in which a slot may be given a re-offered address: not EMPTY, DEBOUNCE or DISABLED (R159). -/
def SlotState.mayHoldStation : SlotState → Bool
  | .empty => false
  | .debounce => false
  | .disabled => false
  | .present => true
  | .heldPower => true
  | .powerWait => true
  | .ramping => true
  | .resetHold => true
  | .announcing => true
  | .heldOnline => true
  | .online => true
  | .draining => true
  | .fault => true

/-- A fault cause that is retried (R26). -/
def FaultCause.retryable : FaultCause → Bool
  | .noPowerGood => true
  | .powerLost => true
  | .announceTimeout => true
  | .announceRejected => true
  | .none => false
  | .badRecord => false
  | .thermal => false

/-! ### Thermal (R101 to R103, R105) -/

/-- A sensor is stale while its validity is NONE or INVALID or its age exceeds the stale limit (R101). -/
def Sensor.stale (limit : Nat) (x : Sensor) : Bool :=
  match x.last with
  | none => true
  | some r => x.validity ≠ .valid || limit < r.age

/-- The sensor demand of a fresh reading t (R102). -/
def freshDemand (l : SensorLimits) (t : Int) : Nat :=
  if l.lo < l.hi then
    if t ≤ l.lo then 0
    else if l.hi ≤ t then 1000
    else (1000 * (t - l.lo) / (l.hi - l.lo)).toNat
  else if l.hi ≤ t then 1000 else 0

/-- The sensor demand (R102). -/
def State.sensorDemand (s : State) (x : Sensor) : Nat :=
  if x.stale s.chassis.staleLimit then s.chassis.staleDemand
  else match x.last with
    | none => s.chassis.staleDemand
    | some r => freshDemand x.limits r.temp

/-- The slot demand d_s (R103). -/
def State.slotDemand (s : State) (i : SlotId) : Nat :=
  match (s.slot i).state with
  | .empty => 0
  | .debounce => 0
  | .present => 0
  | .heldPower => 0
  | .powerWait => 0
  | .fault => 0
  | .disabled => 0
  | .ramping => s.chassis.bootDemand
  | .resetHold => s.chassis.bootDemand
  | .announcing => s.chassis.bootDemand
  | .heldOnline => s.chassis.bootDemand
  | .draining => s.chassis.bootDemand
  | .online =>
    if (s.thermalOf i).sensors = [] then s.chassis.staleDemand
    else ((s.thermalOf i).sensors.map s.sensorDemand).foldl max 0

/-- A sensor is at or above its critical limit, with a VALID reading that is not stale (R104). -/
def Sensor.critical (limit : Nat) (x : Sensor) : Bool :=
  !x.stale limit && match x.last with
    | none => false
    | some r => x.limits.crit ≤ r.temp

/-- A sensor is cool: stale, or below its T_crit less 3 (R105). -/
def Sensor.cool (limit : Nat) (x : Sensor) : Bool :=
  x.stale limit || match x.last with
    | none => true
    | some r => r.temp < x.limits.crit - Config.criticalMargin

/-! ### Uplinks and meters -/

/-- The members of a group that are usable, in member-list order (R150). -/
def State.usableMembers (s : State) (members : List UplinkId) : List UplinkId :=
  members.filter fun u => (s.uplink u).usable

/-- The bucket depth in bytes (R161). -/
def UplinkMap.depthBytes (m : UplinkMap) : Nat := 1024 * m.depth

/-- The refill per epoch of the codes 1 to 14, in bytes (R161). Code 0 and code 15 are not refilled by an amount. -/
def refillBytes (c : RateCode) : Nat :=
  [0, 125, 250, 625, 1250, 2500, 6250, 12500, 25000, 62500, 125000, 250000, 312500, 625000, 1250000, 0].getD c.val 0

/-! ### Fans -/

/-- The compare value of a drive (R119). -/
def compareOf (drive : Nat) : Nat := drive * 400 / 1000

/-- The reported rpm of a period and a number of pulses per revolution (R122). -/
def rpmOf (period : TachPeriod) (pulses : Nat) : Nat :=
  match period with
  | .none => 0
  | .overflow => 0
  | .measured us => 60000000 / (us * pulses)

/-- The two fans of a zone (section 6.1). -/
def zoneFans : ZoneId → List FanId
  | 0 => [0, 1]
  | 1 => [2, 3]
  | 2 => [4, 5]

/-- The zone of a fan. -/
def fanZone (f : FanId) : ZoneId := ⟨f.val / 2, by omega⟩

/-- A slot's contribution to a zone (R115). -/
def contribution (demand weight : Nat) : Nat := demand * weight / 8

end Sys2Proof.Machine
end

