-- ==== Sys2Proof/Machine/Images.lean ====
section
/-!
DEFINITION. The codes and the byte images of section 9.8 (R179): the write image and the read image of every item.
-/

namespace Sys2Proof.Machine

/-! ### Codes -/

/-- Slot states follow the table of section 1.2 (R179). -/
def SlotState.code : SlotState → Nat
  | .empty => 0
  | .debounce => 1
  | .present => 2
  | .heldPower => 3
  | .powerWait => 4
  | .ramping => 5
  | .resetHold => 6
  | .announcing => 7
  | .heldOnline => 8
  | .online => 9
  | .draining => 10
  | .fault => 11
  | .disabled => 12

/-- Drain causes follow R1. -/
def DrainCause.code : DrainCause → Nat
  | .none => 0
  | .command => 1
  | .denied => 2
  | .budget => 3
  | .thermal => 4
  | .emergency => 5
  | .admin => 6
  | .removed => 7
  | .fault => 8

/-- Drain next states follow R1. -/
def DrainNext.code : DrainNext → Nat
  | .none => 0
  | .empty => 1
  | .present => 2
  | .powerWait => 3
  | .fault => 4
  | .disabled => 5

/-- Fault causes follow R1. -/
def FaultCause.code : FaultCause → Nat
  | .none => 0
  | .noPowerGood => 1
  | .powerLost => 2
  | .announceTimeout => 3
  | .announceRejected => 4
  | .badRecord => 5
  | .thermal => 6

/-- Rail operations follow R27. -/
def RailOp.code : RailOp → Nat
  | .none => 0
  | .rampUp => 1
  | .rampDown => 2
  | .resetPulse => 3

/-- Stages as the SLOT_STATUS layout codes them. -/
def RailStage.code : RailStage → Nat
  | .none => 0
  | .spacing => 1
  | .rising => 2
  | .resetting => 3
  | .stalled => 4
  | .discharging => 5

/-- Assembly modes follow R43. -/
def ContextMode.code : ContextMode → Nat
  | .closed => 0
  | .window => 1
  | .refresh => 2

/-- Status values follow section 9.4. -/
def Status.code : Status → Nat
  | .ok => 0
  | .okClamped => 1
  | .denied => 2
  | .badSpace => 3
  | .badIndex => 4
  | .badLength => 5
  | .badValue => 6
  | .readOnly => 7
  | .wrongState => 8
  | .busy => 9

/-- REFUSE reasons (R179, ANNOUNCE_REPLY). -/
def RefuseReason.code : RefuseReason → Nat
  | .timeout => 0
  | .rejectLimit => 1
  | .badRecord => 2

/-- Address statuses (R179, INVENTORY). -/
def AddrStatus.code : AddrStatus → Nat
  | .installed => 0
  | .conflict => 1
  | .invalid => 2

/-- Validity (R179, THERMAL). -/
def Validity.code : Validity → Nat
  | .none => 0
  | .valid => 1
  | .invalid => 2

/-- Queue entry kinds (R179, SLOT_STATUS and POWER_STATUS). -/
def EntryKind.code : EntryKind → Nat
  | .boot => 1
  | .upgrade => 2

/-- Redundancy modes (R179, CHASSIS). -/
def redundancyCode : RedundancyMode → Nat
  | .none => 0
  | .nPlus1 => 1
  | .grid => 2

/-- Roles of port 15 (R179, CHASSIS). -/
def PortRole.code : PortRole → Nat
  | .slot => 0
  | .stack => 1

/-- Tag matches (R179, CLASSIFY). -/
def tagMatchCode : TagMatch → Nat
  | .any => 0
  | .tagged => 1
  | .untagged => 2

/-- Actions (R179, CLASSIFY). -/
def actionCode : ClassAction → Nat
  | .forward => 0
  | .forwardSnoop => 1
  | .drop => 2
  | .redirect => 3

/-- Group modes (R179, GROUPS). -/
def GroupMode.code : GroupMode → Nat
  | .failover => 0
  | .spread => 1

/-- Tach states (R179, FAN_STATUS). -/
def TachState.code : TachState → Nat
  | .idle => 0
  | .armed => 1
  | .measuring => 2

/-- Notice sources (R179). -/
def Source.code : Source → Nat
  | .slot i => i.val
  | .psu p => 16 + p.val
  | .zone z => 22 + z.val
  | .uplink u => 25 + u.val
  | .budget => 30
  | .chassis => 31

/-- The source of an event (R179, event table). -/
def Event.source : Event → Source
  | .stateChange i => .slot i
  | .holdReached i => .slot i
  | .accepted i => .slot i
  | .refreshDone i => .slot i
  | .refreshFailed i _ => .slot i
  | .addressChange i => .slot i
  | .thermalCapOn i => .slot i
  | .thermalCapOff i => .slot i
  | .countedChange p => .psu p
  | .fanFaultSet f => .zone (fanZone f)
  | .fanFaultClear f => .zone (fanZone f)
  | .fanPresenceChange f => .zone (fanZone f)
  | .usableChange u => .uplink u
  | .groupChange u _ => .uplink u
  | .cappingPass => .budget
  | .shedPass => .budget
  | .capacityChange => .budget
  | .interlockAsserted => .chassis
  | .interlockReleased => .chassis
  | .warmResetDone => .chassis

/-- The bit of an event in its source's event set, counted from 0 (R179, event table). -/
def Event.bit : Event → Nat
  | .stateChange _ => 0
  | .holdReached _ => 1
  | .accepted _ => 2
  | .refreshDone _ => 3
  | .refreshFailed _ _ => 4
  | .addressChange _ => 5
  | .thermalCapOn _ => 6
  | .thermalCapOff _ => 7
  | .countedChange _ => 0
  | .fanFaultSet f => f.val % 2
  | .fanFaultClear f => 2 + f.val % 2
  | .fanPresenceChange f => 4 + f.val % 2
  | .usableChange _ => 0
  | .groupChange _ g => 1 + g.val
  | .cappingPass => 0
  | .shedPass => 1
  | .capacityChange => 2
  | .interlockAsserted => 0
  | .interlockReleased => 1
  | .warmResetDone => 2

/-! ### Write images -/

/-- CLASSIFY, 25 bytes. -/
def classifyImage (e : ClassEntry) : List Byte :=
  [flag e.valid] ++ be24 e.ports.toNat ++ addrBytes e.dstValue ++ addrBytes e.dstMask ++ be16 e.typeValue.toNat
    ++ be16 e.typeMask.toNat
    ++ [e.kindValue, e.kindMask, byte1 (tagMatchCode e.tagMatch), byte1 (actionCode e.action), byte1 e.redirect.val]

/-- UPLINK_MAP, 7 bytes. -/
def uplinkMapImage (m : UplinkMap) : List Byte :=
  [byte1 m.group.val] ++ be16 m.tag ++ [byte1 m.rate.val, byte1 m.capRate.val] ++ be16 m.depth

/-- GROUPS, the 6 bytes of the write image. -/
def groupImage (mode : GroupMode) (members : List UplinkId) : List Byte :=
  [byte1 mode.code, byte1 members.length] ++ padTo 4 (members.map fun u => byte1 u.val)

/-- SLOT_POLICY, 19 bytes. -/
def policyImage (p : SlotPolicy) : List Byte :=
  [flag p.adminEnable, flag p.autoPower, flag p.holdPower, flag p.holdOnline, flag p.restoreAfterShed,
   byte1 (match p.holdDefault with
     | .proceed => 0
     | .deny => 1)]
    ++ be16 p.holdTimeout ++ [byte1 p.retryLimit] ++ be16 p.retryInterval ++ be16 p.bootAllowance ++ be16 p.capFloor
    ++ [byte1 p.priority, byte1 (Tab.get p.weights 0), byte1 (Tab.get p.weights 1), byte1 (Tab.get p.weights 2)]

/-- FAN, 6 bytes. -/
def fanImage (minDrive pulses faultFloor fullPower : Nat) : List Byte :=
  be16 minDrive ++ [byte1 pulses] ++ be16 faultFloor ++ [byte1 fullPower]

/-- ZONE, the 7 bytes of the write image. -/
def zoneImage (minDemand slewUp slewDown : Nat) (stopAllowed : Bool) : List Byte :=
  be16 minDemand ++ be16 slewUp ++ be16 slewDown ++ [flag stopAllowed]

/-- CHASSIS, the 35 bytes of the write image. -/
def chassisImage (c : Chassis) : List Byte :=
  [byte1 (redundancyCode c.mode)] ++ be16 c.overhead ++ be16 c.staleLimit ++ be16 c.staleDemand ++ be16 c.bootDemand
    ++ [byte1 c.roleSetting.code] ++ be16 c.etherType.toNat ++ be16 c.firstTimeout ++ be16 c.gapTimeout
    ++ be16 c.wholeTimeout ++ be16 c.queryWait ++ be16 c.holdDown ++ [byte1 c.deadInterval] ++ be16 c.dischargeTime
    ++ be16 c.resetHold ++ be16 c.powerGoodTimeout ++ be16 c.debounce ++ be16 c.settleTime ++ be16 c.criticalGrace

/-- IDENTITY, 11 bytes. -/
def identityImage (r : Identity) : List Byte :=
  [flag r.enabled] ++ addrBytes r.addr
    ++ [byte1 (match r.access with
      | .observe => 0
      | .control => 1)]
    ++ be24 r.ports.toNat

/-- NOTICE_CFG, 10 bytes. -/
def noticeCfgImage (c : NoticeCfg) : List Byte :=
  [flag c.enable] ++ addrBytes c.dst ++ [byte1 c.egress.val] ++ be16 c.spacing

/-- The write image of an item. -/
def Item.image : Item → List Byte
  | .classify e => classifyImage e
  | .uplinkMap m => uplinkMapImage m
  | .group mode members => groupImage mode members
  | .slotPolicy p => policyImage p
  | .psu c => be16 c
  | .fan a b c d => fanImage a b c d
  | .zone a b c d => zoneImage a b c d
  | .chassis c => chassisImage c
  | .identity r => identityImage r
  | .noticeCfg c => noticeCfgImage c

/-! ### Read images -/

/-- The code of an uplink's link state, up or down: its position where R146 first gives the two values (R179,
Enumerations; DEDUCED, notes/assumptions/38.md). -/
def linkCode (up : Bool) : Byte := if up then 0#8 else 1#8

/-- One uplink record as the GROUPS item shows it, 4 bytes (R146, R179). -/
def State.uplinkImage (s : State) (u : UplinkId) : List Byte :=
  [linkCode (s.uplinkLink u)] ++ be16 (s.timeLeft (s.uplink u).holdDown) ++ [flag (s.uplink u).usable]

/-- GROUPS, 31 bytes. -/
def State.groupReadImage (s : State) (g : GroupId) : List Byte :=
  groupImage (s.group g).mode (s.group g).members ++ [byte1 (s.group g).active.length]
    ++ padTo 4 ((s.group g).active.map fun u => byte1 u.val) ++ (List.finRange 5).flatMap s.uplinkImage

/-- PSU, 8 bytes. -/
def State.psuReadImage (s : State) (p : PsuId) : List Byte :=
  be16 (s.psu p).capacity
    ++ [flag (feedB p), flag (s.psu p).present, flag (s.psu p).powerGood, flag (s.psu p).counted]
    ++ be16 (s.timeLeft (s.psu p).settle)

/-- ZONE, 12 bytes. -/
def State.zoneReadImage (s : State) (z : ZoneId) : List Byte :=
  zoneImage (s.zone z).minDemand (s.zone z).slewUp (s.zone z).slewDown (s.zone z).stopAllowed
    ++ be16 (s.zone z).command ++ be16 (s.zone z).target ++ [flag (s.zone z).forced]

/-- CHASSIS, 37 bytes. -/
def State.chassisReadImage (s : State) : List Byte :=
  chassisImage s.chassis ++ [byte1 s.portRole.code, s.chassisNumber]

/-- The queue entry fields of SLOT_STATUS: kind, priority, sequence. -/
def entryImage : Option PowerEntry → List Byte
  | none => [0#8, 0#8] ++ be16 0
  | some e => [byte1 e.kind.code, byte1 e.priority] ++ be16 e.seq

/-- SLOT_STATUS, 56 bytes. -/
def State.slotStatusImage (s : State) (i : SlotId) : List Byte :=
  [byte1 (s.slot i).state.code, byte1 (s.slot i).drainCause.code, byte1 (s.slot i).drainNext.code,
   byte1 (s.slot i).faultCause.code, byte1 (s.slot i).retryCount, flag (s.slot i).presence,
   flag (s.rail i).powerGood]
    ++ be16 (s.holdLeft (s.slot i).hold) ++ be16 (s.timeLeft (s.slot i).debounce)
    ++ be16 (s.timeLeft (s.slot i).retry) ++ be16 (s.slot i).admission
    ++ [flag (s.rail i).mainEnable, flag (s.rail i).discharge, flag (s.rail i).bladeReset, flag (s.rail i).powerCap,
        byte1 (s.rail i).op.code, byte1 (s.rail i).stage.code, byte1 (s.rail i).downCause.code,
        flag (s.rail i).seen,
        byte1 (s.context i).mode.code, byte1 (s.context i).expected, byte1 (s.context i).assembly.length,
        byte1 (s.context i).rejects, byte1 (s.context i).extensions]
    ++ be16 (s.grantOf i).grant ++ be16 (s.grantOf i).target ++ be16 (s.capLevel i)
    ++ [flag (s.grantOf i).releasing, flag (s.grantOf i).budgetCapped, flag (s.grantOf i).thermalCap,
        flag (s.grantOf i).capped]
    ++ entryImage (s.entryOf i) ++ be32 (s.gateDrop i) ++ be32 (s.meter i).tokens
    ++ [byte1 (s.meter i).effective.val,
        match (s.meter i).pending with
        | none => 255#8
        | some c => byte1 c.val]
    ++ be32 (s.meter i).policeDrops

/-- The sensor fields of the INVENTORY item. -/
def sensorLimitsImage (l : SensorLimits) : List Byte :=
  [byte1 l.id.val, temperatureByte l.lo, temperatureByte l.hi, temperatureByte l.crit]

/-- A string of the INVENTORY item: its length, then its characters. -/
def stringImage (l : List Byte) : List Byte := byte1 l.length :: l

/-- The fields of an INVENTORY item after its length. -/
def InvRecord.fields (r : InvRecord) : List Byte :=
  be16 r.vendor ++ [byte1 r.hwRev] ++ be16 r.power ++ be16 r.generation ++ stringImage r.model
    ++ stringImage r.serial ++ stringImage r.firmware
    ++ (byte1 r.addrs.length :: r.addrs.flatMap fun a => addrBytes a.addr ++ [byte1 a.status.code])
    ++ (byte1 r.sensors.length :: r.sensors.flatMap sensorLimitsImage)

/-- INVENTORY, 2 to 146 bytes. Whether the length counts its own two bytes is a free value (notes/assumptions/17.md). -/
def State.inventoryImage (s : State) (i : SlotId) : List Byte :=
  match (s.inv i).record with
  | none => be16 0
  | some r => be16 (if Config.inventoryLengthCountsItself then r.fields.length + 2 else r.fields.length) ++ r.fields

/-- One sensor block of the THERMAL item, 11 bytes. -/
def State.sensorImage (s : State) (x : Sensor) : List Byte :=
  sensorLimitsImage x.limits
    ++ (match x.last with
      | none => 0#8 :: be16 0
      | some r => temperatureByte r.temp :: be16 r.age)
    ++ [byte1 x.validity.code, flag (x.stale s.chassis.staleLimit)] ++ be16 (s.sensorDemand x)

/-- THERMAL, 50 bytes. -/
def State.thermalImage (s : State) (i : SlotId) : List Byte :=
  [flag (s.thermalOf i).critical] ++ be16 (s.timeLeft (s.thermalOf i).grace) ++ be16 (s.slotDemand i)
    ++ [byte1 (s.thermalOf i).sensors.length] ++ padTo 44 ((s.thermalOf i).sensors.flatMap s.sensorImage)

/-- STATION, 8 bytes. -/
def State.stationImage (s : State) (k : Fin 64) : List Byte :=
  match s.station k with
  | none => List.replicate 8 0#8
  | some e => [1#8] ++ addrBytes e.addr ++ [byte1 e.slot.val]

/-- The period fields of FAN_STATUS: kind, then the period. -/
def periodImage : TachPeriod → List Byte
  | .none => 0#8 :: be16 0
  | .overflow => 1#8 :: be16 0
  | .measured us => 2#8 :: be16 us

/-- FAN_STATUS, 20 bytes. -/
def State.fanStatusImage (s : State) (f : FanId) : List Byte :=
  [flag (s.fan f).present] ++ be16 (s.fan f).drive ++ be16 (s.fan f).effective
    ++ be16 ((s.fan f).pending.getD 65535)
    ++ [byte1 (s.fan f).kick, byte1 (s.fan f).grace, flag (s.fan f).faulted, byte1 (s.fan f).low,
        byte1 (s.fan f).high, byte1 (s.fan f).tach.code]
    ++ periodImage (s.fan f).period ++ be32 (s.fan f).rpm

/-- The headroom field of POWER_STATUS. A headroom below 0 can stand only in a snapshot taken inside a capacity
recomputation; its two bytes are then a free value (notes/assumptions/15.md). -/
def headroomImage (h : Int) : List Byte :=
  if 0 ≤ h then be16 h.toNat else be16 (Config.negativeHeadroomImage h).toNat

/-- One queue entry of POWER_STATUS, 5 bytes. -/
def powerEntryImage (e : PowerEntry) : List Byte :=
  [byte1 e.slot.val, byte1 e.kind.code, byte1 e.priority] ++ be16 e.seq

/-- POWER_STATUS, 105 bytes (R95). -/
def State.powerStatusImage (s : State) : List Byte :=
  be16 s.feedACapacity ++ be16 s.feedBCapacity ++ be16 s.usableCapacity ++ be16 s.reserve ++ be16 s.cAvail
    ++ be16 s.grantsHeld ++ be16 s.grantsReleasing ++ headroomImage s.headroom
    ++ [byte1 (redundancyCode s.chassis.mode)] ++ ((List.finRange 6).map fun p => flag (s.psu p).counted)
    ++ [flag s.interlock, byte1 s.powerQueue.length] ++ padTo 80 (s.powerQueue.flatMap powerEntryImage)

/-- The snapshot of a notice source (R179). -/
def State.snapshot (s : State) : Source → List Byte
  | .slot i => s.slotStatusImage i
  | .psu p => s.psuReadImage p
  | .zone z => s.zoneReadImage z ++ (zoneFans z).flatMap s.fanStatusImage
  | .uplink _ => (List.finRange 4).flatMap s.groupReadImage
  | .budget => s.powerStatusImage
  | .chassis => s.chassisReadImage

/-! ### Spaces (section 9.5) -/

/-- The sixteen spaces, in the order of their numbers. -/
inductive Space where
  | classify
  | uplinkMap
  | groups
  | slotPolicy
  | psu
  | fan
  | zone
  | chassis
  | identity
  | slotStatus
  | inventory
  | thermal
  | station
  | fanStatus
  | powerStatus
  | noticeCfg
  deriving DecidableEq, Repr

/-- The space of a number, if there is one. -/
def spaceOf (n : Nat) : Option Space :=
  [Space.classify, .uplinkMap, .groups, .slotPolicy, .psu, .fan, .zone, .chassis, .identity, .slotStatus, .inventory,
   .thermal, .station, .fanStatus, .powerStatus, .noticeCfg][n]?

/-- The number of items of a space. -/
def Space.size : Space → Nat
  | .classify => 64
  | .uplinkMap => 16
  | .groups => 4
  | .slotPolicy => 16
  | .psu => 6
  | .fan => 6
  | .zone => 3
  | .chassis => 1
  | .identity => 4
  | .slotStatus => 16
  | .inventory => 16
  | .thermal => 16
  | .station => 64
  | .fanStatus => 6
  | .powerStatus => 1
  | .noticeCfg => 1

/-- The write image size of a space that can be written, none for a read-only one. -/
def Space.writeSize : Space → Option Nat
  | .classify => some 25
  | .uplinkMap => some 7
  | .groups => some 6
  | .slotPolicy => some 19
  | .psu => some 2
  | .fan => some 6
  | .zone => some 7
  | .chassis => some 35
  | .identity => some 11
  | .slotStatus => none
  | .inventory => none
  | .thermal => none
  | .station => none
  | .fanStatus => none
  | .powerStatus => none
  | .noticeCfg => some 10

/-- The largest count of a request (R171): the smaller of the size and 32, and at most 8 for INVENTORY. -/
def Space.maxCount : Space → Nat
  | .inventory => 8
  | x => min x.size 32

/-- The read image of one item of a space (R172). The index is below the space's size wherever this is used. -/
def State.readImage (s : State) (sp : Space) (k : Nat) : List Byte :=
  match sp with
  | .classify => classifyImage (s.classEntry (Fin.ofNat 64 k))
  | .uplinkMap => uplinkMapImage (s.map (Fin.ofNat 16 k))
  | .groups => s.groupReadImage (Fin.ofNat 4 k)
  | .slotPolicy => policyImage (s.policy (Fin.ofNat 16 k))
  | .psu => s.psuReadImage (Fin.ofNat 6 k)
  | .fan =>
    let f := s.fan (Fin.ofNat 6 k)
    fanImage f.minDrive f.pulses f.faultFloor f.fullPower
  | .zone => s.zoneReadImage (Fin.ofNat 3 k)
  | .chassis => s.chassisReadImage
  | .identity => identityImage (s.identity (Fin.ofNat 4 k))
  | .slotStatus => s.slotStatusImage (Fin.ofNat 16 k)
  | .inventory => s.inventoryImage (Fin.ofNat 16 k)
  | .thermal => s.thermalImage (Fin.ofNat 16 k)
  | .station => s.stationImage (Fin.ofNat 64 k)
  | .fanStatus => s.fanStatusImage (Fin.ofNat 6 k)
  | .powerStatus => s.powerStatusImage
  | .noticeCfg => noticeCfgImage s.noticeCfg

end Sys2Proof.Machine
end

