-- ==== Sys2Proof/Machine/Notices.lean ====
section
/-!
DEFINITION. Frames the part originates (R165, R129) and the Notice Queue (chapter 10).
-/

namespace Sys2Proof.Machine

/-! ### Building and sending a frame -/

/-- The kinds of service frame with their codes (R179). -/
def kindRequest : Byte := 1#8
def kindResponse : Byte := 2#8
def kindNotice : Byte := 3#8
def kindAnnounce : Byte := 4#8
def kindAnnounceReply : Byte := 5#8
def kindQuery : Byte := 6#8
def kindWaitExtend : Byte := 7#8
def kindTelemetry : Byte := 8#8

/-- A frame of the part's own: untagged, from identity 0's address, with the service EtherType in force, version 1, and
zero bytes up to 64 with the FCS (R165). -/
def State.serviceFrame (s : State) (dst : Addr) (kind : Byte) (sequence : Nat) (payload : List Byte) : List Byte :=
  withFcs (padTo (Config.minFrameBytes - 4)
    (addrBytes dst ++ addrBytes (s.identity 0).addr ++ be16 s.chassis.etherType.toNat
      ++ [Config.serviceVersion, kind] ++ be16 sequence ++ be16 payload.length ++ payload))

/-- Hands a frame to a port. A frame on a port whose link is down is discarded there (R129). -/
def State.transmit (s : State) (port : PortId) (kind : SentKind) (bytes : List Byte) : State :=
  if s.link port then { s with sent := s.sent ++ [⟨port, kind, bytes⟩] } else s

/-! ### Sending a notice (R182) -/

/-- The payload of a NOTICE (R179). -/
def noticePayload (n : Notice) (snapshot : List Byte) : List Byte :=
  [byte1 n.source.code] ++ be16 n.events.toNat ++ [byte1 n.reason] ++ be16 snapshot.length ++ snapshot

/-- The three conditions under which the head is sent (R182). -/
def State.mayNotify (s : State) : Bool :=
  s.noticeCfg.enable && s.link s.noticeCfg.egress && s.spacing.isNone

/-- The next notice sequence number: from 65535 to 0 (R182). -/
def nextNoticeSeq (n : Nat) : Nat := if n < Config.counterTop then n + 1 else 0

/-- The spacing timer as a send starts it: with a spacing of 0 it expires at its start (R182). -/
def State.spacingStarted (s : State) : Timer :=
  if s.noticeCfg.spacing = 0 then none else s.timer s.noticeCfg.spacing

/-- The send of the head notice n, the rest waiting (R182): the frame is built with its snapshot taken now, the notice
leaves the queue, the frame goes to the egress port and the spacing timer starts. -/
def State.sendNotice (s : State) (n : Notice) (rest : List Notice) : State :=
  let frame := s.serviceFrame s.noticeCfg.dst kindNotice (nextNoticeSeq s.noticeSeq)
    (noticePayload n (s.snapshot n.source))
  State.transmit
    { s with notices := rest, noticeSeq := nextNoticeSeq s.noticeSeq, spacing := s.spacingStarted }
    s.noticeCfg.egress .notice frame

/-- A send attempt: one that finds a condition false sends nothing (R182). -/
def State.attemptSend (s : State) : State :=
  match s.notices with
  | [] => s
  | n :: rest => if s.mayNotify then s.sendNotice n rest else s

/-! ### Raising an event (R181) -/

/-- The event set that holds one event. -/
def Event.mask (e : Event) : BitVec 16 := 1#16 <<< e.bit

/-- The refusal reason a notice carries after an event: a refresh failure sets it, any other leaves it (R181). -/
def Event.reasonAfter (e : Event) (old : Nat) : Nat :=
  match e with
  | .refreshFailed _ r => r.code
  | _ => old

/-- An event folded into a notice of its source (R181). -/
def Notice.fold (n : Notice) (e : Event) : Notice :=
  { n with events := n.events ||| e.mask, reason := e.reasonAfter n.reason }

/-- A notice that holds one event alone (R181). -/
def Event.notice (e : Event) : Notice := ⟨e.source, e.mask, e.reasonAfter 0⟩

/-- An event is raised (R181): discarded while notices are disabled, folded into its source's pending notice, or joined
to the tail as a new notice, upon which a send is attempted. -/
def State.raise (s : State) (e : Event) : State :=
  if s.noticeCfg.enable then
    if s.notices.any fun n => n.source = e.source then
      { s with notices := s.notices.map fun n => if n.source = e.source then n.fold e else n }
    else State.attemptSend { s with notices := s.notices ++ [e.notice] }
  else s

/-- Events are raised one after another. -/
def State.raiseAll (s : State) (es : List Event) : State := es.foldl State.raise s

end Sys2Proof.Machine
end

