-- ==== Sys2Proof/Machine/Rails.lean ====
section
/-!
DEFINITION. The Rail Unit (chapter 2): what each request and each event does to one rail record, and what it reports.
A function here works on one record, the clock, the timing settings and the interlock level.
-/

namespace Sys2Proof.Machine

/-- What a rail function reads besides the record: the clock, the settings (R29) and the interlock level. -/
structure RailEnv where
  clock     : Nat
  chassis   : Chassis
  interlock : Bool
  deriving DecidableEq, Repr

/-- The rail environment of a state. -/
def State.railEnv (s : State) : RailEnv := ⟨s.clock, s.chassis, s.interlock⟩

/-- A timer started now. -/
def RailEnv.timer (v : RailEnv) (span : Nat) : Timer := some ⟨span, v.clock + span⟩

/-- Blade reset is released and the operation ends (R32, R33). Operation and stage are NONE before the reset released
report that comes with this is handled (DESIGN CHOICE, notes/assumptions/40.md). -/
def Rail.releaseReset (r : Rail) : Rail :=
  { r with bladeReset := false, op := .none, stage := .none, resetTimer := none }

/-- The reset-hold time starts in stage RESETTING. With a reset hold of 0 it expires at the moment it starts (R29). -/
def Rail.startResetHold (v : RailEnv) (r : Rail) : Rail × List RailReport :=
  if v.chassis.resetHold = 0 then (r.releaseReset, [.resetReleased])
  else ({ r with stage := .resetting, resetTimer := v.timer v.chassis.resetHold }, [])

/-- Power-good is seen (R31): its report, then the reset hold. Stage and timer stand before the report is handled
(DESIGN CHOICE, notes/assumptions/40.md). -/
def Rail.seePowerGood (v : RailEnv) (r : Rail) : Rail × List RailReport :=
  let t := Rail.startResetHold v { r with powerGoodTimer := none, seen := true }
  (t.1, .powerGoodSeen :: t.2)

/-- Main enable is asserted by RAMP_UP and the power-good timer starts (R30). A wire already asserted is seen at once
(R31). -/
def Rail.assertMain (v : RailEnv) (r : Rail) : Rail × List RailReport :=
  let r' : Rail :=
    { r with mainEnable := true, stage := .rising, powerGoodTimer := v.timer v.chassis.powerGoodTimeout }
  if r.powerGood then r'.seePowerGood v else (r', [])

/-- A RAMP_UP request (R30), taken only where the operation is NONE (R37). -/
def Rail.rampUp (v : RailEnv) (r : Rail) : Rail × List RailReport :=
  if r.op = .none then
    let r' : Rail := { r with op := .rampUp, bladeReset := true }
    if v.interlock then ({ r' with stage := .stalled }, [])
    else if r.dead.isNone then r'.assertMain v
    else ({ r' with stage := .spacing }, [])
  else (r, [])

/-- Main enable is released, if it is asserted: power-good seen is cleared and the dead interval restarts (R27, R28). -/
def Rail.releaseMain (v : RailEnv) (r : Rail) : Rail :=
  if r.mainEnable then { r with mainEnable := false, seen := false, dead := v.timer v.chassis.deadInterval } else r

/-- Discharge enable is asserted and the discharge timer starts (R35). -/
def Rail.assertDischarge (v : RailEnv) (r : Rail) : Rail :=
  { r with discharge := true, stage := .discharging, dischargeTimer := v.timer v.chassis.dischargeTime }

/-- A RAMP_DOWN request (R35), which abandons a RAMP_UP or a RESET_PULSE (R36) and is not taken where a RAMP_DOWN is in
flight (R37). -/
def Rail.rampDown (v : RailEnv) (cause : DrainCause) (r : Rail) : Rail :=
  if r.op = .rampDown then r
  else
    let r' := Rail.releaseMain v
      { r with op := .rampDown, downCause := cause, powerGoodTimer := none, resetTimer := none, bladeReset := true,
               stage := .spacing }
    if r'.dead.isNone then r'.assertDischarge v else r'

/-- A RESET_PULSE request (R33), taken only where the operation is NONE, main enable is asserted and power-good is seen
(R37). -/
def Rail.resetPulse (v : RailEnv) (r : Rail) : Rail × List RailReport :=
  if r.op = .none && r.mainEnable && r.seen then
    Rail.startResetHold v { r with op := .resetPulse, stage := .resetting, bladeReset := true }
  else (r, [])

/-- The actions of the interlock's assertion on one rail record (R39). -/
def Rail.interlock (v : RailEnv) (r : Rail) : Rail :=
  let r' := Rail.releaseMain v { r with bladeReset := true }
  match r'.op with
  | .rampUp => { r' with stage := .stalled, powerGoodTimer := none, resetTimer := none }
  | .resetPulse => { r' with stage := .stalled, powerGoodTimer := none, resetTimer := none }
  | .rampDown => r'
  | .none => r'

/-- Expiry of the dead-interval timer (R28, R30, R35): an expired timer lets the waiting assertion be made. -/
def Rail.deadExpiry (v : RailEnv) (r : Rail) : Rail × List RailReport :=
  if r.dead.isSome then
    let r' : Rail := { r with dead := none }
    if r.stage = .spacing then
      match r.op with
      | .rampUp => if v.interlock then (r', []) else r'.assertMain v
      | .rampDown => (r'.assertDischarge v, [])
      | .resetPulse => (r', [])
      | .none => (r', [])
    else (r', [])
  else (r, [])

/-- The power-good wire becomes asserted (R31). -/
def Rail.powerGoodRise (v : RailEnv) (r : Rail) : Rail × List RailReport :=
  let r' : Rail := { r with powerGood := true }
  if r.op = .rampUp && r.stage = .rising then r'.seePowerGood v else (r', [])

/-- The power-good wire falls (R32, R33, R34). -/
def Rail.powerGoodFall (r : Rail) : Rail × List RailReport :=
  let r' : Rail := { r with powerGood := false }
  if r.mainEnable && r.seen && r.op ≠ .rampDown then
    if r.stage = .resetting then ({ r' with stage := .stalled, resetTimer := none }, [.powerLost])
    else (r', [.powerLost])
  else (r', [])

/-- Expiry of the power-good timer (R31): the outputs stay as they stand. -/
def Rail.powerGoodExpiry (r : Rail) : Rail × List RailReport :=
  if r.powerGoodTimer.isSome then ({ r with powerGoodTimer := none, stage := .stalled }, [.powerGoodTimeout])
  else (r, [])

/-- Expiry of the reset-hold timer (R32, R33). -/
def Rail.resetExpiry (r : Rail) : Rail × List RailReport :=
  if r.resetTimer.isSome then (r.releaseReset, [.resetReleased]) else (r, [])

/-- Expiry of the discharge timer (R35, step 4). -/
def Rail.dischargeExpiry (v : RailEnv) (r : Rail) : Rail × List RailReport :=
  if r.dischargeTimer.isSome then
    ({ r with dischargeTimer := none, discharge := false, dead := v.timer v.chassis.deadInterval, op := .none,
              stage := .none }, [.rampDownComplete])
  else (r, [])

/-- Sets one rail record. -/
def State.setRail (s : State) (i : SlotId) (r : Rail) : State := s.updRail i fun _ => r

end Sys2Proof.Machine
end

