-- ==== Sys2Proof/Machine/Budget.lean ====
section
/-!
DEFINITION. The Power Budget Unit (chapter 4), but for the passes of a capacity loss, which drain slots
(Machine/Drains.lean): the Power Request Queue, the arbiter, targets, the thermal cap and releases; with the admission of
a slot (R6, R9) and the reports that carry a slot from RAMPING to ANNOUNCING (R10, R11).
-/

namespace Sys2Proof.Machine

/-! ### Slot state changes -/

/-- The slot state changes without an event (a state a rule passes through, R3). -/
def State.setSlotState (s : State) (i : SlotId) (st : SlotState) : State :=
  s.updSlot i fun r => { r with state := st }

/-- The slot enters a state and its state change event is raised (R3). -/
def State.enter (s : State) (i : SlotId) (st : SlotState) : State :=
  (s.setSlotState i st).raise (.stateChange i)

/-- The announcement window opens with its two deadlines (R45). -/
def State.openWindow (s : State) (i : SlotId) : State :=
  s.updContext i fun _ =>
    { contextClosed with
      mode := .window
      pending := some ⟨.first, s.clock + s.chassis.firstTimeout⟩
      whole := some (s.clock + max s.chassis.wholeTimeout s.chassis.firstTimeout) }

/-- A report of the Rail Unit that carries a slot upward: power-good seen (R10), reset released (R11). The slot changes
state without an event; the caller raises one for the state the slot is left in (R3), once the window stands open
(notes/assumptions/35.md). -/
def State.takeReport (s : State) (i : SlotId) (report : RailReport) : State :=
  match report with
  | .powerGoodSeen => if (s.slot i).state = .ramping then s.setSlotState i .resetHold else s
  | .resetReleased =>
    if (s.slot i).state = .resetHold then (s.setSlotState i .announcing).openWindow i else s
  | .powerGoodTimeout => s
  | .powerLost => s
  | .rampDownComplete => s

/-- Reports taken one after another. -/
def State.takeReports (s : State) (i : SlotId) (reports : List RailReport) : State :=
  reports.foldl (fun s r => s.takeReport i r) s

/-! ### The capped mark (R76) -/

/-- The wanted rate code is found afresh and becomes the pending code, unless it is in effect (R162). -/
def State.refreshRate (s : State) (i : SlotId) : State :=
  s.updMeter i fun m =>
    { m with pending := if s.wantedRate i = m.effective then none else some (s.wantedRate i) }

/-- The capped mark is re-evaluated; a change goes to the Rail Unit's line and then to the Slot Meters (R38, R76). -/
def State.remark (s : State) (i : SlotId) : State :=
  if (s.grantOf i).shouldCap = (s.grantOf i).capped then s
  else
    ((s.updGrant i fun g => { g with capped := g.shouldCap }).updRail i fun r =>
      { r with powerCap := (s.grantOf i).shouldCap }).refreshRate i

/-! ### The Power Request Queue (R79, R80, R84) -/

/-- The order of the queue: priority ascending, then sequence ascending (R79). -/
def PowerEntry.before (e f : PowerEntry) : Bool :=
  e.priority < f.priority || (e.priority = f.priority && e.seq < f.seq)

/-- Puts an entry in its place in the order. -/
def insertEntry (e : PowerEntry) : List PowerEntry → List PowerEntry
  | [] => [e]
  | f :: q => if e.before f then e :: f :: q else f :: insertEntry e q

/-- The slot has an entry of a kind. -/
def State.hasEntry (s : State) (i : SlotId) (k : EntryKind) : Bool :=
  s.powerQueue.any fun e => e.slot = i && e.kind = k

/-- The queue with sequences 1, 2, 3 and so on in the order of the old sequences (R80). -/
def renumbered (q : List PowerEntry) : List PowerEntry :=
  q.map fun e => { e with seq := 1 + (q.filter fun f => f.seq < e.seq).length }

/-- Renumbering of the queue sequence counter, where it stands at 65535 (R80). -/
def State.renumberQueue (s : State) : State :=
  if s.queueCounter < Config.counterTop then s
  else { s with powerQueue := renumbered s.powerQueue, queueCounter := s.powerQueue.length }

/-- An entry joins the queue with the slot's priority and a new sequence; an existing entry of the same kind is left in
place (R79, R80). -/
def State.enqueue (s : State) (i : SlotId) (k : EntryKind) : State :=
  if s.hasEntry i k then s
  else
    let t := s.renumberQueue
    { t with
      queueCounter := t.queueCounter + 1
      powerQueue := insertEntry ⟨i, k, (t.policy i).priority, t.queueCounter + 1⟩ t.powerQueue }

/-- The slot's entry of a kind leaves the queue. -/
def State.dequeue (s : State) (i : SlotId) (k : EntryKind) : State :=
  { s with powerQueue := s.powerQueue.filter fun e => !(e.slot = i && e.kind = k) }

/-- A slot's place among the slots whose grant is nonzero, in the order of the old admission sequences (R80). -/
def State.admissionRank (s : State) (i : SlotId) : Nat :=
  if (s.grantOf i).grant = 0 then 0
  else
    1 + (allSlots.filter fun j =>
      (s.grantOf j).grant ≠ 0 && (s.grantOf j).admission < (s.grantOf i).admission).length

/-- Renumbering of the admission counter, where it stands at 65535: in the grant record and the slot record alike
(R80). -/
def State.renumberAdmissions (s : State) : State :=
  if s.admissionCounter < Config.counterTop then s
  else
    { s with
      grants := Tab.each (fun i g => { g with admission := s.admissionRank i }) s.grants
      slots := Tab.each (fun i r => { r with admission := s.admissionRank i }) s.slots
      admissionCounter := (allSlots.filter fun j => (s.grantOf j).grant ≠ 0).length }

/-- The admission counter gives the slot a new admission sequence, in both records (R80, R81). -/
def State.numberAdmission (s : State) (i : SlotId) : State :=
  let t := s.renumberAdmissions
  ({ t with admissionCounter := t.admissionCounter + 1 }.updGrant i fun g =>
    { g with admission := t.admissionCounter + 1 }).updSlot i fun r =>
      { r with admission := t.admissionCounter + 1 }

/-! ### Admission and the arbiter (R81, R82) -/

/-- RAMP_UP is requested and the slot enters RAMPING; reports made in the same handling follow (R6, R9, R30, R31). One
state change event is raised, for the state the slot is left in (R3), after all that begins there
(notes/assumptions/35.md). -/
def State.startRamp (s : State) (i : SlotId) : State :=
  let r := (s.rail i).rampUp s.railEnv
  (((s.setRail i r.1).setSlotState i .ramping).takeReports i r.2).raise (.stateChange i)

/-- The admission of a BOOT entry that fits (R81). -/
def State.admitBoot (s : State) (i : SlotId) : State :=
  (((((s.updGrant i fun g =>
    { g with grant := (s.policy i).bootAllowance, target := (s.policy i).bootAllowance }).numberAdmission i).dequeue i
      .boot).remark i).startRamp i)

/-- The grant of an UPGRADE entry that fits (R81). -/
def State.upgrade (s : State) (i : SlotId) : State :=
  ((s.updGrant i fun g => { g with grant := g.target, budgetCapped := false }).dequeue i .upgrade).remark i

/-- The partial step of an UPGRADE entry that does not fit (R81). -/
def State.partialStep (s : State) (i : SlotId) : State :=
  if (s.grantOf i).grant < s.capLevel i &&
      (s.capLevel i : Int) - ((s.grantOf i).grant : Int) ≤ s.headroom then
    (s.updGrant i fun g => { g with grant := s.capLevel i }).remark i
  else s

/-- The head entry fits the headroom as it stands (R81). -/
def State.fits (s : State) (e : PowerEntry) : Bool :=
  match e.kind with
  | .boot => ((s.policy e.slot).bootAllowance : Int) ≤ s.headroom
  | .upgrade => ((s.grantOf e.slot).target : Int) - ((s.grantOf e.slot).grant : Int) ≤ s.headroom

/-- What the arbiter does with a head that fits. -/
def State.serve (s : State) (e : PowerEntry) : State :=
  match e.kind with
  | .boot => s.admitBoot e.slot
  | .upgrade => s.upgrade e.slot

/-- What the arbiter does with a head that does not fit, before it stops. -/
def State.stopAt (s : State) (e : PowerEntry) : State :=
  match e.kind with
  | .boot => s
  | .upgrade => s.partialStep e.slot

/-- The arbiter's steps from the head; each served entry leaves the queue, so as many steps as entries suffice. -/
def arbiterLoop : Nat → State → State
  | 0, s => s
  | n + 1, s =>
    match s.powerQueue with
    | [] => s
    | e :: _ => if s.fits e then arbiterLoop n (s.serve e) else s.stopAt e

/-- A run of the arbiter, which grants nothing while the interlock level is asserted (R81, R82). -/
def State.arbiter (s : State) : State :=
  if s.interlock then s else arbiterLoop s.powerQueue.length s

/-- The slot's entry of a kind is removed and the arbiter runs; where there is none, nothing changes (R84). -/
def State.withdraw (s : State) (i : SlotId) (k : EntryKind) : State :=
  if s.hasEntry i k then (s.dequeue i k).arbiter else s

/-- A power-up request (R6, R83): a BOOT entry joins and the arbiter runs; a slot not admitted enters POWER_WAIT. -/
def State.powerRequest (s : State) (i : SlotId) : State :=
  let t := (s.enqueue i .boot).arbiter
  if t.hasEntry i .boot then t.enter i .powerWait else t

/-! ### Targets (R85, R86) -/

/-- The thermal cap is cleared and its event raised, if it is set. -/
def State.liftThermalCap (s : State) (i : SlotId) : State :=
  if (s.grantOf i).thermalCap then
    (s.updGrant i fun g => { g with thermalCap := false }).raise (.thermalCapOff i)
  else s

/-- An acceptance from a window, with the declared power (R85). -/
def State.acceptTarget (s : State) (i : SlotId) (power : Nat) : State :=
  let t := (s.liftThermalCap i).updGrant i fun g => { g with target := power }
  let g := (s.grantOf i).grant
  if power ≤ g then
    let u := t.updGrant i fun r => { r with grant := power, budgetCapped := false }
    (if power < g then u.arbiter else u).remark i
  else ((t.enqueue i .upgrade).arbiter).remark i

/-- A refresh change that lowers the target (R86). -/
def State.lowerTarget (s : State) (i : SlotId) (power : Nat) : State :=
  let g := (s.grantOf i).grant
  let t := s.updGrant i fun r => { r with target := power, grant := min g power }
  let u := if power ≤ g then
      (t.updGrant i fun r => { r with budgetCapped := false }).dequeue i .upgrade
    else t
  (if power < g || (power ≤ g && s.hasEntry i .upgrade) then u.arbiter else u).remark i

/-- A refresh change that raises the target (R86). -/
def State.raiseTarget (s : State) (i : SlotId) (power : Nat) : State :=
  let t := s.updGrant i fun r => { r with target := power }
  (if !(s.grantOf i).thermalCap && !s.hasEntry i .upgrade then (t.enqueue i .upgrade).arbiter else t).remark i

/-- A refresh change (R86). -/
def State.refreshTarget (s : State) (i : SlotId) (power : Nat) : State :=
  if power < (s.grantOf i).target then s.lowerTarget i power else s.raiseTarget i power

/-! ### Thermal cap (R88, R89) -/

/-- A request to set the thermal cap (R88); one that finds it set, or the grant releasing (R93), changes nothing. -/
def State.setThermalCap (s : State) (i : SlotId) : State :=
  if (s.grantOf i).thermalCap || (s.grantOf i).releasing then s
  else
    let t := ((s.updGrant i fun g => { g with thermalCap := true }).raise (.thermalCapOn i)).dequeue i .upgrade
    ((t.updGrant i fun g => { g with grant := min g.grant (s.capLevel i) }).remark i).arbiter

/-- An UPGRADE entry may be made for the slot: it is HELD_ONLINE or ONLINE (R79). -/
def State.mayUpgrade (s : State) (i : SlotId) : Bool :=
  (s.slot i).state = .heldOnline || (s.slot i).state = .online

/-- A request to clear the thermal cap (R89); one that finds it clear changes nothing. -/
def State.clearThermalCap (s : State) (i : SlotId) : State :=
  if (s.grantOf i).thermalCap then
    let t := s.liftThermalCap i
    let g := t.grantOf i
    (if t.mayUpgrade i && g.grant < g.target && !g.releasing then (t.enqueue i .upgrade).arbiter else t).remark i
  else s

/-! ### Releases (R93, R94) -/

/-- The grant is marked releasing, the UPGRADE entry removed, and the arbiter runs (R93). -/
def State.markReleasing (s : State) (i : SlotId) : State :=
  ((s.updGrant i fun g => { g with releasing := true }).dequeue i .upgrade).arbiter

/-- The grant is released at ramp-down complete (R94). -/
def State.releaseGrant (s : State) (i : SlotId) : State :=
  (((s.updGrant i fun g =>
    { g with grant := 0, target := 0, releasing := false, budgetCapped := false }).liftThermalCap i).remark i).arbiter

/-- A SLOT_POLICY write that changes the priority moves the slot's entry, which keeps its sequence (R84). -/
def State.movePriority (s : State) (i : SlotId) : State :=
  { s with
    powerQueue :=
      (s.powerQueue.filter fun e => e.slot = i).foldl
        (fun q e => insertEntry { e with priority := (s.policy i).priority } q)
        (s.powerQueue.filter fun e => e.slot ≠ i) }

end Sys2Proof.Machine
end

