-- ==== Sys2Proof/Machine/Steering.lean ====
section
/-!
DEFINITION. Uplinks, groups and the port role (R130 to R132, R146 to R150), and the Slot Meters (R161 to R164).
-/

namespace Sys2Proof.Machine

/-! ### Groups (R150) -/

/-- The group change events of one group: for every uplink that is a member after the recomputation or was one before,
U0 to U4 (R150). -/
def groupEvents (g : GroupId) (before after : List UplinkId) : List Event :=
  ((List.finRange 5).filter fun u => after.contains u || before.contains u).map fun u => .groupChange u g

/-- The group's active list is recomputed; before is the member list as it was (R150). -/
def State.recomputeGroup (s : State) (g : GroupId) (before : List UplinkId) : State :=
  let active := s.usableMembers (s.group g).members
  if active = (s.group g).active then s
  else (s.updGroup g fun r => { r with active := active }).raiseAll (groupEvents g before (s.group g).members)

/-- Every group that holds the uplink as a member is recomputed, group 0 first (R147), each with its events before the next
(DEDUCED, notes/assumptions/46.md). -/
def State.recomputeMembers (s : State) (u : UplinkId) : State :=
  (List.finRange 4).foldl
    (fun s g => if (s.group g).members.contains u then s.recomputeGroup g (s.group g).members else s) s

/-! ### Uplinks (R147, R148) -/

/-- The usable mark is set to a value; a change raises its event and recomputes the active lists (R147). -/
def State.setUsable (s : State) (u : UplinkId) (b : Bool) : State :=
  if (s.uplink u).usable = b then s
  else ((s.updUplink u fun r => { r with usable := b }).raise (.usableChange u)).recomputeMembers u

/-- The hold-down timer starts; with a hold-down time of 0 the uplink becomes usable at once (R147, R148). -/
def State.startHoldDown (s : State) (u : UplinkId) : State :=
  if s.chassis.holdDown = 0 then (s.updUplink u fun r => { r with holdDown := none }).setUsable u true
  else s.updUplink u fun r => { r with holdDown := s.timer s.chassis.holdDown }

/-- The hold-down timer stops, and a usable uplink stops being usable (R147, R148). -/
def State.dropUplink (s : State) (u : UplinkId) : State :=
  (s.updUplink u fun r => { r with holdDown := none }).setUsable u false

/-- An uplink takes part in steering: U4 only in the STACK role (R146, R148). -/
def State.uplinkInRole (s : State) (u : UplinkId) : Bool := u ≠ uplink4 || s.portRole = .stack

/-- The port role becomes STACK and the change is handed over (R131, R148). -/
def State.takeStackRole (s : State) : State :=
  let t : State := { s with portRole := .stack }
  if t.uplinkLink uplink4 then t.startHoldDown uplink4 else t

/-- The port role becomes SLOT and the change is handed over (R132, R148). -/
def State.takeSlotRole (s : State) : State := State.dropUplink { s with portRole := .slot } uplink4

/-- A link up at an uplink's record (R147, R148). -/
def State.uplinkUp (s : State) (u : UplinkId) : State :=
  if s.uplinkInRole u then s.startHoldDown u else s

/-! ### Slot Meters (R161 to R164) -/

/-- The bucket is refilled at a code (R162). -/
def refill (code : RateCode) (depth tokens : Nat) : Nat :=
  if code = 0 then depth
  else if code = 15 then tokens
  else min depth (tokens + refillBytes code)

/-- One epoch of one meter: the pending code first, then the refill (R162). -/
def Meter.epoch (depth : Nat) (m : Meter) : Meter :=
  let code := m.pending.getD m.effective
  { m with effective := code, pending := none, tokens := refill code depth m.tokens }

/-- A frame of a length passes the meter (R164). -/
def Meter.passes (m : Meter) (length : Nat) : Bool :=
  m.effective = 0 || (m.effective ≠ 15 && length ≤ m.tokens)

/-- The meter after a frame of a length (R164). -/
def Meter.police (m : Meter) (length : Nat) : Meter :=
  if m.passes length then
    if m.effective = 0 then m else { m with tokens := m.tokens - length }
  else { m with policeDrops := countUp Config.dropCountTop m.policeDrops }

/-- A depth in bytes limits the tokens at the write (R163). -/
def Meter.limit (depth : Nat) (m : Meter) : Meter := { m with tokens := min m.tokens depth }

end Sys2Proof.Machine
end

