-- ==== Sys2Proof/Machine/Stations.lean ====
section
/-!
DEFINITION. The Station Table (R157 to R160): search, offering, removal and re-offer.
-/

namespace Sys2Proof.Machine

/-- Every index of the Station Table, in ascending order. -/
def stationIndexes : List (Fin 64) := List.finRange 64

/-- The entry holds an address. -/
def holdsAddr (a : Addr) (e : Option Station) : Bool :=
  match e with
  | none => false
  | some x => x.addr = a

/-- The slot that owns an address, if the table has an entry for it. -/
def State.holder (s : State) (a : Addr) : Option SlotId :=
  match stationIndexes.find? fun k => holdsAddr a (s.station k) with
  | none => none
  | some k => (s.station k).map Station.slot

/-- An entry is made at the lowest free index (R157). R157 shows that an offering never finds the table full; for
completeness a full table is left as it is (notes/assumptions/26.md). -/
def State.install (s : State) (a : Addr) (i : SlotId) : State :=
  match stationIndexes.find? fun k => (s.station k).isNone with
  | none => s
  | some k => s.updStation k fun _ => some ⟨a, i⟩

/-- The answer of the Station Table to an offering (R158). -/
def State.offerAnswer (s : State) (a : Addr) : AddrStatus :=
  if groupBit a || a = 0#48 then .invalid
  else if (s.holder a).isSome then .conflict
  else .installed

/-- The status of the slot's listed address at a position. -/
def State.setAddrStatus (s : State) (i : SlotId) (pos : Nat) (st : AddrStatus) : State :=
  s.updInv i fun v =>
    { v with record := v.record.map fun r => { r with addrs := r.addrs.modify pos fun x => { x with status := st } } }

/-- The offering of the address at a position of the slot's new list (R158, R160). -/
def State.offer (s : State) (i : SlotId) (pos : Nat) (a : Addr) : State :=
  let answer := s.offerAnswer a
  let t := if answer = .installed then s.install a i else s
  (t.setAddrStatus i pos answer).raise (.addressChange i)

/-- The slot lists the address with status CONFLICT and is in a state that may be given it (R159). -/
def State.seeks (s : State) (a : Addr) (i : SlotId) : Bool :=
  (s.slot i).state.mayHoldStation &&
    match (s.inv i).record with
    | none => false
    | some r => r.addrs.any fun x => x.addr = a && x.status = .conflict

/-- The slot's CONFLICT entries for an address become INSTALLED (R159). -/
def InvRecord.promote (r : InvRecord) (a : Addr) : InvRecord :=
  { r with
    addrs := r.addrs.map fun x => if x.addr = a && x.status = .conflict then { x with status := .installed } else x }

/-- A freed address is re-offered to the lowest-numbered slot that seeks it (R159). -/
def State.reoffer (s : State) (a : Addr) : State :=
  match allSlots.find? fun i => s.seeks a i with
  | none => s
  | some i =>
    ((s.install a i).updInv i fun v => { v with record := v.record.map fun r => r.promote a }).raise (.addressChange i)

/-- One entry is removed: its event, and its address re-offered at once (R159, R160). -/
def State.removeStation (s : State) (k : Fin 64) (e : Station) : State :=
  ((s.updStation k fun _ => none).raise (.addressChange e.slot)).reoffer e.addr

/-- The slot's entries whose address is not kept are removed, in ascending order of index (R63, R159). -/
def State.removeStations (s : State) (i : SlotId) (keep : List Addr) : State :=
  stationIndexes.foldl
    (fun s k =>
      match s.station k with
      | none => s
      | some e => if e.slot = i && !keep.contains e.addr then s.removeStation k e else s) s

/-- The offering pass over the new list from a position on; earlier holds the addresses before it (R63). -/
def offerAll (i : SlotId) : List Addr → List Addr → State → State
  | _, [], s => s
  | earlier, a :: rest, s =>
    let pos := earlier.length
    let t :=
      if earlier.contains a then s.setAddrStatus i pos .invalid
      else if s.holder a = some i then s.setAddrStatus i pos .installed
      else s.offer i pos a
    offerAll i (earlier ++ [a]) rest t

/-- The Station Table update of an acceptance (R63). -/
def State.updateStations (s : State) (i : SlotId) (addrs : List Addr) : State :=
  offerAll i [] addrs (s.removeStations i addrs)

end Sys2Proof.Machine
end

