-- ==== Sys2Proof/Machine/Thermal.lean ====
section
/-!
DEFINITION. The Thermal Record Unit (chapter 5): the set and clear tests, the rebuild, readings and staleness. The
thermal shed, which drains the slot, is in Machine/Drains.lean.
-/

namespace Sys2Proof.Machine

/-- The set test over some sensors of the slot, made where its critical flag is clear (R104): the flag, the request for
the thermal cap, the grace timer. -/
def State.setTest (s : State) (i : SlotId) (xs : List Sensor) : State :=
  if !(s.thermalOf i).critical && xs.any (Sensor.critical s.chassis.staleLimit) then
    ((s.updThermal i fun r => { r with critical := true }).setThermalCap i).updThermal i fun r =>
      { r with grace := s.timer s.chassis.criticalGrace }
  else s

/-- The clear test, made where the slot's critical flag is set (R105): the grace timer stops, the flag is cleared, and
the thermal cap is asked to be cleared. -/
def State.clearTest (s : State) (i : SlotId) : State :=
  if (s.thermalOf i).critical && (s.thermalOf i).sensors.all (Sensor.cool s.chassis.staleLimit) then
    (s.updThermal i fun r => { r with critical := false, grace := none }).clearThermalCap i
  else s

/-- A sensor of the record by its id. -/
def ThermalRecord.find (r : ThermalRecord) (id : SensorId) : Option Sensor :=
  r.sensors.find? fun x => x.limits.id = id

/-- Changes the sensor of an id. -/
def ThermalRecord.modify (r : ThermalRecord) (id : SensorId) (f : Sensor → Sensor) : ThermalRecord :=
  { r with sensors := r.sensors.map fun x => if x.limits.id = id then f x else x }

/-- Temperatures a sensor may hold (R96). -/
def temperatureInRange (t : Int) : Bool := -40 ≤ t && t ≤ 125

/-- A reading is stored: age 0 and validity VALID (R100). -/
def Sensor.store (t : Int) (x : Sensor) : Sensor := { x with last := some ⟨t, 0⟩, validity := .valid }

/-- A reading out of range: the last reading and its age stand (R100; notes/assumptions/13.md). -/
def Sensor.spoil (x : Sensor) : Sensor := { x with validity := .invalid }

/-- One reading is handled in full (R100). -/
def State.takeReading (s : State) (i : SlotId) (id : SensorId) (t : Int) : State :=
  match (s.thermalOf i).find id with
  | none => s
  | some x =>
    if temperatureInRange t then
      ((s.updThermal i fun r => r.modify id (Sensor.store t)).setTest i [x.store t]).clearTest i
    else (s.updThermal i fun r => r.modify id Sensor.spoil).clearTest i

/-- The readings of a TELEMETRY payload from an offset, with the number still to read: sensor id, then temperature. An
id above 3 is in no slot's sensor list, and its reading is ignored (R100). -/
def takeReadings (i : SlotId) (payload : List Byte) : Nat → Nat → State → State
  | 0, _, s => s
  | n + 1, off, s =>
    let id := nat8At payload off
    let t := (byteAt payload (off + 1)).toInt
    takeReadings i payload n (off + 2)
      (if h : id < 4 then s.takeReading i ⟨id, h⟩ t else s)

/-- A TELEMETRY payload is well formed: 1 to 4 readings, and exactly the bytes they take (R99). -/
def telemetryWellFormed (payload : List Byte) : Bool :=
  1 ≤ nat8At payload 0 && nat8At payload 0 ≤ 4 && payload.length = 1 + 2 * nat8At payload 0

/-- The readings of a TELEMETRY payload are taken in order, or none where it is malformed (R99, R100). -/
def State.takeTelemetry (s : State) (i : SlotId) (payload : List Byte) : State :=
  if telemetryWellFormed payload then takeReadings i payload (nat8At payload 0) 1 s else s

/-! ### Rebuild (R98, R108) -/

/-- The sensor of new limits: it keeps what the old list's sensor of its id held (R98). -/
def mergeSensor (old : List Sensor) (l : SensorLimits) : Sensor :=
  match old.find? fun x => x.limits.id = l.id with
  | none => ⟨l, none, .none⟩
  | some x => { x with limits := l }

/-- The merged sensor list, in id order (R96, R98). -/
def mergeSensors (old : List Sensor) (new : List SensorLimits) : List Sensor :=
  (List.finRange 4).filterMap fun id => (new.find? fun l => l.id = id).map (mergeSensor old)

/-- The rebuild at an acceptance, with the tests R108 makes for an ONLINE slot. -/
def State.rebuildThermal (s : State) (i : SlotId) (new : List SensorLimits) : State :=
  let t := s.updThermal i fun r => { r with sensors := mergeSensors r.sensors new }
  if (t.slot i).state = .online then
    if (t.thermalOf i).critical then t.clearTest i else t.setTest i (t.thermalOf i).sensors
  else t

/-- The thermal side of an exit from ONLINE: the critical flag is cleared and the grace timer stopped, and no request
goes to the Power Budget Unit (R107). -/
def State.thermalExit (s : State) (i : SlotId) : State :=
  s.updThermal i fun r => { r with critical := false, grace := none }

/-! ### Staleness (R101) -/

/-- A sensor's age passes the stale limit: the age is beyond the limit from here on (notes/assumptions/28.md). -/
def Sensor.agePast (limit : Nat) (x : Sensor) : Sensor :=
  { x with last := x.last.map fun r => { r with age := max r.age (min Config.ageTop (limit + 1)) } }

/-- One millisecond of a sensor's age, which stays at 65535 (R96). -/
def Sensor.older (x : Sensor) : Sensor :=
  { x with last := x.last.map fun r => { r with age := min Config.ageTop (r.age + 1) } }

/-- One millisecond of every sensor's age in a record. -/
def ThermalRecord.older (r : ThermalRecord) : ThermalRecord := { r with sensors := r.sensors.map Sensor.older }

/-- Some sensor of the slot is fresh under one limit and stale under another. -/
def ThermalRecord.turnsStale (r : ThermalRecord) (old new : Nat) : Bool :=
  r.sensors.any fun x => !x.stale old && x.stale new

/-- The stale limit takes effect at once; the clear tests it leads to are made slot by slot (R101). -/
def State.setStaleLimit (s : State) (limit : Nat) : State :=
  allSlots.foldl
    (fun t i => if (s.thermalOf i).turnsStale s.chassis.staleLimit limit then t.clearTest i else t)
    { s with chassis := { s.chassis with staleLimit := limit } }

end Sys2Proof.Machine
end

