-- ==== Sys2Proof/Machine/Drains.lean ====
section
/-!
DEFINITION. The Slot Controller's shared courses (chapter 1): the power-up path and the holds, entry to ONLINE, EMPTY,
DISABLED and FAULT, drains, removal, disabling; and the Power Budget Unit's capacity recomputation with its passes
(R74, R90 to R92), which drains slots.
-/

namespace Sys2Proof.Machine

/-! ### Holds and the power-up path (R6, R7, R13) -/

/-- The hold timer as entry to a held state sets it (R7). -/
def State.holdTimer (s : State) (i : SlotId) : Timer :=
  if (s.policy i).holdTimeout = 0 then none else s.timer ((s.policy i).holdTimeout * 1000)

/-- Entry to HELD_POWER or HELD_ONLINE (R3, R7). The hold timer runs before the events are raised
(notes/assumptions/35.md), and the state change event comes before the hold reached event (DESIGN CHOICE,
notes/assumptions/42.md). -/
def State.enterHeld (s : State) (i : SlotId) (st : SlotState) : State :=
  ((s.updSlot i fun r => { r with hold := s.holdTimer i }).enter i st).raise (.holdReached i)

/-- The power-up path (R6). -/
def State.powerUpPath (s : State) (i : SlotId) : State :=
  if (s.policy i).holdPower then s.enterHeld i .heldPower else s.powerRequest i

/-- Entry to ONLINE: retry count 0, fault cause NONE, and the set test over the kept sensors (R13, R107). What the entry
clears is clear before its event (notes/assumptions/35.md), and the set test comes after it (notes/assumptions/18.md). -/
def State.enterOnline (s : State) (i : SlotId) : State :=
  let t := (s.updSlot i fun r => { r with hold := none, retryCount := 0, faultCause := .none }).enter i .online
  t.setTest i (t.thermalOf i).sensors

/-- The exit actions of ONLINE: a refresh is abandoned, and the critical watch ends (R13, R68, R107). -/
def State.exitOnline (s : State) (i : SlotId) : State :=
  (if (s.context i).mode = .refresh then s.updContext i fun _ => contextClosed else s).thermalExit i

/-- The Slot Controller's close of the announcement window (R46). -/
def State.closeContext (s : State) (i : SlotId) : State := s.updContext i fun _ => contextClosed

/-! ### Drains (R19, R20, R22) -/

/-- A drain records its cause, its next state and, where the next state is FAULT, the fault cause, and stops the hold
timer (R19, steps 1 and 2). -/
def Slot.recordDrain (cause : DrainCause) (next : DrainNext) (fault : FaultCause) (r : Slot) : Slot :=
  { r with
    drainCause := cause
    drainNext := next
    faultCause := if next = .fault then fault else r.faultCause
    hold := none }

/-- Step 5 of R19: the grant is marked releasing, which a shed pass has already done. -/
def State.drainGrant (s : State) (i : SlotId) (cause : DrainCause) : State :=
  if cause = .budget then s else s.markReleasing i

/-- A drain starts, from a powered state other than DRAINING (R19). -/
def State.startDrain (s : State) (i : SlotId) (cause : DrainCause) (next : DrainNext) (fault : FaultCause) : State :=
  if (s.slot i).state.drainable then
    let t := s.updSlot i (Slot.recordDrain cause next fault)
    let t := if (s.slot i).state = .online then t.exitOnline i else t
    let t := if (s.slot i).state = .announcing then t.closeContext i else t
    let t := t.drainGrant i cause
    (t.setRail i ((t.rail i).rampDown t.railEnv cause)).enter i .draining
  else s

/-- A drain under way changes its recorded cause and next state for removal (R20). -/
def Slot.redirectRemoved (r : Slot) : Slot :=
  { r with drainNext := .empty, faultCause := if r.drainNext = .fault then .none else r.faultCause }

/-- A drain under way changes its recorded cause and next state for the interlock (R20). -/
def Slot.redirectEmergency (r : Slot) : Slot :=
  if r.drainNext = .empty ∨ r.drainNext = .disabled then { r with drainCause := .emergency }
  else { r with drainCause := .emergency, drainNext := .present, faultCause := .none }

/-- A drain under way changes its recorded cause and next state for the disable condition (R20). -/
def Slot.redirectAdmin (r : Slot) : Slot :=
  if r.drainNext = .empty then { r with drainCause := .admin }
  else { r with drainCause := .admin, drainNext := .disabled, faultCause := .none }

/-- A budget shed order (R22). -/
def State.budgetShed (s : State) (i : SlotId) : State :=
  s.startDrain i .budget (if (s.policy i).restoreAfterShed then .powerWait else .present) .none

/-- A thermal shed order, which acts on an ONLINE slot (R22, R106). -/
def State.thermalShed (s : State) (i : SlotId) : State :=
  if (s.slot i).state = .online then s.startDrain i .thermal .fault .thermal else s

/-! ### Capacity recomputation (R74, R90, R91) -/

/-- The order of the passes: priority from 7 down to 0, and within a priority the highest admission sequence first
(R90). -/
def State.shedBefore (s : State) (i j : SlotId) : Bool :=
  (s.policy j).priority < (s.policy i).priority ||
    ((s.policy i).priority = (s.policy j).priority && (s.grantOf j).admission < (s.grantOf i).admission)

/-- Puts a slot in its place in the order of the passes. -/
def insertSlot (s : State) (i : SlotId) : List SlotId → List SlotId
  | [] => [i]
  | j :: l => if s.shedBefore i j then i :: j :: l else j :: insertSlot s i l

/-- The slots the passes consider, in their order: grant nonzero and not releasing (R90). -/
def State.passOrder (s : State) : List SlotId :=
  (allSlots.filter fun i => (s.grantOf i).grant ≠ 0 && !(s.grantOf i).releasing).foldr (insertSlot s) []

/-- What the capping pass does with one slot whose grant is above its cap level (R90). -/
def State.capSlot (s : State) (i : SlotId) : State :=
  let t := s.updGrant i fun g => { g with grant := s.capLevel i, budgetCapped := true }
  (if t.mayUpgrade i && !(t.grantOf i).thermalCap && !t.hasEntry i .upgrade then t.enqueue i .upgrade
   else t).remark i

/-- The capping pass over its slots; true where it has reduced a grant (R90). -/
def cappingPass : List SlotId → Bool → State → State × Bool
  | [], did, s => (s, did)
  | i :: l, did, s =>
    if 0 ≤ s.headroom then (s, did)
    else if s.capLevel i < (s.grantOf i).grant then cappingPass l true (s.capSlot i)
    else cappingPass l did s

/-- What the shed pass does with one slot (R91). -/
def State.shedSlot (s : State) (i : SlotId) : State :=
  let t := s.updGrant i fun g => { g with releasing := true }
  State.budgetShed { t with powerQueue := t.powerQueue.filter fun e => e.slot ≠ i } i

/-- The shed pass over its slots; true where it has shed one (R91). -/
def sheddingPass : List SlotId → Bool → State → State × Bool
  | [], did, s => (s, did)
  | i :: l, did, s =>
    if 0 ≤ s.headroom then (s, did) else sheddingPass l true (s.shedSlot i)

/-- The capping pass with its event (R90), raised at the pass's end and so before the shed pass, when headroom may still
be below 0 (DESIGN CHOICE, notes/assumptions/41.md; the snapshot's headroom is notes/assumptions/15.md). -/
def State.runCapping (s : State) : State × Bool :=
  let r := cappingPass s.passOrder false s
  (if r.2 then r.1.raise .cappingPass else r.1, r.2)

/-- The shed pass with its event, run where headroom is still below 0 (R91). The event is raised at the pass's end, once
the drains it orders have started (DESIGN CHOICE, notes/assumptions/41.md). -/
def State.runShedding (s : State) : State × Bool :=
  if 0 ≤ s.headroom then (s, false)
  else
    let r := sheddingPass s.passOrder false s
    (if r.2 then r.1.raise .shedPass else r.1, r.2)

/-- The two passes of a recomputation, run where headroom is below 0 (R74, step 2); true where a grant was reduced or
released. -/
def State.restoreBalance (s : State) : State × Bool :=
  if 0 ≤ s.headroom then (s, false)
  else
    let r := s.runCapping
    let q := r.1.runShedding
    (q.1, r.2 || q.2)

/-- The capacity recomputation after an event, old being C_avail before it (R74). -/
def State.recapacity (s : State) (old : Nat) : State :=
  if s.cAvail = old then s
  else
    let r := (s.raise .capacityChange).restoreBalance
    if old < s.cAvail || r.2 then r.1.arbiter else r.1

/-! ### DISABLED, EMPTY, FAULT (R4, R21, R24 to R26) -/

/-- The inventory record, the Station Table entries and the thermal record of a slot are cleared (R24, R25, R60, R98,
R159). -/
def State.clearBlade (s : State) (i : SlotId) : State :=
  ((s.updInv i fun v => { v with record := none }).removeStations i []).updThermal i fun _ => thermalEmpty

/-- Port 15 takes the STACK role when slot 15 enters DISABLED while the role setting is STACK (R131). -/
def State.stackIfDue (s : State) (i : SlotId) : State :=
  if i = slot15 ∧ s.chassis.roleSetting = .stack ∧ s.portRole = .slot then s.takeStackRole else s

/-- Entry to DISABLED (R25). What the entry clears is clear before its event (notes/assumptions/35.md), and port 15 takes
the STACK role after it (DESIGN CHOICE, notes/assumptions/44.md). -/
def State.enterDisabled (s : State) (i : SlotId) : State :=
  (((s.clearBlade i).updSlot i fun r => { r with faultCause := .none, retryCount := 0 }).enter i .disabled).stackIfDue i

/-- Entry to EMPTY (R21, first row): the disable condition is tested first, then the presence wire (R4). What the entry
clears is clear, and a debounce timer that starts runs, before the event (notes/assumptions/35.md). -/
def State.enterEmpty (s : State) (i : SlotId) : State :=
  let t := s.updSlot i fun r => { r with faultCause := .none, drainCause := .none, retryCount := 0 }
  if t.disableCondition i then t.enterDisabled i
  else if (t.slot i).presence then
    (t.updSlot i fun r => { r with debounce := t.timer t.chassis.debounce }).enter i .debounce
  else t.enter i .empty

/-- Entry to FAULT: a retryable cause with retries left starts the retry timer (R26), before the event
(notes/assumptions/35.md). -/
def State.enterFault (s : State) (i : SlotId) : State :=
  (s.updSlot i fun r =>
    { r with
      retry := if r.faultCause.retryable && r.retryCount < (s.policy i).retryLimit
        then s.timer (s.policy i).retryInterval else none }).enter i .fault

/-- The next state of a completed drain is taken (R21). A next state of NONE stands for no drain and changes nothing. -/
def State.takeNext (s : State) (i : SlotId) (next : DrainNext) : State :=
  match next with
  | .none => s
  | .empty => s.enterEmpty i
  | .present => s.enter i .present
  | .powerWait => s.powerRequest i
  | .fault => s.enterFault i
  | .disabled => if s.disableCondition i then s.enterDisabled i else (s.clearBlade i).enterEmpty i

/-- Ramp-down complete for a DRAINING slot: the grant is released first (R21, R94). -/
def State.drainComplete (s : State) (i : SlotId) : State :=
  if (s.slot i).state = .draining then
    let t := s.releaseGrant i
    (t.updSlot i fun r => { r with drainNext := .none }).takeNext i (t.slot i).drainNext
  else s

/-- Every timer of the slot record is stopped. -/
def Slot.stopTimers (r : Slot) : Slot := { r with hold := none, debounce := none, retry := none }

/-- A removal (R24). In POWER_WAIT the arbiter runs on the removed BOOT entry before the slot enters EMPTY (DESIGN CHOICE,
notes/assumptions/43.md). -/
def State.removeBlade (s : State) (i : SlotId) : State :=
  let t := s.clearBlade i
  match (s.slot i).state with
  | .empty => s
  | .debounce => s
  | .disabled => s
  | .present => (t.updSlot i Slot.stopTimers).enterEmpty i
  | .heldPower => (t.updSlot i Slot.stopTimers).enterEmpty i
  | .fault => (t.updSlot i Slot.stopTimers).enterEmpty i
  | .powerWait => (t.withdraw i .boot).enterEmpty i
  | .ramping => t.startDrain i .removed .empty .none
  | .resetHold => t.startDrain i .removed .empty .none
  | .announcing => t.startDrain i .removed .empty .none
  | .heldOnline => t.startDrain i .removed .empty .none
  | .online => t.startDrain i .removed .empty .none
  | .draining => t.updSlot i Slot.redirectRemoved

/-- The disable condition comes to hold (R25): the slot acts according to its state. In POWER_WAIT the arbiter runs on the
removed BOOT entry before the slot enters DISABLED (DESIGN CHOICE, notes/assumptions/43.md). -/
def State.applyDisable (s : State) (i : SlotId) : State :=
  match (s.slot i).state with
  | .disabled => s
  | .draining => s.updSlot i Slot.redirectAdmin
  | .ramping => s.startDrain i .admin .disabled .none
  | .resetHold => s.startDrain i .admin .disabled .none
  | .announcing => s.startDrain i .admin .disabled .none
  | .heldOnline => s.startDrain i .admin .disabled .none
  | .online => s.startDrain i .admin .disabled .none
  | .empty => (s.updSlot i Slot.stopTimers).enterDisabled i
  | .debounce => (s.updSlot i Slot.stopTimers).enterDisabled i
  | .present => (s.updSlot i Slot.stopTimers).enterDisabled i
  | .heldPower => (s.updSlot i Slot.stopTimers).enterDisabled i
  | .fault => (s.updSlot i Slot.stopTimers).enterDisabled i
  | .powerWait => ((s.updSlot i Slot.stopTimers).withdraw i .boot).enterDisabled i

/-- The disable condition has ceased (R25): a DISABLED slot enters EMPTY. -/
def State.applyEnable (s : State) (i : SlotId) : State :=
  if (s.slot i).state = .disabled && !s.disableCondition i then s.enterEmpty i else s

/-- The chassis interlock's assertion at one slot (R23). -/
def State.emergency (s : State) (i : SlotId) : State :=
  if (s.slot i).state = .draining then s.updSlot i Slot.redirectEmergency
  else s.startDrain i .emergency .present .none

/-! ### Reports of the Rail Unit -/

/-- A report of trouble or of completion reaches the Slot Controller (R10, R14, R21). The reports that carry a slot
upward are taken by State.takeReport. -/
def State.handleReport (s : State) (i : SlotId) (report : RailReport) : State :=
  match report with
  | .powerGoodSeen => s
  | .resetReleased => s
  | .powerGoodTimeout =>
    if (s.slot i).state = .ramping then s.startDrain i .fault .fault .noPowerGood else s
  | .powerLost =>
    if (s.slot i).state.heedsPowerLost then s.startDrain i .fault .fault .powerLost else s
  | .rampDownComplete => s.drainComplete i

/-- Reports that carry the slot upward, with one state change event for the state it is left in (R3), raised after the
reset-hold timer or the window that begins there (notes/assumptions/35.md). -/
def State.climb (t : State) (i : SlotId) (reports : List RailReport) : State :=
  let u := t.takeReports i reports
  if (u.slot i).state = (t.slot i).state then u else u.raise (.stateChange i)

/-- A rail record changes and its reports reach the Slot Controller. A report of trouble or of completion comes alone;
the others may come two at a time (R29, R31). The record stands as the rule leaves it, its operation and stage with it,
before the report is handled (DESIGN CHOICE, notes/assumptions/40.md). -/
def State.railStep (s : State) (i : SlotId) (r : Rail × List RailReport) : State :=
  let t := s.setRail i r.1
  match r.2 with
  | [] => t
  | .powerGoodTimeout :: _ => t.handleReport i .powerGoodTimeout
  | .powerLost :: _ => t.handleReport i .powerLost
  | .rampDownComplete :: _ => t.handleReport i .rampDownComplete
  | .powerGoodSeen :: rest => t.climb i (.powerGoodSeen :: rest)
  | .resetReleased :: rest => t.climb i (.resetReleased :: rest)

end Sys2Proof.Machine
end

