-- ==== Sys2Proof/WellFormed.lean ====
section
/-!
DEFINITION. What a well-formed command is: each operand is one that the frame or the item carrying it can hold. Every
other bound is in the operand's type.
-/

namespace Sys2Proof

/-- A number fits a field of some bytes (R179, "Numbers"). -/
def fitsBytes (bytes n : Nat) : Bool := n < 256 ^ bytes

/-- A service frame's sequence is 0 to 65535, and its payload at most 1494 bytes (R165). -/
def ServiceFrame.wellFormed (f : ServiceFrame) : Bool := fitsBytes 2 f.sequence && f.payload.length ≤ 1494

/-- A written service EtherType is one of the listed values (R176). -/
def listedEtherType (v : BitVec 16) : Bool := 0x0600 ≤ v.toNat && v ≠ Config.tagType

/-- A GROUPS item holds at most four members (R149). -/
def membersFit (members : List UplinkId) : Bool := members.length ≤ 4

/-- A command is well-formed. -/
def Instr.wellFormed (i : Instr) : Bool :=
  match i with
  | .powerOnReset _ => true
  | .presenceAsserted _ => true
  | .presenceDeasserted _ => true
  | .debounceExpiry _ => true
  | .holdTimerExpiry _ => true
  | .retryTimerExpiry _ => true
  | .deadIntervalExpiry _ => true
  | .powerGoodAsserted _ => true
  | .powerGoodFall _ => true
  | .powerGoodTimerExpiry _ => true
  | .resetHoldExpiry _ => true
  | .dischargeTimerExpiry _ => true
  | .interlockAsserted => true
  | .interlockReleased => true
  | .psuLineAsserted _ _ => true
  | .psuLineDeasserted _ _ => true
  | .settleTimerExpiry _ => true
  | .announce _ f => f.wellFormed
  | .waitExtend _ f => f.wellFormed
  | .announceDeadlineExpiry _ => true
  | .telemetry _ f => f.wellFormed
  | .sensorStale _ _ => true
  | .criticalGraceExpiry _ => true
  | .controlInterval => true
  | .pwmPeriodStart _ => true
  | .tachEdge _ _ => true
  | .overflowTimerExpiry _ => true
  | .fanPresenceDeasserted _ => true
  | .fanPresenceAsserted _ => true
  | .linkUp _ => true
  | .linkDown _ => true
  | .holdDownExpiry _ => true
  | .slotPortFrame _ _ => true
  | .uplinkPortFrame _ _ => true
  | .epoch => true
  | .request _ f => f.wellFormed
  | .read => true
  | .write => true
  | .powerOn => true
  | .powerOff => true
  | .release => true
  | .reset => true
  | .refresh => true
  | .clearFault => true
  | .controllerReset => true
  | .adminEnableWrite _ _ => true
  | .roleSettingStackWrite => true
  | .roleSettingSlotWrite => true
  | .powerPolicyWrite _ priority boot floor => fitsBytes 1 priority && fitsBytes 2 boot && fitsBytes 2 floor
  | .psuCapacityWrite _ watts => fitsBytes 2 watts
  | .redundancyModeWrite _ overhead => fitsBytes 2 overhead
  | .fanFullPowerWrite _ watts => fitsBytes 1 watts
  | .minDemandWrite _ perMille => fitsBytes 2 perMille
  | .staleLimitWrite ms => fitsBytes 2 ms
  | .rateCodeWrite _ _ _ => true
  | .bucketDepthWrite _ kib => fitsBytes 2 kib
  | .memberListWrite _ members => membersFit members
  | .classifyEntryWrite _ _ => true
  | .serviceEthertypeWrite v => listedEtherType v
  | .noticeCfgWrite cfg => fitsBytes 2 cfg.spacing
  | .writeItem => true
  | .warmResetInputAsserted => true
  | .warmResetInputDeasserted => true
  | .spacingTimerExpiry => true

end Sys2Proof
end

