-- ==== Sys2Proof/Machine/Operands.lean ====
section
/-!
DEFINITION. Every operand form: a received frame (R129, R133, R165), the announcement record (R58, R179), and the
items of a WRITE (R173, R179).
-/

namespace Sys2Proof.Machine

/-! ### Received frames -/

/-- A received frame with its fields found (R133, R165). -/
structure Received where
  /-- The bytes as received, from the destination address to the last byte of the FCS. -/
  raw       : List Byte
  dst       : Addr
  src       : Addr
  /-- The identifier of the outermost tag, where the frame is tagged. -/
  tag       : Option Nat
  /-- The EtherType, taken after the tag for a tagged frame. -/
  etherType : BitVec 16
  /-- The bytes after that EtherType, less the FCS. -/
  body      : List Byte
  deriving DecidableEq, Repr

/-- The type field at an offset. -/
def typeAt (l : List Byte) (off : Nat) : BitVec 16 := byteAt l off ++ byteAt l (off + 1)

/-- A frame is complete and its FCS is good (R129). A frame too short to hold its addresses, its type and its FCS is not
complete. DESIGN CHOICE, notes/assumptions/10.md. -/
def frameGood (raw : List Byte) : Bool :=
  18 ≤ raw.length && raw.drop (raw.length - 4) = fcsBytes (raw.take (raw.length - 4))

/-- Reads a received frame at the port: none where the port discards it (R129). A tagged frame too short to hold the
type after its tag is not complete either (notes/assumptions/10.md). -/
def receive (raw : List Byte) : Option Received :=
  if frameGood raw then
    let l := raw.take (raw.length - 4)
    if typeAt l 12 = Config.tagType then
      if 18 ≤ l.length then
        some { raw := raw, dst := addrAt l 0, src := addrAt l 6, tag := some (nat16At l 14 % 4096),
               etherType := typeAt l 16, body := l.drop 18 }
      else none
    else
      some { raw := raw, dst := addrAt l 0, src := addrAt l 6, tag := none, etherType := typeAt l 12,
             body := l.drop 14 }
  else none

/-- The frame holds a service header after its EtherType (R133, R165). -/
def Received.hasHeader (f : Received) : Bool := 6 ≤ f.body.length

/-- The header's version, where the frame has a header. -/
def Received.version (f : Received) : Option Byte := if f.hasHeader then some (byteAt f.body 0) else none

/-- The header's kind, where the frame has a header. -/
def Received.kind (f : Received) : Option Byte := if f.hasHeader then some (byteAt f.body 1) else none

/-- The payload: the first payload-length bytes after the header, or the bytes the frame holds (R165). -/
def Received.payload (f : Received) : List Byte := (f.body.drop 6).take (nat16At f.body 4)

/-- The service frame in its fields. -/
def Received.service (f : Received) : ServiceFrame := ⟨f.dst, f.src, nat16At f.body 2, f.payload⟩

/-! ### The announcement record (R179) -/

/-- Takes a string: its length, then its characters. None where the bytes run out. -/
def takeString (l : List Byte) : Option (List Byte × List Byte) :=
  match l with
  | [] => none
  | n :: rest => if n.toNat ≤ rest.length then some (rest.take n.toNat, rest.drop n.toNat) else none

/-- Takes a number of addresses. -/
def takeAddrs : Nat → List Byte → Option (List Addr × List Byte)
  | 0, l => some ([], l)
  | n + 1, l =>
    if 6 ≤ l.length then
      match takeAddrs n (l.drop 6) with
      | none => none
      | some (as, rest) => some (addrAt l 0 :: as, rest)
    else none

/-- Takes a number of sensors: id, T_lo, T_hi, T_crit. None where an id is above 3 (R58, check 4). -/
def takeSensors : Nat → List Byte → Option (List SensorLimits × List Byte)
  | 0, l => some ([], l)
  | n + 1, l =>
    if 4 ≤ l.length then
      if h : nat8At l 0 < 4 then
        match takeSensors n (l.drop 4) with
        | none => none
        | some (xs, rest) =>
          some (⟨⟨nat8At l 0, h⟩, (byteAt l 1).toInt, (byteAt l 2).toInt, (byteAt l 3).toInt⟩ :: xs, rest)
      else none
    else none

/-- The length of a string lies in a range (R58, check 5). -/
def lengthIn (lo hi : Nat) (l : List Byte) : Bool := lo ≤ l.length && l.length ≤ hi

/-- Reads and validates an announcement record (R58). None is BAD_RECORD. After the sensor list exactly the two bytes of
the CRC remain (check 6). -/
def readRecord (l : List Byte) : Option Announced := do
  if !(7 ≤ l.length && nat8At l 0 = 1) then none
  let power := nat16At l 4
  if !(1 ≤ power && power ≤ 1000) then none
  let (model, l1) ← takeString (l.drop 6)
  let (serial, l2) ← takeString l1
  let (firmware, l3) ← takeString l2
  if !(lengthIn 1 32 model && lengthIn 1 24 serial && lengthIn 0 32 firmware) then none
  let a := nat8At l3 0
  if !(1 ≤ l3.length && 1 ≤ a && a ≤ 4) then none
  let (addrs, l4) ← takeAddrs a (l3.drop 1)
  let n := nat8At l4 0
  if !(1 ≤ l4.length && n ≤ 4) then none
  let (sensors, l5) ← takeSensors n (l4.drop 1)
  if !((sensors.map SensorLimits.id).Nodup && l5.length = 2) then none
  some { vendor := nat16At l 1, hwRev := nat8At l 3, power := power, model := model, serial := serial,
         firmware := firmware, addrs := addrs, sensors := sensors }

/-- The record's CRC is good (R53): computed over every byte but the last two, compared with those two. -/
def crcGood (l : List Byte) : Bool :=
  (crc16 (l.take (l.length - 2))).toNat = nat16At l (l.length - 2)

/-- One sensor's limits are repaired (R59). -/
def SensorLimits.repair (x : SensorLimits) : SensorLimits :=
  let crit := clampInt (-40) 125 x.crit
  let hi := clampInt (-40) 125 x.hi
  { x with lo := clampInt (-40) 125 x.lo, hi := hi, crit := if crit < hi then hi else crit }

/-! ### Items of a WRITE (R173) -/

/-- A flag must hold 0 or 1. -/
def readFlag (b : Byte) : Option Bool :=
  if b = 0#8 then some false else if b = 1#8 then some true else none

/-- An enumerated field must hold the position of one of its listed values. -/
def readEnum {α : Type} (values : List α) (b : Byte) : Option α := values[b.toNat]?

/-- A port set names no port above 19. -/
def readPorts (n : Nat) : Option PortSet := if n < 2 ^ 20 then some (BitVec.ofNat 20 n) else none

/-- The service EtherType's values (R176): not below 0x0600, and not the tag type. -/
def etherTypeAllowed (v : BitVec 16) : Bool := listedEtherType v

/-- A list with the later mentions of a value dropped (R149). -/
def firstMentions : List UplinkId → List UplinkId → List UplinkId
  | _, [] => []
  | seen, u :: l => if seen.contains u then firstMentions seen l else u :: firstMentions (u :: seen) l

/-- Reads uplink numbers; none where one is above 4 (R149). -/
def readMembers : List Byte → Option (List UplinkId)
  | [] => some []
  | b :: l =>
    if h : b.toNat < 5 then (readMembers l).map fun us => ⟨b.toNat, h⟩ :: us else none

/-- CLASSIFY (R140, R145): a redirect uplink above 4 is clamped to 4. -/
def readClassify (l : List Byte) : Option ClassEntry := do
  let valid ← readFlag (byteAt l 0)
  let ports ← readPorts (nat24At l 1)
  let tag ← readEnum [TagMatch.any, .tagged, .untagged] (byteAt l 22)
  let action ← readEnum [ClassAction.forward, .forwardSnoop, .drop, .redirect] (byteAt l 23)
  some { valid := valid, ports := ports, dstValue := addrAt l 4, dstMask := addrAt l 10, typeValue := typeAt l 16,
         typeMask := typeAt l 18, kindValue := byteAt l 20, kindMask := byteAt l 21, tagMatch := tag,
         action := action, redirect := Fin.ofNat 5 (clamp 0 4 (nat8At l 24)) }

/-- A rate code must be 0 to 15 (R151). -/
def readRate (b : Byte) : Option RateCode := if h : b.toNat < 16 then some ⟨b.toNat, h⟩ else none

/-- UPLINK_MAP (R151). -/
def readMap (l : List Byte) : Option UplinkMap := do
  let group ← (if h : nat8At l 0 < 4 then some (⟨nat8At l 0, h⟩ : GroupId) else none)
  let rate ← readRate (byteAt l 3)
  let capRate ← readRate (byteAt l 4)
  some { group := group, tag := clamp 0 4094 (nat16At l 1), rate := rate, capRate := capRate,
         depth := clamp 1 256 (nat16At l 5) }

/-- GROUPS (R149, R173): a count above 4 fails, member bytes beyond the count are ignored. -/
def readGroup (l : List Byte) : Option (GroupMode × List UplinkId) := do
  let mode ← readEnum [GroupMode.failover, .spread] (byteAt l 0)
  if 4 < nat8At l 1 then none
  let members ← readMembers ((l.drop 2).take (nat8At l 1))
  some (mode, firstMentions [] members)

/-- The cap floor is brought into its range and then raised to the boot allowance of the same item (R78, R173). -/
def capFloorTied (boot floor : Nat) : Nat := max boot (clamp 1 1000 floor)

/-- SLOT_POLICY (R2, R78, R112). -/
def readPolicy (l : List Byte) : Option SlotPolicy := do
  let admin ← readFlag (byteAt l 0)
  let auto ← readFlag (byteAt l 1)
  let holdPower ← readFlag (byteAt l 2)
  let holdOnline ← readFlag (byteAt l 3)
  let restore ← readFlag (byteAt l 4)
  let holdDefault ← readEnum [HoldDefault.proceed, .deny] (byteAt l 5)
  let boot := clamp 1 1000 (nat16At l 11)
  some { adminEnable := admin, autoPower := auto, holdPower := holdPower, holdOnline := holdOnline,
         restoreAfterShed := restore, holdDefault := holdDefault, holdTimeout := clamp 0 3600 (nat16At l 6),
         retryLimit := clamp 0 7 (nat8At l 8), retryInterval := clamp 100 60000 (nat16At l 9),
         bootAllowance := boot, capFloor := capFloorTied boot (nat16At l 13), priority := clamp 0 7 (nat8At l 15),
         weights := Tab.make fun z => clamp 0 8 (nat8At l (16 + z.val)) }

/-- CHASSIS (R2, R29, R54, R70, R72, R73, R97, R130, R146, R176). -/
def readChassis (l : List Byte) : Option Chassis := do
  let mode ← readEnum [RedundancyMode.none, .nPlus1, .grid] (byteAt l 0)
  let role ← readEnum [PortRole.slot, .stack] (byteAt l 9)
  let ether ← (if etherTypeAllowed (typeAt l 10) then some (typeAt l 10) else none)
  some { mode := mode, overhead := clamp 0 2000 (nat16At l 1), staleLimit := clamp 500 60000 (nat16At l 3),
         staleDemand := clamp 0 1000 (nat16At l 5), bootDemand := clamp 0 1000 (nat16At l 7), roleSetting := role,
         etherType := ether, firstTimeout := clamp 100 60000 (nat16At l 12),
         gapTimeout := clamp 10 10000 (nat16At l 14), wholeTimeout := clamp 100 60000 (nat16At l 16),
         queryWait := clamp 100 30000 (nat16At l 18), holdDown := clamp 0 60000 (nat16At l 20),
         deadInterval := clamp 1 255 (nat8At l 22), dischargeTime := clamp 10 5000 (nat16At l 23),
         resetHold := clamp 0 2000 (nat16At l 25), powerGoodTimeout := clamp 10 2000 (nat16At l 27),
         debounce := clamp 1 1000 (nat16At l 29), settleTime := clamp 0 10000 (nat16At l 31),
         criticalGrace := clamp 1000 60000 (nat16At l 33) }

/-- IDENTITY (R166, R168): the address of an item has no group bit and is not all zero. -/
def readIdentity (l : List Byte) : Option Identity := do
  let enabled ← readFlag (byteAt l 0)
  let access ← readEnum [Access.observe, .control] (byteAt l 7)
  let ports ← readPorts (nat24At l 8)
  if groupBit (addrAt l 1) || addrAt l 1 = 0#48 then none
  some { enabled := enabled, addr := addrAt l 1, access := access, ports := ports }

/-- NOTICE_CFG (R180). -/
def readNoticeCfg (l : List Byte) : Option NoticeCfg := do
  let enable ← readFlag (byteAt l 0)
  some { enable := enable, dst := addrAt l 1, egress := Fin.ofNat 20 (clamp 0 19 (nat8At l 7)),
         spacing := clamp 0 1000 (nat16At l 8) }

/-- Reads one write image of a space: none where an enumerated field fails (R173), else the item with its numeric fields
clamped. -/
def readItem (sp : Space) (l : List Byte) : Option Item :=
  match sp with
  | .classify => (readClassify l).map Item.classify
  | .uplinkMap => (readMap l).map Item.uplinkMap
  | .groups => (readGroup l).map fun g => Item.group g.1 g.2
  | .slotPolicy => (readPolicy l).map Item.slotPolicy
  | .psu => some (.psu (clamp 0 4000 (nat16At l 0)))
  | .fan =>
    some (.fan (clamp 0 1000 (nat16At l 0)) (clamp 1 4 (nat8At l 2)) (clamp 0 20000 (nat16At l 3))
      (clamp 0 200 (nat8At l 5)))
  | .zone =>
    (readFlag (byteAt l 6)).map fun stop =>
      Item.zone (clamp 0 1000 (nat16At l 0)) (clamp 0 1000 (nat16At l 2)) (clamp 0 1000 (nat16At l 4)) stop
  | .chassis => (readChassis l).map Item.chassis
  | .identity => (readIdentity l).map Item.identity
  | .noticeCfg => (readNoticeCfg l).map Item.noticeCfg
  | .slotStatus => none
  | .inventory => none
  | .thermal => none
  | .station => none
  | .fanStatus => none
  | .powerStatus => none

/-- An item as read stands as it was written: no value was replaced, no cap floor raised and no member list shortened
(R173). Of a GROUPS item only the count tells, since member bytes beyond the count are ignored. -/
def Item.asWritten (x : Item) (l : List Byte) : Bool :=
  match x with
  | .group _ members => members.length = nat8At l 1
  | .classify e => classifyImage e = l
  | .uplinkMap m => uplinkMapImage m = l
  | .slotPolicy p => policyImage p = l
  | .psu c => be16 c = l
  | .fan a b c d => fanImage a b c d = l
  | .zone a b c d => zoneImage a b c d = l
  | .chassis c => chassisImage c = l
  | .identity r => identityImage r = l
  | .noticeCfg c => noticeCfgImage c = l

end Sys2Proof.Machine
end

