-- ==== Sys2Proof/Machine/Announce.lean ====
section
/-!
DEFINITION. The Announcement Receiver (chapter 3): fragments, whole-record checks, acceptance, deadlines, refresh; and the
meanings of ANNOUNCE, WAIT_EXTEND and ANNOUNCE_DEADLINE_EXPIRY.
-/

namespace Sys2Proof.Machine

/-! ### Replies (R47) -/

/-- The destination of an ANNOUNCE_REPLY: the reply address, or broadcast where there is none (R47). -/
def Context.replyDst (c : Context) : Addr := c.replyAddr.getD Config.broadcast

/-- Sends an ANNOUNCE_REPLY out of the slot's port (R47). -/
def State.sendReply (s : State) (i : SlotId) (payload : List Byte) : State :=
  s.transmit (slotPort i) .announceReply
    (s.serviceFrame (s.context i).replyDst kindAnnounceReply (s.context i).replySeq payload)

/-- ACCEPT: the generation and the repaired flag (R179). -/
def acceptPayload (generation : Nat) (repaired : Bool) : List Byte := [0#8] ++ be16 generation ++ [flag repaired]

/-- RESEND: the fragment index to send next (R179). -/
def resendPayload (index : Nat) : List Byte := [1#8, byte1 index]

/-- REFUSE: its reason (R179). -/
def refusePayload (reason : RefuseReason) : List Byte := [2#8, byte1 reason.code]

/-! ### Failure (R52, R55, R58, R67) -/

/-- A window or a refresh fails: REFUSE is sent and the context closes. A window's failure drains the slot to FAULT (R12),
a refresh's raises its event (R67). -/
def State.failContext (s : State) (i : SlotId) (reason : RefuseReason) (cause : FaultCause) : State :=
  let t := (s.sendReply i (refusePayload reason)).closeContext i
  match (s.context i).mode with
  | .closed => s
  | .window => if (t.slot i).state = .announcing then t.startDrain i .fault .fault cause else t
  | .refresh => t.raise (.refreshFailed i reason)

/-! ### Rejects (R51, R53) -/

/-- The gap deadline, due after the inter-fragment timeout from now (R54). -/
def State.gapDeadline (s : State) : Deadline := ⟨.gap, s.clock + s.chassis.gapTimeout⟩

/-- The pending deadline is FIRST. -/
def Context.pendingFirst (c : Context) : Bool :=
  match c.pending with
  | none => false
  | some d => d.kind = .first

/-- A fragment is rejected (R51, R52). -/
def State.rejectFragment (s : State) (i : SlotId) : State :=
  if (s.context i).rejects < Config.rejectLimit then
    ((s.updContext i fun c => { c with rejects := c.rejects + 1 }).sendReply i
      (resendPayload (s.context i).expected)).updContext i fun c =>
        if c.pendingFirst then c else { c with pending := some s.gapDeadline }
  else s.failContext i .rejectLimit .announceRejected

/-- A failed whole-record check is one reject, and the assembly restarts (R53). -/
def State.rejectRecord (s : State) (i : SlotId) : State :=
  if (s.context i).rejects < Config.rejectLimit then
    ((s.updContext i fun c => { c with rejects := c.rejects + 1 }).sendReply i (resendPayload 0)).updContext i fun c =>
      { c with
        expected := 0, declaredLength := none, declaredCount := none, assembly := [],
        pending := some s.gapDeadline }
  else s.failContext i .rejectLimit .announceRejected

/-! ### Acceptance (R61 to R64) -/

/-- The next generation: from 65535 to 1 (R61). -/
def nextGeneration (n : Nat) : Nat := if n < Config.counterTop then n + 1 else 1

/-- The accepted record as it is stored, before the Station Table gives its addresses their statuses (R62, step 1). -/
def Announced.stored (r : Announced) (generation : Nat) (sensors : List SensorLimits) : InvRecord :=
  { vendor := r.vendor, hwRev := r.hwRev, power := r.power, generation := generation, model := r.model,
    serial := r.serial, firmware := r.firmware, addrs := r.addrs.map fun a => ⟨a, .invalid⟩, sensors := sensors }

/-- The hand-off of the declared power (R64). -/
def State.handOffPower (s : State) (i : SlotId) (mode : ContextMode) (old : Option InvRecord) (power : Nat) : State :=
  match mode with
  | .closed => s
  | .window => s.acceptTarget i power
  | .refresh => if old.map InvRecord.power = some power then s else s.refreshTarget i power

/-- The end of an acceptance: the event, and for a window the report that moves the slot (R12, R62 step 7, R67). The order
of the accepted event and the slot's move is notes/assumptions/18.md. -/
def State.reportAccepted (s : State) (i : SlotId) (mode : ContextMode) : State :=
  match mode with
  | .closed => s
  | .refresh => s.raise (.refreshDone i)
  | .window =>
    let t := s.raise (.accepted i)
    if (t.slot i).state = .announcing then
      if (t.policy i).holdOnline then t.enterHeld i .heldOnline else t.enterOnline i
    else t

/-- Acceptance of a validated record (R62). -/
def State.acceptRecord (s : State) (i : SlotId) (r : Announced) : State :=
  let mode := (s.context i).mode
  let old := (s.inv i).record
  let generation := nextGeneration (s.inv i).generation
  let sensors := r.sensors.map SensorLimits.repair
  let t := s.updInv i fun _ => ⟨some (r.stored generation sensors), generation⟩
  let t := t.updateStations i r.addrs
  let t := t.rebuildThermal i sensors
  let t := t.handOffPower i mode old r.power
  let t := t.sendReply i (acceptPayload generation (sensors ≠ r.sensors))
  (t.closeContext i).reportAccepted i mode

/-- A complete assembly: the length, the CRC, then validation (R53, R58). -/
def State.checkRecord (s : State) (i : SlotId) : State :=
  let record := (s.context i).assembly
  if some record.length = (s.context i).declaredLength && crcGood record then
    match readRecord record with
    | none => s.failContext i .badRecord .badRecord
    | some r => s.acceptRecord i r
  else s.rejectRecord i

/-! ### Fragments (R48 to R50) -/

/-- A fragment's fields are in their ranges (R48); a payload of fewer than 4 bytes is malformed. -/
def fragmentWellFormed (payload : List Byte) : Bool :=
  4 ≤ payload.length && 21 ≤ nat8At payload 0 && nat8At payload 0 ≤ 141 && 1 ≤ nat8At payload 1
    && nat8At payload 1 ≤ 4 && nat8At payload 2 < nat8At payload 1 && payload.length - 3 ≤ 64

/-- The consistency test (R49): the declared length and count equal the fragment's, or are not set. -/
def Context.consistent (c : Context) (length count : Nat) : Bool :=
  (c.declaredLength = none || c.declaredLength = some length) && (c.declaredCount = none || c.declaredCount = some count)

/-- A fragment is appended (R49). After the last of four the expected fragment is 4, beyond the values of R43, until the
same handling restarts or closes the context (DEDUCED, notes/assumptions/45.md). -/
def State.appendFragment (s : State) (i : SlotId) (length count : Nat) (bytes : List Byte) : State :=
  s.updContext i fun c =>
    { c with
      declaredLength := some length, declaredCount := some count, assembly := c.assembly ++ bytes,
      expected := c.expected + 1, pending := some s.gapDeadline }

/-- The fragment fits the declared length once its own declaration, if it begins an assembly, is taken (R49, room). -/
def Context.hasRoom (c : Context) (length size : Nat) : Bool :=
  c.assembly.length + size ≤ c.declaredLength.getD length

/-- A fragment that begins an assembly sets the declared length and count before the room test is made (R49, test 1). -/
def Context.declare (c : Context) (length count : Nat) : Context :=
  { c with
    declaredLength := some (c.declaredLength.getD length), declaredCount := some (c.declaredCount.getD count) }

/-- A fragment whose index is the one expected (R49). -/
def State.expectedFragment (s : State) (i : SlotId) (payload : List Byte) : State :=
  let length := nat8At payload 0
  let count := nat8At payload 1
  let bytes := payload.drop 3
  if (s.context i).consistent length count then
    let t := s.updContext i fun c => c.declare length count
    if (s.context i).hasRoom length bytes.length then
      let u := t.appendFragment i length count bytes
      if nat8At payload 2 + 1 = count then u.checkRecord i else u
    else t.rejectFragment i
  else s.rejectFragment i

/-- A fragment taken by an open context (R48 to R51). -/
def State.takeFragment (s : State) (i : SlotId) (payload : List Byte) : State :=
  if fragmentWellFormed payload then
    if nat8At payload 2 = (s.context i).expected then s.expectedFragment i payload
    else if nat8At payload 2 < (s.context i).expected then s
    else s.rejectFragment i
  else s.rejectFragment i

/-- A frame is taken: the reply address and sequence become the frame's (R47). -/
def State.noteSender (s : State) (i : SlotId) (f : ServiceFrame) : State :=
  s.updContext i fun c => { c with replyAddr := some f.src, replySeq := f.sequence }

/-- An ANNOUNCE handed to the Announcement Receiver for a slot (R47): dropped where the context is CLOSED. -/
def State.takeAnnounce (s : State) (i : SlotId) (f : ServiceFrame) : State :=
  if (s.context i).mode = .closed then s else (s.noteSender i f).takeFragment i f.payload

/-! ### WAIT_EXTEND (R57) -/

/-- The pending deadline is moved later. -/
def Context.extend (ms : Nat) (c : Context) : Context :=
  { c with extensions := c.extensions + 1, pending := c.pending.map fun d => { d with due := d.due + ms } }

/-- A WAIT_EXTEND handed to the Announcement Receiver for a slot (R47, R57). -/
def State.takeExtend (s : State) (i : SlotId) (f : ServiceFrame) : State :=
  if (s.context i).mode = .closed then s
  else
    let t := s.noteSender i f
    if 2 ≤ f.payload.length && (s.context i).extensions < Config.extensionLimit then
      t.updContext i (Context.extend (clamp 1 10000 (nat16At f.payload 0)))
    else t

/-! ### Identities at the gate (R133) -/

/-- The enabled identity of lowest number that holds an address (R133). -/
def State.identityOf (s : State) (a : Addr) : Option IdentityId :=
  (List.finRange 4).find? fun k => (s.identity k).enabled && (s.identity k).addr = a

/-- The frame is addressed to the part as an announcement kind may be: an identity address or broadcast (R133). -/
def State.addressedToPart (s : State) (a : Addr) : Bool := (s.identityOf a).isSome || a = Config.broadcast

/-- Port 15 serves slot 15 only in the SLOT role (R130). -/
def State.servesSlot (s : State) (i : SlotId) : Bool := i ≠ slot15 || s.portRole = .slot

/-! ### Refresh (R65) and warm reset (R44) -/

/-- The first address of the slot's record with status INSTALLED (R65). -/
def State.firstInstalled (s : State) (i : SlotId) : Option Addr :=
  match (s.inv i).record with
  | none => none
  | some r => (r.addrs.find? fun x => x.status = .installed).map ListedAddr.addr

/-- A refresh begins: QUERY is sent, then the context opens in REFRESH (R65). -/
def State.startRefresh (s : State) (i : SlotId) : State :=
  let dst := s.firstInstalled i
  (s.transmit (slotPort i) .query
    (s.serviceFrame (dst.getD Config.broadcast) kindQuery (s.inv i).generation [])).updContext i fun _ =>
      { contextClosed with
        mode := .refresh
        pending := some ⟨.first, s.clock + s.chassis.queryWait⟩
        whole := some (s.clock + max s.chassis.wholeTimeout s.chassis.queryWait)
        replyAddr := dst }

/-- What warm reset does to one context (R44). The reply sequence is not among the fields R44 resets. -/
def State.warmContext (s : State) (c : Context) : Context :=
  match c.mode with
  | .closed => c
  | .refresh => contextClosed
  | .window =>
    { c with
      expected := 0, declaredLength := none, declaredCount := none, assembly := [], rejects := 0, extensions := 0,
      replyAddr := none,
      pending := some ⟨.first, s.clock + s.chassis.firstTimeout⟩,
      whole := some (s.clock + max s.chassis.wholeTimeout s.chassis.firstTimeout) }

/-! ### Meanings -/

/-- ANNOUNCE (R47 to R53, R58, R62, R133, R136): an ANNOUNCE frame on port S(slot). One that is not addressed to the part
is no frame of this row; it is then ordinary traffic, which SLOT_PORT_FRAME takes. The port's link is not asked
(notes/assumptions/37.md). -/
def execAnnounce (i : SlotId) (f : ServiceFrame) (s : State) : Host.Outcome State Fault Refusal :=
  .next (if s.addressedToPart f.dst && s.servesSlot i then s.takeAnnounce i f else s)

/-- WAIT_EXTEND (R47, R57, R133, R136), the port's link not asked (notes/assumptions/37.md). -/
def execWaitExtend (i : SlotId) (f : ServiceFrame) (s : State) : Host.Outcome State Fault Refusal :=
  .next (if s.addressedToPart f.dst && s.servesSlot i then s.takeExtend i f else s)

/-- A due time has been reached; a deadline that is none has none. -/
def reached (now : Nat) (due : Option Nat) : Bool :=
  match due with
  | none => false
  | some d => d ≤ now

/-- The pending deadline or the whole deadline is due (R55). -/
def Context.overdue (c : Context) (now : Nat) : Bool :=
  reached now (c.pending.map Deadline.due) || reached now c.whole

/-- ANNOUNCE_DEADLINE_EXPIRY (R55, R56): any of the three deadlines, its due time reached, ends the window or the refresh
in the same way. An expiry whose deadline an append, a reject or an extension has moved is no longer due and does not
occur (R56; notes/assumptions/3.md for the millisecond it is judged by). -/
def execAnnounceDeadlineExpiry (i : SlotId) (s : State) : Host.Outcome State Fault Refusal :=
  .next (if (s.context i).overdue s.clock then s.failContext i .timeout .announceTimeout else s)

end Sys2Proof.Machine
end

