-- ==== Sys2Proof/Machine/Events.lean ====
section
/-!
DEFINITION. Supplies (R70), the thermal events (R101, R106), links and hold-down (R129, R147), the epoch (R162), the
two resets (R1, R177, R178) and the spacing timer (R182), with their meanings.
-/

namespace Sys2Proof.Machine

/-! ### Supplies (R70) -/

/-- The counted field of a supply changes: its event, then the capacity recomputation (R70, R74). -/
def State.setCounted (s : State) (p : PsuId) (b : Bool) : State :=
  ((s.updPsu p fun r => { r with counted := b, settle := none }).raise (.countedChange p)).recapacity s.cAvail

/-- A line's level in the record. -/
def Psu.withLine (line : PsuLine) (b : Bool) (r : Psu) : Psu :=
  match line with
  | .present => { r with present := b }
  | .powerGood => { r with powerGood := b }

/-- A line's level as the record holds it. -/
def Psu.line (r : Psu) : PsuLine → Bool
  | .present => r.present
  | .powerGood => r.powerGood

/-- The settle timer starts, with a settle time of 0 counting the supply at once (R70). -/
def State.startSettle (s : State) (p : PsuId) : State :=
  if s.chassis.settleTime = 0 then s.setCounted p true
  else s.updPsu p fun r => { r with settle := s.timer s.chassis.settleTime }

/-- A line rises: with both lines asserted and the supply uncounted its settle timer starts (R70). -/
def State.psuRise (s : State) (p : PsuId) (line : PsuLine) : State :=
  let t := s.updPsu p (Psu.withLine line true)
  if (t.psu p).present && (t.psu p).powerGood && !(t.psu p).counted then t.startSettle p else t

/-- A line falls: the settle timer stops and a counted supply becomes uncounted at once (R70). -/
def State.psuFall (s : State) (p : PsuId) (line : PsuLine) : State :=
  let t := s.updPsu p fun r => { r.withLine line false with settle := none }
  if (t.psu p).counted then t.setCounted p false else t

/-- PSU_LINE_ASSERTED (R70). -/
def execPsuLineAsserted (p : PsuId) (line : PsuLine) (s : State) : Host.Outcome State Fault Refusal :=
  .next (if (s.psu p).line line then s else s.psuRise p line)

/-- PSU_LINE_DEASSERTED (R70). -/
def execPsuLineDeasserted (p : PsuId) (line : PsuLine) (s : State) : Host.Outcome State Fault Refusal :=
  .next (if (s.psu p).line line then s.psuFall p line else s)

/-- SETTLE_TIMER_EXPIRY (R70). -/
def execSettleTimerExpiry (p : PsuId) (s : State) : Host.Outcome State Fault Refusal :=
  .next (if (s.psu p).settle.isSome then s.setCounted p true else s)

/-! ### Thermal events (R101, R106) -/

/-- The slot has a sensor of the id with a VALID reading. -/
def ThermalRecord.validSensor (r : ThermalRecord) (id : SensorId) : Bool :=
  r.sensors.any fun x => x.limits.id = id && x.validity = .valid

/-- SENSOR_STALE (R101, R105): the age of a VALID sensor passes the stale limit, and the clear test is made. -/
def execSensorStale (i : SlotId) (id : SensorId) (s : State) : Host.Outcome State Fault Refusal :=
  .next (if (s.thermalOf i).validSensor id then
      (s.updThermal i fun r => r.modify id (Sensor.agePast s.chassis.staleLimit)).clearTest i
    else s)

/-- The grace timer has expired: with the critical flag still set the slot is shed (R106). -/
def State.graceExpired (s : State) (i : SlotId) : State :=
  let t := s.updThermal i fun r => { r with grace := none }
  if (s.thermalOf i).critical then t.thermalShed i else t

/-- CRITICAL_GRACE_EXPIRY (R106). -/
def execCriticalGraceExpiry (i : SlotId) (s : State) : Host.Outcome State Fault Refusal :=
  .next (if (s.thermalOf i).grace.isSome then s.graceExpired i else s)

/-! ### Links (R129, R147, R182) -/

/-- A link comes up: the uplink's record first, then a send attempt where it is the egress port's (R147, R148, R182;
notes/assumptions/19.md). -/
def State.linkRise (s : State) (p : PortId) : State :=
  let t := s.updLink p fun _ => true
  let u := match portUplink p with
    | none => t
    | some u => t.uplinkUp u
  if u.noticeCfg.egress = p then u.attemptSend else u

/-- A link goes down (R147). -/
def State.linkFall (s : State) (p : PortId) : State :=
  let t := s.updLink p fun _ => false
  match portUplink p with
  | none => t
  | some u => t.dropUplink u

/-- LINK_UP (R129, R147). -/
def execLinkUp (p : PortId) (s : State) : Host.Outcome State Fault Refusal :=
  .next (if s.link p then s else s.linkRise p)

/-- LINK_DOWN (R129, R147). -/
def execLinkDown (p : PortId) (s : State) : Host.Outcome State Fault Refusal :=
  .next (if s.link p then s.linkFall p else s)

/-- HOLD_DOWN_EXPIRY (R147). -/
def execHoldDownExpiry (u : UplinkId) (s : State) : Host.Outcome State Fault Refusal :=
  .next (if (s.uplink u).holdDown.isSome then
      (s.updUplink u fun r => { r with holdDown := none }).setUsable u true
    else s)

/-! ### Time (R96, R162) -/

/-- EPOCH (R162): every meter takes its pending code and is refilled. The millisecond that has passed is also counted by
the clock and by every sensor's age (R96; notes/assumptions/4.md). -/
def execEpoch (s : State) : Host.Outcome State Fault Refusal :=
  .next { s with
    clock := s.clock + 1
    meters := Tab.each (fun i m => m.epoch (s.map i).depthBytes) s.meters
    thermal := Tab.each (fun _ r => r.older) s.thermal }

/-! ### Resets (R1, R177, R178) -/

/-- The four actions of a warm reset (R177). -/
def State.warmReset (s : State) : State :=
  { s with
    requests := []
    writeJob := none
    notices := []
    contexts := Tab.each (fun _ c => s.warmContext c) s.contexts
    meters := Tab.each (fun i m => { m with tokens := (s.map i).depthBytes }) s.meters }

/-- POWER_ON_RESET (R1): every piece of state takes its power-on value. The commands that wait and the frames already sent
are not the part's state. -/
def execPowerOnReset (pins : Pins) (s : State) : Host.Outcome State Fault Refusal :=
  .next { State.powerOn pins with sent := s.sent, pending := s.pending }

/-- WARM_RESET_INPUT_ASSERTED (R178). -/
def execWarmResetInputAsserted (s : State) : Host.Outcome State Fault Refusal :=
  .next (if s.warmHeld then s else { s.warmReset with warmHeld := true })

/-- WARM_RESET_INPUT_DEASSERTED (R178). -/
def execWarmResetInputDeasserted (s : State) : Host.Outcome State Fault Refusal :=
  .next (if s.warmHeld then State.raise { s with warmHeld := false } .warmResetDone else s)

/-! ### Notices (R182) -/

/-- SPACING_TIMER_EXPIRY (R182): the timer expires and a send is attempted. With a spacing of 0 the timer has expired at
its start, and the next head is sent by this command as its own event (notes/assumptions/14.md). -/
def execSpacingTimerExpiry (s : State) : Host.Outcome State Fault Refusal :=
  .next (State.attemptSend { s with spacing := none })

end Sys2Proof.Machine
end

