-- ==== Sys2Proof/Machine/Lifecycle.lean ====
section
/-!
DEFINITION. The slot commands at their owner (R8, R15 to R18) and the meanings of the slot's wires and timers, the rail
timers and the chassis interlock. A wire's command acts where it changes the level, an expiry where its timer runs
(notes/assumptions/2.md, notes/assumptions/3.md).
-/

namespace Sys2Proof.Machine

/-! ### Slot commands (R8, R15 to R18) -/

/-- The hold timer is stopped. -/
def Slot.stopHold (r : Slot) : Slot := { r with hold := none }

/-- RELEASE in a held state (R8). -/
def State.releaseHeld (s : State) (i : SlotId) : State :=
  if (s.slot i).state = .heldPower then (s.updSlot i Slot.stopHold).powerRequest i
  else if (s.slot i).state = .heldOnline then (s.updSlot i Slot.stopHold).enterOnline i
  else s

/-- RELEASE (R8). -/
def State.commandRelease (s : State) (i : SlotId) : State × Status :=
  if (s.slot i).state = .heldPower ∨ (s.slot i).state = .heldOnline then (s.releaseHeld i, .ok) else (s, .wrongState)

/-- The fault cause, the retry count and the retry timer are cleared (R15, R18). -/
def Slot.clearFault (r : Slot) : Slot := { r with faultCause := .none, retryCount := 0, retry := none }

/-- POWER_ON (R15). -/
def State.commandPowerOn (s : State) (i : SlotId) : State × Status :=
  match (s.slot i).state with
  | .present => (s.powerUpPath i, .ok)
  | .fault => ((s.updSlot i Slot.clearFault).powerUpPath i, .ok)
  | .draining => (s, .busy)
  | .empty => (s, .wrongState)
  | .debounce => (s, .wrongState)
  | .heldPower => (s, .wrongState)
  | .powerWait => (s, .wrongState)
  | .ramping => (s, .wrongState)
  | .resetHold => (s, .wrongState)
  | .announcing => (s, .wrongState)
  | .heldOnline => (s, .wrongState)
  | .online => (s, .wrongState)
  | .disabled => (s, .wrongState)

/-- POWER_OFF (R16). In POWER_WAIT the arbiter runs on the removed BOOT entry before the slot enters PRESENT (DESIGN
CHOICE, notes/assumptions/43.md). -/
def State.commandPowerOff (s : State) (i : SlotId) : State × Status :=
  match (s.slot i).state with
  | .ramping => (s.startDrain i .command .present .none, .ok)
  | .resetHold => (s.startDrain i .command .present .none, .ok)
  | .announcing => (s.startDrain i .command .present .none, .ok)
  | .heldOnline => (s.startDrain i .command .present .none, .ok)
  | .online => (s.startDrain i .command .present .none, .ok)
  | .heldPower => ((s.updSlot i Slot.stopHold).enter i .present, .ok)
  | .powerWait => ((s.withdraw i .boot).enter i .present, .ok)
  | .draining => (s, .busy)
  | .empty => (s, .wrongState)
  | .debounce => (s, .wrongState)
  | .present => (s, .wrongState)
  | .fault => (s, .wrongState)
  | .disabled => (s, .wrongState)

/-- The three actions of RESET (R17): the exit from ONLINE, the withdrawal of an UPGRADE entry (R87), and the RESET_PULSE
with entry to RESET_HOLD. Reports made in the same handling follow, and one event is raised (R3, R29), after all that
begins there (notes/assumptions/35.md). -/
def State.resetSlot (s : State) (i : SlotId) : State :=
  let t := (s.exitOnline i).withdraw i .upgrade
  let r := (t.rail i).resetPulse t.railEnv
  (((t.setRail i r.1).setSlotState i .resetHold).takeReports i r.2).raise (.stateChange i)

/-- RESET (R17). -/
def State.commandReset (s : State) (i : SlotId) : State × Status :=
  if (s.slot i).state = .online then (s.resetSlot i, .ok) else (s, .wrongState)

/-- CLEAR_FAULT (R18). -/
def State.commandClearFault (s : State) (i : SlotId) : State × Status :=
  if (s.slot i).state = .fault then ((s.updSlot i Slot.clearFault).enter i .present, .ok) else (s, .wrongState)

/-! ### Presence and the slot's timers -/

/-- The presence wire rises (R4): EMPTY goes to DEBOUNCE, its timer running before the event (notes/assumptions/35.md), and
in any other state only the level is kept. -/
def State.presenceRise (s : State) (i : SlotId) : State :=
  let t := s.updSlot i fun r => { r with presence := true }
  if (s.slot i).state = .empty then
    (t.updSlot i fun r => { r with debounce := s.timer s.chassis.debounce }).enter i .debounce
  else t

/-- The presence wire falls (R4, R24). -/
def State.presenceFall (s : State) (i : SlotId) : State :=
  let t := s.updSlot i fun r => { r with presence := false }
  if (s.slot i).state = .debounce then (t.updSlot i fun r => { r with debounce := none }).enterEmpty i
  else t.removeBlade i

/-- The debounce timer expires (R5, R61). -/
def State.debounced (s : State) (i : SlotId) : State :=
  let t := (s.updSlot i fun r => { r with debounce := none }).updInv i fun v => { v with generation := 0 }
  if (s.policy i).autoPower then t.powerUpPath i else t.enter i .present

/-- The hold timer expires: the hold default is taken (R7). -/
def State.holdExpired (s : State) (i : SlotId) : State :=
  match (s.policy i).holdDefault with
  | .proceed => s.releaseHeld i
  | .deny =>
    if (s.slot i).state = .heldPower then (s.updSlot i Slot.stopHold).enter i .present
    else if (s.slot i).state = .heldOnline then s.startDrain i .denied .present .none
    else s

/-- The retry timer expires (R26). -/
def State.retryExpired (s : State) (i : SlotId) : State :=
  (s.updSlot i fun r => { r with retry := none, retryCount := r.retryCount + 1 }).powerUpPath i

/-! ### Interlock (R39 to R41) -/

/-- The interlock is asserted: the level, the rail records, the slots in ascending order, the event (R39, R40, R23). -/
def State.interlockOn (s : State) : State :=
  let t : State := { s with interlock := true }
  let u : State := { t with rails := Tab.each (fun _ r => Rail.interlock t.railEnv r) t.rails }
  (allSlots.foldl State.emergency u).raise .interlockAsserted

/-- The interlock is released: the level, the arbiter, the event (R41). -/
def State.interlockOff (s : State) : State :=
  (State.arbiter { s with interlock := false }).raise .interlockReleased

/-! ### Meanings -/

/-- PRESENCE_ASSERTED (R4). -/
def execPresenceAsserted (i : SlotId) (s : State) : Host.Outcome State Fault Refusal :=
  .next (if (s.slot i).presence then s else s.presenceRise i)

/-- PRESENCE_DEASSERTED (R4, R24). -/
def execPresenceDeasserted (i : SlotId) (s : State) : Host.Outcome State Fault Refusal :=
  .next (if (s.slot i).presence then s.presenceFall i else s)

/-- DEBOUNCE_EXPIRY (R5). -/
def execDebounceExpiry (i : SlotId) (s : State) : Host.Outcome State Fault Refusal :=
  .next (if (s.slot i).debounce.isSome && (s.slot i).state = .debounce then s.debounced i else s)

/-- HOLD_TIMER_EXPIRY (R7). -/
def execHoldTimerExpiry (i : SlotId) (s : State) : Host.Outcome State Fault Refusal :=
  .next (if (s.slot i).hold.isSome then s.holdExpired i else s)

/-- RETRY_TIMER_EXPIRY (R26). -/
def execRetryTimerExpiry (i : SlotId) (s : State) : Host.Outcome State Fault Refusal :=
  .next (if (s.slot i).retry.isSome && (s.slot i).state = .fault then s.retryExpired i else s)

/-- DEAD_INTERVAL_EXPIRY (R28, R30, R35). -/
def execDeadIntervalExpiry (i : SlotId) (s : State) : Host.Outcome State Fault Refusal :=
  .next (s.railStep i ((s.rail i).deadExpiry s.railEnv))

/-- POWER_GOOD_ASSERTED (R31). -/
def execPowerGoodAsserted (i : SlotId) (s : State) : Host.Outcome State Fault Refusal :=
  .next (if (s.rail i).powerGood then s else s.railStep i ((s.rail i).powerGoodRise s.railEnv))

/-- POWER_GOOD_FALL (R34, R14). -/
def execPowerGoodFall (i : SlotId) (s : State) : Host.Outcome State Fault Refusal :=
  .next (if (s.rail i).powerGood then s.railStep i (s.rail i).powerGoodFall else s)

/-- POWER_GOOD_TIMER_EXPIRY (R31, R10). -/
def execPowerGoodTimerExpiry (i : SlotId) (s : State) : Host.Outcome State Fault Refusal :=
  .next (s.railStep i (s.rail i).powerGoodExpiry)

/-- RESET_HOLD_EXPIRY (R32, R33, R11). -/
def execResetHoldExpiry (i : SlotId) (s : State) : Host.Outcome State Fault Refusal :=
  .next (s.railStep i (s.rail i).resetExpiry)

/-- DISCHARGE_TIMER_EXPIRY (R35, R21). -/
def execDischargeTimerExpiry (i : SlotId) (s : State) : Host.Outcome State Fault Refusal :=
  .next (s.railStep i ((s.rail i).dischargeExpiry s.railEnv))

/-- INTERLOCK_ASSERTED (R39). -/
def execInterlockAsserted (s : State) : Host.Outcome State Fault Refusal :=
  .next (if s.interlock then s else s.interlockOn)

/-- INTERLOCK_RELEASED (R41). -/
def execInterlockReleased (s : State) : Host.Outcome State Fault Refusal :=
  .next (if s.interlock then s.interlockOff else s)

end Sys2Proof.Machine
end

