-- ==== Sys2Proof/Machine/Fans.lean ====
section
/-!
DEFINITION. The Fan Control Unit (chapter 6): reports and checks, the zone command, drives and the PWM load, the tach and
the presence line; and the meanings of CONTROL_INTERVAL, PWM_PERIOD_START, TACH_EDGE, OVERFLOW_TIMER_EXPIRY,
FAN_PRESENCE_DEASSERTED and FAN_PRESENCE_ASSERTED.
-/

namespace Sys2Proof.Machine

/-! ### Step 1: reports and checks (R122 to R124) -/

/-- The rpm is reported from the latest period (R122). -/
def Fan.report (f : Fan) : Fan := { f with rpm := rpmOf f.period f.pulses }

/-- A fan that is passed over has both counts set to 0 (R123). -/
def Fan.passOver (f : Fan) : Fan := { f with low := 0, high := 0 }

/-- A checked fan in fault state OK (R123). -/
def Fan.checkOk (f : Fan) : Fan :=
  if f.rpm < f.faultFloor then
    if f.low + 1 < 3 then { f with low := f.low + 1 } else { f with faulted := true, low := 0, high := 0 }
  else { f with low := 0 }

/-- A checked fan in fault state FAULTED (R124). -/
def Fan.checkFaulted (f : Fan) : Fan :=
  if f.faultFloor ≤ f.rpm then
    if f.high + 1 < 3 then { f with high := f.high + 1 } else { f with faulted := false, low := 0, high := 0 }
  else { f with high := 0 }

/-- The fault check is made or passed over (R123, R124). -/
def Fan.check (f : Fan) : Fan :=
  if 0 < f.grace then { f with grace := f.grace - 1 }.passOver
  else if f.drive = 0 || f.drive < f.minDrive then f.passOver
  else if f.faulted then f.checkFaulted
  else f.checkOk

/-- Step 1 of the control interval for one fan, with the event of a change of its fault state; an absent fan is skipped
(R113). -/
def State.reportFan (s : State) (f : FanId) : State :=
  if (s.fan f).present then
    let t := s.updFan f fun r => r.report.check
    if (t.fan f).faulted = (s.fan f).faulted then t
    else if (t.fan f).faulted then t.raise (.fanFaultSet f)
    else t.raise (.fanFaultClear f)
  else s

/-! ### Step 2: the zone command (R114 to R116) -/

/-- The zone is forced (R114). -/
def State.zoneForced (s : State) (z : ZoneId) : Bool :=
  s.interlock || (zoneFans z).any fun f => !(s.fan f).present || (s.fan f).faulted

/-- The zone target from the sixteen slot demands (R115). -/
def State.zoneTarget (s : State) (demands : Vector Nat 16) (z : ZoneId) : Nat :=
  (allSlots.map fun i => contribution (Tab.get demands i) (Tab.get (s.policy i).weights z)).foldl max
    (s.zone z).minDemand

/-- The slewed value of an unforced zone (R116). -/
def Zone.slewed (z : Zone) (target : Nat) : Nat :=
  if z.command < target then min target (z.command + z.slewUp)
  else if target < z.command then max target (z.command - z.slewDown)
  else z.command

/-- Step 2 of the control interval for one zone. -/
def State.commandZone (s : State) (demands : Vector Nat 16) (z : ZoneId) : State :=
  s.updZone z fun r =>
    { r with
      forced := s.zoneForced z
      target := s.zoneTarget demands z
      command := if s.zoneForced z then 1000 else max r.minDemand (r.slewed (s.zoneTarget demands z)) }

/-! ### Step 3: drives (R117 to R119) -/

/-- The base drive of a present fan from the zone command (R117). -/
def baseDrive (command : Nat) (stopAllowed : Bool) (minDrive : Nat) : Nat :=
  if command = 0 then if stopAllowed then 0 else minDrive else max command minDrive

/-- A compare value is loaded into the PWM output (R119). -/
def Fan.load (f : Fan) (compare : Nat) : Fan :=
  if f.effective = 0 then { f with effective := compare, pending := none } else { f with pending := some compare }

/-- A drive of 0 ends a kick and a grace, and the tach becomes IDLE (R118, R120). -/
def Fan.stopDrive (f : Fan) : Fan :=
  { f with drive := 0, kick := 0, grace := 0, tach := .idle, overflow := false, period := .none }

/-- A start from drive 0: kick, grace, and the tach is armed (R118, R120). -/
def Fan.start (f : Fan) : Fan :=
  if f.drive = 0 then { f with kick := 2, grace := 4, tach := .armed, overflow := true } else f

/-- The drive applied where the base drive is above 0 (R118). -/
def Fan.applyDrive (base : Nat) (f : Fan) : Fan :=
  if 0 < f.kick then { f with drive := 1000, kick := f.kick - 1 } else { f with drive := base }

/-- Step 3 of the control interval for one present fan. -/
def Fan.driveStep (base : Nat) (f : Fan) : Fan :=
  let g := if base = 0 then f.stopDrive else f.start.applyDrive base
  g.load (compareOf g.drive)

/-- Step 3 for one fan of a zone; an absent fan is skipped (R113). -/
def State.driveFan (s : State) (f : FanId) : State :=
  if (s.fan f).present then
    s.updFan f fun r =>
      r.driveStep (baseDrive (s.zone (fanZone f)).command (s.zone (fanZone f)).stopAllowed r.minDrive)
  else s

/-! ### The control interval (R113) -/

/-- The three steps for one zone. In steps 1 and 3 F(2z) comes before F(2z+1), of which R113 says nothing
(DESIGN CHOICE, notes/assumptions/36.md). -/
def State.intervalZone (demands : Vector Nat 16) (s : State) (z : ZoneId) : State :=
  let t := (zoneFans z).foldl State.reportFan s
  let u := t.commandZone demands z
  (zoneFans z).foldl State.driveFan u

/-- The sixteen slot demands, taken at the start of the interval. -/
def State.demands (s : State) : Vector Nat 16 := Tab.make s.slotDemand

/-! ### Tach (R120, R121) -/

/-- A rising edge, with the whole microseconds since the reference edge (R120). -/
def Fan.edge (us : Nat) (f : Fan) : Fan :=
  match f.tach with
  | .idle => f
  | .armed => { f with tach := .measuring, overflow := true }
  | .measuring => { f with period := .measured us, overflow := true }

/-- The overflow timer expires, if it runs (R121). -/
def Fan.overflowed (f : Fan) : Fan :=
  if f.overflow then { f with period := .overflow, tach := .armed } else f

/-- The start of a PWM period (R119). -/
def Fan.newPeriod (f : Fan) : Fan :=
  match f.pending with
  | none => f
  | some c => { f with effective := c, pending := none }

/-! ### Presence (R125, R126) -/

/-- Actions 1 to 3 of an absence (R125). -/
def Fan.remove (f : Fan) : Fan :=
  { { f with present := false }.stopDrive.load 0 with low := 0, high := 0, faulted := false, rpm := 0 }

/-- A fan becomes present, stopped (R126). -/
def Fan.insert (f : Fan) : Fan :=
  { f.stopDrive with present := true, effective := 0, pending := none, low := 0, high := 0, faulted := false, rpm := 0 }

/-- The presence change is handed to the Power Budget Unit, and then raised (R125, R126); t is the state with the fan's
record changed. -/
def State.fanPresenceChanged (s t : State) (f : FanId) : State :=
  (t.recapacity s.cAvail).raise (.fanPresenceChange f)

/-! ### Meanings -/

/-- CONTROL_INTERVAL (R113). -/
def execControlInterval (s : State) : Host.Outcome State Fault Refusal :=
  .next ((List.finRange 3).foldl (State.intervalZone s.demands) s)

/-- PWM_PERIOD_START (R119). -/
def execPwmPeriodStart (f : FanId) (s : State) : Host.Outcome State Fault Refusal :=
  .next (s.updFan f Fan.newPeriod)

/-- TACH_EDGE (R120): the count c stands for c + 1 microseconds. -/
def execTachEdge (f : FanId) (count : Fin 65535) (s : State) : Host.Outcome State Fault Refusal :=
  .next (s.updFan f (Fan.edge (count.val + 1)))

/-- OVERFLOW_TIMER_EXPIRY (R121). -/
def execOverflowTimerExpiry (f : FanId) (s : State) : Host.Outcome State Fault Refusal :=
  .next (s.updFan f Fan.overflowed)

/-- FAN_PRESENCE_DEASSERTED (R125). -/
def execFanPresenceDeasserted (f : FanId) (s : State) : Host.Outcome State Fault Refusal :=
  .next (if (s.fan f).present then s.fanPresenceChanged (s.updFan f Fan.remove) f else s)

/-- FAN_PRESENCE_ASSERTED (R126). -/
def execFanPresenceAsserted (f : FanId) (s : State) : Host.Outcome State Fault Refusal :=
  .next (if (s.fan f).present then s else s.fanPresenceChanged (s.updFan f Fan.insert) f)

end Sys2Proof.Machine
end

