-- ==== Sys2Proof/Machine/Writes.lean ====
section
/-!
DEFINITION. What a write does at the owner of the record, item by item (R174), and the meanings of the rows that write one
field. A row's operand stands for the value as it was written: a number outside its range is clamped, and a value outside
an enumerated set writes nothing (R173; notes/assumptions/30.md).
-/

namespace Sys2Proof.Machine

/-! ### Power (R71, R74, R78, R84, R112) -/

/-- A PSU's capacity (R71). -/
def State.setCapacity (s : State) (p : PsuId) (watts : Nat) : State :=
  (s.updPsu p fun r => { r with capacity := watts }).recapacity s.cAvail

/-- The redundancy mode and the overhead, handed over together (R74, R176). -/
def State.setRedundancy (s : State) (mode : RedundancyMode) (overhead : Nat) : State :=
  State.recapacity { s with chassis := { s.chassis with mode := mode, overhead := overhead } } s.cAvail

/-- The Power Budget Unit acts on a SLOT_POLICY write that is in place, old being the policy before it: a change of priority
moves the slot's entry (R84), and a change of any of the three fields runs the arbiter (R78, R82). -/
def State.actOnPower (s : State) (i : SlotId) (old : SlotPolicy) : State :=
  let t := if (s.policy i).priority = old.priority then s else s.movePriority i
  if (s.policy i).priority = old.priority ∧ (s.policy i).bootAllowance = old.bootAllowance ∧
      (s.policy i).capFloor = old.capFloor then t
  else t.arbiter

/-- The Slot Controller acts on a change of admin_enable that is in place (R25). -/
def State.actOnAdmin (s : State) (i : SlotId) (old : SlotPolicy) : State :=
  if (s.policy i).adminEnable = old.adminEnable then s
  else if (s.policy i).adminEnable then s.applyEnable i
  else s.applyDisable i

/-- A whole SLOT_POLICY item (R174): admin_enable first, then the power fields. -/
def State.setPolicy (s : State) (i : SlotId) (p : SlotPolicy) : State :=
  (State.actOnAdmin (s.updPolicy i fun _ => p) i (s.policy i)).actOnPower i (s.policy i)

/-- A whole FAN item (R112): a write of full power is handed to the Power Budget Unit. -/
def State.setFan (s : State) (f : FanId) (minDrive pulses faultFloor fullPower : Nat) : State :=
  (s.updFan f fun r =>
    { r with minDrive := minDrive, pulses := pulses, faultFloor := faultFloor, fullPower := fullPower }).recapacity
      s.cAvail

/-! ### Zones (R110) -/

/-- A min demand, which raises a command that stands below it (R110). -/
def Zone.withMinDemand (perMille : Nat) (z : Zone) : Zone :=
  { z with minDemand := perMille, command := max z.command perMille }

/-- The four settings of a zone (R110). -/
def Zone.withSettings (minDemand slewUp slewDown : Nat) (stopAllowed : Bool) (z : Zone) : Zone :=
  { z.withMinDemand minDemand with slewUp := slewUp, slewDown := slewDown, stopAllowed := stopAllowed }

/-! ### The role of port 15 (R131, R132) -/

/-- Port 15 takes the STACK role where slot 15 already stands in DISABLED (R131). -/
def State.stackIfDisabled (s : State) : State :=
  if (s.slot slot15).state = .disabled then s.stackIfDue slot15 else s

/-- The role setting is written STACK, having been SLOT (R131). -/
def State.setRoleStack (s : State) : State :=
  (State.applyDisable { s with chassis := { s.chassis with roleSetting := .stack } } slot15).stackIfDisabled

/-- The role setting is written SLOT, having been STACK (R132). -/
def State.setRoleSlot (s : State) : State :=
  let t : State := { s with chassis := { s.chassis with roleSetting := .slot } }
  if s.portRole = .stack then t.takeSlotRole.applyEnable slot15 else t

/-- The role setting is written; its own value changes nothing (R132). -/
def State.setRole (s : State) (r : PortRole) : State :=
  if s.chassis.roleSetting = r then s
  else match r with
    | .stack => s.setRoleStack
    | .slot => s.setRoleSlot

/-! ### CHASSIS (R176) -/

/-- A whole CHASSIS item: its fields reach their units in the order of their offsets, the redundancy mode and the overhead
together (R176; notes/assumptions/20.md). -/
def State.setChassis (s : State) (c : Chassis) : State :=
  let t := (s.setRedundancy c.mode c.overhead).setStaleLimit c.staleLimit
  let t : State := { t with chassis := { t.chassis with staleDemand := c.staleDemand, bootDemand := c.bootDemand } }
  let t := t.setRole c.roleSetting
  { t with
    chassis :=
      { t.chassis with
        etherType := c.etherType, firstTimeout := c.firstTimeout, gapTimeout := c.gapTimeout,
        wholeTimeout := c.wholeTimeout, queryWait := c.queryWait, holdDown := c.holdDown,
        deadInterval := c.deadInterval, dischargeTime := c.dischargeTime, resetHold := c.resetHold,
        powerGoodTimeout := c.powerGoodTimeout, debounce := c.debounce, settleTime := c.settleTime,
        criticalGrace := c.criticalGrace } }

/-! ### Uplinks and notices (R149 to R151, R162, R163, R183) -/

/-- The rate codes of a slot (R162). -/
def State.setRates (s : State) (i : SlotId) (rate capRate : RateCode) : State :=
  (s.updMap i fun m => { m with rate := rate, capRate := capRate }).refreshRate i

/-- The bucket depth of a slot, in KiB (R163). -/
def State.setDepth (s : State) (i : SlotId) (kib : Nat) : State :=
  (s.updMap i fun m => { m with depth := kib }).updMeter i (Meter.limit (1024 * kib))

/-- A whole UPLINK_MAP item (R151). -/
def State.setMap (s : State) (i : SlotId) (m : UplinkMap) : State :=
  ((s.updMap i fun r => { r with group := m.group, tag := m.tag }).setRates i m.rate m.capRate).setDepth i m.depth

/-- A group's member list, its active list recomputed at the write (R149, R150). -/
def State.setMembers (s : State) (g : GroupId) (members : List UplinkId) : State :=
  (s.updGroup g fun r => { r with members := members }).recomputeGroup g (s.group g).members

/-- A whole GROUPS item (R149). -/
def State.setGroup (s : State) (g : GroupId) (mode : GroupMode) (members : List UplinkId) : State :=
  (s.updGroup g fun r => { r with mode := mode }).setMembers g members

/-- The notice configuration (R183): enable 0 empties the queue, and the write ends with a send attempt. -/
def State.setNoticeCfg (s : State) (c : NoticeCfg) : State :=
  State.attemptSend { s with noticeCfg := c, notices := if c.enable then s.notices else [] }

/-! ### One item (R174) -/

/-- Applies one item to the record of its index. -/
def State.applyItem (s : State) (k : Nat) (x : Item) : State :=
  match x with
  | .classify e => s.updClassEntry (Fin.ofNat 64 k) fun _ => e
  | .uplinkMap m => s.setMap (Fin.ofNat 16 k) m
  | .group mode members => s.setGroup (Fin.ofNat 4 k) mode members
  | .slotPolicy p => s.setPolicy (Fin.ofNat 16 k) p
  | .psu c => s.setCapacity (Fin.ofNat 6 k) c
  | .fan a b c d => s.setFan (Fin.ofNat 6 k) a b c d
  | .zone a b c d => s.updZone (Fin.ofNat 3 k) (Zone.withSettings a b c d)
  | .chassis c => s.setChassis c
  | .identity r => s.updIdentity (Fin.ofNat 4 k) fun _ => r
  | .noticeCfg c => s.setNoticeCfg c

/-! ### Meanings -/

/-- ADMIN_ENABLE_WRITE (R25). -/
def execAdminEnableWrite (i : SlotId) (value : Bool) (s : State) : Host.Outcome State Fault Refusal :=
  .next (State.actOnAdmin (s.updPolicy i fun p => { p with adminEnable := value }) i (s.policy i))

/-- ROLE_SETTING_STACK_WRITE (R131). -/
def execRoleSettingStackWrite (s : State) : Host.Outcome State Fault Refusal := .next (s.setRole .stack)

/-- ROLE_SETTING_SLOT_WRITE (R132). -/
def execRoleSettingSlotWrite (s : State) : Host.Outcome State Fault Refusal := .next (s.setRole .slot)

/-- POWER_POLICY_WRITE (R78, R84). -/
def execPowerPolicyWrite (i : SlotId) (priority boot floor : Nat) (s : State) : Host.Outcome State Fault Refusal :=
  .next (State.actOnPower
    (s.updPolicy i fun p =>
      { p with
        priority := clamp 0 7 priority, bootAllowance := clamp 1 1000 boot,
        capFloor := capFloorTied (clamp 1 1000 boot) floor })
    i (s.policy i))

/-- PSU_CAPACITY_WRITE (R71). -/
def execPsuCapacityWrite (p : PsuId) (watts : Nat) (s : State) : Host.Outcome State Fault Refusal :=
  .next (s.setCapacity p (clamp 0 4000 watts))

/-- REDUNDANCY_MODE_WRITE (R74, R176). -/
def execRedundancyModeWrite (mode : RedundancyMode) (overhead : Nat) (s : State) : Host.Outcome State Fault Refusal :=
  .next (s.setRedundancy mode (clamp 0 2000 overhead))

/-- FAN_FULL_POWER_WRITE (R112). -/
def execFanFullPowerWrite (f : FanId) (watts : Nat) (s : State) : Host.Outcome State Fault Refusal :=
  .next ((s.updFan f fun r => { r with fullPower := clamp 0 200 watts }).recapacity s.cAvail)

/-- MIN_DEMAND_WRITE (R110). -/
def execMinDemandWrite (z : ZoneId) (perMille : Nat) (s : State) : Host.Outcome State Fault Refusal :=
  .next (s.updZone z (Zone.withMinDemand (clamp 0 1000 perMille)))

/-- STALE_LIMIT_WRITE (R101). -/
def execStaleLimitWrite (ms : Nat) (s : State) : Host.Outcome State Fault Refusal :=
  .next (s.setStaleLimit (clamp 500 60000 ms))

/-- RATE_CODE_WRITE (R162). -/
def execRateCodeWrite (i : SlotId) (rate capRate : RateCode) (s : State) : Host.Outcome State Fault Refusal :=
  .next (s.setRates i rate capRate)

/-- BUCKET_DEPTH_WRITE (R163). -/
def execBucketDepthWrite (i : SlotId) (kib : Nat) (s : State) : Host.Outcome State Fault Refusal :=
  .next (s.setDepth i (clamp 1 256 kib))

/-- MEMBER_LIST_WRITE (R149, R150): a list of more than 4 members fails, a repeated mention is dropped (R149, R173). -/
def execMemberListWrite (g : GroupId) (members : List UplinkId) (s : State) : Host.Outcome State Fault Refusal :=
  .next (if members.length ≤ 4 then s.setMembers g (firstMentions [] members) else s)

/-- CLASSIFY_ENTRY_WRITE (R140, R145). -/
def execClassifyEntryWrite (k : Fin 64) (e : ClassEntry) (s : State) : Host.Outcome State Fault Refusal :=
  .next (s.updClassEntry k fun _ => e)

/-- SERVICE_ETHERTYPE_WRITE (R133, R176): a value outside the set writes nothing. -/
def execServiceEthertypeWrite (v : BitVec 16) (s : State) : Host.Outcome State Fault Refusal :=
  .next (if etherTypeAllowed v then { s with chassis := { s.chassis with etherType := v } } else s)

/-- NOTICE_CFG_WRITE (R180, R183). -/
def execNoticeCfgWrite (c : NoticeCfg) (s : State) : Host.Outcome State Fault Refusal :=
  .next (s.setNoticeCfg { c with spacing := clamp 0 1000 c.spacing })

end Sys2Proof.Machine
end

