-- ==== Sys2Proof/Machine/Service.lean ====
section
/-!
DEFINITION. The Service Unit (chapter 9): its input queue, the checks of R171, RESPONSE frames, and the meanings of
REQUEST, READ, WRITE, WRITE_ITEM, the six slot commands' rows and CONTROLLER_RESET.
-/

namespace Sys2Proof.Machine

/-! ### Requests in their fields (R179) -/

/-- Operations (R179). -/
inductive Operation where
  | read
  | write
  | command
  deriving DecidableEq, Repr

/-- The seven commands, in the order of their codes (R179). -/
inductive CommandCode where
  | powerOn
  | powerOff
  | release
  | reset
  | refresh
  | clearFault
  | controllerReset
  deriving DecidableEq, Repr

/-- The operation of a payload: its first byte. -/
def operationOf (payload : List Byte) : Option Operation :=
  match payload with
  | [] => none
  | b :: _ => if b = 1#8 then some .read else if b = 2#8 then some .write else if b = 3#8 then some .command else none

/-- The command of a code. -/
def commandOf (code : Nat) : Option CommandCode :=
  [CommandCode.powerOn, .powerOff, .release, .reset, .refresh, .clearFault, .controllerReset][code]?

/-- What row of the table executes a request at the head of the queue. A request that no row names, because its operation
or its command code is missing or unknown, is answered when it becomes the head (notes/assumptions/7.md). -/
inductive RequestRow where
  | read
  | write
  | command (c : CommandCode)
  | unknown
  deriving DecidableEq, Repr

/-- The row of a payload. -/
def requestRow (payload : List Byte) : RequestRow :=
  match operationOf payload with
  | none => .unknown
  | some .read => .read
  | some .write => .write
  | some .command =>
    if 2 ≤ payload.length then
      match commandOf (nat8At payload 1) with
      | none => .unknown
      | some c => .command c
    else .unknown

/-! ### The checks of R171 -/

/-- The authority test of R167 for a request of an operation. -/
def State.authorised (s : State) (r : Request) (op : Operation) : Bool :=
  (s.identity r.identity).enabled && (s.identity r.identity).addr = r.sentTo
    && (s.identity r.identity).ports.getLsbD r.port.val
    && (op = .read || (s.identity r.identity).access = .control)

/-- Test 5 of R171 for a READ or a WRITE: the status of the first test that fails. -/
def checkRun (op : Operation) (payload : List Byte) : Option Status :=
  match spaceOf (nat8At payload 1) with
  | none => some .badSpace
  | some sp =>
    if op = .write ∧ sp.writeSize = none then some .readOnly
    else if ¬ nat8At payload 2 < sp.size then some .badIndex
    else if ¬ (1 ≤ nat8At payload 3 ∧ nat8At payload 3 ≤ sp.maxCount) then some .badLength
    else if op = .write ∧ payload.length - 4 ≠ nat8At payload 3 * sp.writeSize.getD 0 then some .badLength
    else none

/-- Test 6 of R171 for a COMMAND. -/
def checkCommand (payload : List Byte) : Option Status :=
  match commandOf (nat8At payload 1) with
  | none => some .badValue
  | some c =>
    if nat16At payload 3 ≠ 0 then some .badValue
    else if c ≠ .controllerReset ∧ ¬ nat8At payload 2 < 16 then some .badIndex
    else none

/-- The fixed bytes of an operation (R171, test 3). -/
def Operation.fixedBytes : Operation → Nat
  | .read => 4
  | .write => 4
  | .command => 5

/-- The status of the first check of R171 that fails, none where the request passes. -/
def State.checkRequest (s : State) (r : Request) : Option Status :=
  if r.payload = [] then some .badLength
  else
    match operationOf r.payload with
    | none => some .badValue
    | some op =>
      if r.payload.length < op.fixedBytes then some .badLength
      else if !s.authorised r op then some .denied
      else
        match op with
        | .command => checkCommand r.payload
        | .read => checkRun op r.payload
        | .write => checkRun op r.payload

/-! ### RESPONSE (R170, R171, R179) -/

/-- Space, index and count as a RESPONSE echoes them: those the payload holds, and zero for the rest (R171). -/
def runFields (payload : List Byte) : List Byte := padTo 3 ((payload.drop 1).take 3)

/-- Code, slot and argument as a RESPONSE echoes them (R171). The argument is two bytes, held or not held together
(notes/assumptions/39.md). -/
def commandFields (payload : List Byte) : List Byte :=
  padTo 2 ((payload.drop 1).take 2) ++ (if 5 ≤ payload.length then (payload.drop 3).take 2 else [0#8, 0#8])

/-- The fields a RESPONSE echoes after its status (R171). For an operation that is missing or unknown, which layout it
has and whether bytes after it are fields are free values; what a payload does not hold is zero under either
(notes/assumptions/16.md). -/
def echoFields (payload : List Byte) : List Byte :=
  match operationOf payload with
  | none =>
    let held := if Config.unknownOperationHeld payload then payload else payload.take 1
    if Config.unknownOperationAsCommand payload then commandFields held else runFields held
  | some .read => runFields payload
  | some .write => runFields payload
  | some .command => commandFields payload

/-- The payload of a RESPONSE (R179). -/
def responsePayload (payload : List Byte) (status : Status) (images : List Byte) : List Byte :=
  [byteAt payload 0, byte1 status.code] ++ echoFields payload ++ images

/-- Hands the RESPONSE to a request to its ingress port (R170). -/
def State.respond (s : State) (r : Request) (status : Status) (images : List Byte) : State :=
  s.transmit r.port .response
    (s.serviceFrame r.source kindResponse r.sequence (responsePayload r.payload status images))

/-- The requests at the head that no row names are answered, as many as the queue holds (notes/assumptions/7.md). -/
def beginLoop : Nat → State → State
  | 0, s => s
  | n + 1, s =>
    match s.requests with
    | [] => s
    | r :: rest =>
      if requestRow r.payload = .unknown then
        beginLoop n { s.respond r ((s.checkRequest r).getD .badValue) [] with requests := rest }
      else s

/-- The next request begins (R170). -/
def State.begin (s : State) : State := beginLoop s.requests.length s

/-- The head's execution is complete: RESPONSE, removal, and the next request begins (R170). -/
def State.complete (s : State) (r : Request) (status : Status) (images : List Byte) : State :=
  State.begin { s.respond r status images with requests := s.requests.tail, writeJob := none }

/-! ### The input queue (R169, R178) -/

/-- A REQUEST handed over by the gate (R169): discarded where the queue is full or the warm-reset input is held. -/
def State.takeRequest (s : State) (port : PortId) (k : IdentityId) (f : ServiceFrame) : State :=
  if s.warmHeld then s
  else if s.requests.length < Config.serviceQueuePlaces then
    let t : State := { s with requests := s.requests ++ [⟨port, f.src, k, f.dst, f.sequence, f.payload⟩] }
    if s.requests = [] then t.begin else t
  else s

/-- A REQUEST to an address on a port (R136, R138): handed over where the address is an identity's whose port set includes
the port, and dropped otherwise. -/
def State.admitRequest (s : State) (port : PortId) (f : ServiceFrame) : State :=
  match s.identityOf f.dst with
  | none => s
  | some k => if (s.identity k).ports.getLsbD port.val then s.takeRequest port k f else s

/-! ### READ (R172) -/

/-- The indexes of a run (section 9.4): after the last index of the space it continues from 0. -/
def runIndexes (size start count : Nat) : List Nat := (List.range count).map fun j => (start + j) % size

/-- The read images of a run. -/
def State.runImages (s : State) (sp : Space) (start count : Nat) : List Byte :=
  (runIndexes sp.size start count).flatMap (s.readImage sp)

/-- A READ that passes R171 (R172). -/
def State.executeRead (s : State) (r : Request) : State :=
  match s.checkRequest r with
  | some status => s.complete r status []
  | none =>
    match spaceOf (nat8At r.payload 1) with
    | none => s.complete r .badSpace []
    | some sp => s.complete r .ok (s.runImages sp (nat8At r.payload 2) (nat8At r.payload 3))

/-! ### WRITE (R168, R173, R174) -/

/-- Reads the items of a WRITE, each with its index and whether it stands as written; none where an enumerated field
fails (R173). -/
def readItems (sp : Space) (bytes : Nat) : List Nat → List Byte → Option (List (Nat × Item × Bool))
  | [], _ => some []
  | k :: ks, l =>
    match readItem sp (l.take bytes) with
    | none => none
    | some x => (readItems sp bytes ks (l.drop bytes)).map fun xs => (k, x, x.asWritten (l.take bytes)) :: xs

/-- The identity records with the IDENTITY items of a WRITE applied. -/
def identitiesAfter (items : List (Nat × Item × Bool)) (t : Vector Identity 4) : Vector Identity 4 :=
  items.foldl
    (fun t x =>
      match x.2.1 with
      | .identity r => Tab.put t (Fin.ofNat 4 x.1) r
      | .classify _ => t
      | .uplinkMap _ => t
      | .group _ _ => t
      | .slotPolicy _ => t
      | .psu _ => t
      | .fan _ _ _ _ => t
      | .zone _ _ _ _ => t
      | .chassis _ => t
      | .noticeCfg _ => t) t

/-- An identity through which the chassis manager can write (R168). -/
def Identity.canWrite (r : Identity) : Bool := r.enabled && r.access = .control && r.ports ≠ 0#20

/-- The cross-item test of R168; it bears on the IDENTITY space alone. -/
def State.keepsManager (s : State) (sp : Space) (items : List (Nat × Item × Bool)) : Bool :=
  sp ≠ .identity || (List.finRange 4).any fun k => (Tab.get (identitiesAfter items s.identities) k).canWrite

/-- The status R173 finds for a WRITE that proceeds. -/
def writeStatus (items : List (Nat × Item × Bool)) : Status :=
  if items.all fun x => x.2.2 then .ok else .okClamped

/-- The check of the items of a WRITE as a whole (R173): none is BAD_VALUE. -/
def State.checkItems (s : State) (r : Request) (sp : Space) : Option WriteJob :=
  match readItems sp (sp.writeSize.getD 0) (runIndexes sp.size (nat8At r.payload 2) (nat8At r.payload 3))
      (r.payload.drop 4) with
  | none => none
  | some items =>
    if s.keepsManager sp items then
      some ⟨items.map fun x => (x.1, x.2.1), writeStatus items⟩
    else none

/-- A WRITE is checked (R171, R173); one that passes goes on item by item (R174). -/
def State.executeWrite (s : State) (r : Request) : State :=
  match s.checkRequest r with
  | some status => s.complete r status []
  | none =>
    match spaceOf (nat8At r.payload 1) with
    | none => s.complete r .badSpace []
    | some sp =>
      match s.checkItems r sp with
      | none => s.complete r .badValue []
      | some job => { s with writeJob := some job }

/-- The next item of the WRITE in application is applied; after the last, the RESPONSE is sent (R174). -/
def State.executeItem (s : State) (r : Request) (job : WriteJob) : State :=
  match job.items with
  | [] => s.complete r job.status []
  | (k, x) :: rest =>
    let t := s.applyItem k x
    if rest = [] then t.complete r job.status [] else { t with writeJob := some { job with items := rest } }

/-! ### COMMAND (R175) -/

/-- REFRESH at its owner (R65). -/
def State.commandRefresh (s : State) (i : SlotId) : State × Status :=
  if (s.slot i).state = .online then
    match (s.context i).mode with
    | .closed => (s.startRefresh i, .ok)
    | .refresh => (s, .busy)
    | .window => (s, .wrongState)
  else (s, .wrongState)

/-- A slot command for the slot of the request, by its owner's rule (R175). -/
def State.executeSlot (s : State) (r : Request) (act : State → SlotId → State × Status) : State :=
  match s.checkRequest r with
  | some status => s.complete r status []
  | none =>
    let q := act s (Fin.ofNat 16 (nat8At r.payload 2))
    q.1.complete r q.2 []

/-- CONTROLLER_RESET (R175, R177): the RESPONSE, the actions of the warm reset, and its event. -/
def State.executeReset (s : State) (r : Request) : State :=
  match s.checkRequest r with
  | some status => s.complete r status []
  | none => ((s.respond r .ok []).warmReset).raise .warmResetDone

/-! ### The head of the queue -/

/-- The request at the head, where it is of a row and no WRITE is in application: the rows act on nothing else. -/
def State.headFor (s : State) (row : RequestRow) : Option Request :=
  match s.requests with
  | [] => none
  | r :: _ => if s.writeJob = none ∧ requestRow r.payload = row then some r else none

/-- Acts on the head of a row, if it is one of that row (notes/assumptions/2.md). -/
def State.onHead (s : State) (row : RequestRow) (act : State → Request → State) : State :=
  match s.headFor row with
  | none => s
  | some r => act s r

/-! ### Meanings -/

/-- REQUEST (R136, R138, R169): a REQUEST frame on a port, whose link is not asked (notes/assumptions/37.md). -/
def execRequest (port : PortId) (f : ServiceFrame) (s : State) : Host.Outcome State Fault Refusal :=
  .next (s.admitRequest port f)

/-- READ (R172). -/
def execRead (s : State) : Host.Outcome State Fault Refusal := .next (s.onHead .read State.executeRead)

/-- WRITE (R173). -/
def execWrite (s : State) : Host.Outcome State Fault Refusal := .next (s.onHead .write State.executeWrite)

/-- WRITE_ITEM (R174). -/
def execWriteItem (s : State) : Host.Outcome State Fault Refusal :=
  .next (match s.writeJob, s.requests with
    | some job, r :: _ => s.executeItem r job
    | some _, [] => s
    | none, _ => s)

/-- POWER_ON (R15). -/
def execPowerOn (s : State) : Host.Outcome State Fault Refusal :=
  .next (s.onHead (.command .powerOn) fun s r => s.executeSlot r State.commandPowerOn)

/-- POWER_OFF (R16). -/
def execPowerOff (s : State) : Host.Outcome State Fault Refusal :=
  .next (s.onHead (.command .powerOff) fun s r => s.executeSlot r State.commandPowerOff)

/-- RELEASE (R8). -/
def execRelease (s : State) : Host.Outcome State Fault Refusal :=
  .next (s.onHead (.command .release) fun s r => s.executeSlot r State.commandRelease)

/-- RESET (R17). -/
def execReset (s : State) : Host.Outcome State Fault Refusal :=
  .next (s.onHead (.command .reset) fun s r => s.executeSlot r State.commandReset)

/-- REFRESH (R65). -/
def execRefresh (s : State) : Host.Outcome State Fault Refusal :=
  .next (s.onHead (.command .refresh) fun s r => s.executeSlot r State.commandRefresh)

/-- CLEAR_FAULT (R18). -/
def execClearFault (s : State) : Host.Outcome State Fault Refusal :=
  .next (s.onHead (.command .clearFault) fun s r => s.executeSlot r State.commandClearFault)

/-- CONTROLLER_RESET (R177). -/
def execControllerReset (s : State) : Host.Outcome State Fault Refusal :=
  .next (s.onHead (.command .controllerReset) State.executeReset)

end Sys2Proof.Machine
end

