-- ==== Sys2Proof/Machine/Gate.lean ====
section
/-!
DEFINITION. The frame path: the Ingress Gate and the Classification Table (chapter 7), policing, steering and delivery
(chapter 8); and the meanings of TELEMETRY, SLOT_PORT_FRAME and UPLINK_PORT_FRAME.
-/

namespace Sys2Proof.Machine

/-! ### Service frames for the part (R133, R134) -/

/-- The frame has the service EtherType in force. -/
def State.serviceType (s : State) (f : Received) : Bool := f.etherType = s.chassis.etherType

/-- The frame is of an announcement kind. -/
def Received.announces (f : Received) : Bool := f.kind = some kindAnnounce || f.kind = some kindWaitExtend

/-- The frame is a service frame for the part (R133). -/
def State.forPart (s : State) (f : Received) : Bool :=
  f.tag.isNone && s.serviceType f && ((s.identityOf f.dst).isSome || (f.announces && f.dst = Config.broadcast))

/-- A service frame for the part that arrived on a slot port (R134, R136). -/
def State.partFromSlot (s : State) (i : SlotId) (f : Received) : State :=
  if f.version = some Config.serviceVersion then
    if f.kind = some kindAnnounce then s.takeAnnounce i f.service
    else if f.kind = some kindWaitExtend then s.takeExtend i f.service
    else if f.kind = some kindTelemetry then
      if (s.slot i).state = .online then s.takeTelemetry i f.service.payload else s
    else if f.kind = some kindRequest then s.admitRequest (slotPort i) f.service
    else s
  else s

/-- A service frame for the part that arrived on an uplink port (R134, R138). -/
def State.partFromUplink (s : State) (u : UplinkId) (f : Received) : State :=
  if f.version = some Config.serviceVersion && f.kind = some kindRequest then s.admitRequest (uplinkPort u) f.service
  else s

/-! ### Classification (R141 to R144) -/

/-- The kind test (R141, test 4). -/
def State.kindMatches (s : State) (e : ClassEntry) (f : Received) : Bool :=
  match f.kind with
  | none => e.kindMask = 0#8
  | some k => if s.serviceType f then k &&& e.kindMask = e.kindValue &&& e.kindMask else e.kindMask = 0#8

/-- The tag test (R141, test 5). -/
def tagMatches (t : TagMatch) (f : Received) : Bool :=
  match t with
  | .any => true
  | .tagged => f.tag.isSome
  | .untagged => f.tag.isNone

/-- A valid entry matches a frame that came in on a port (R141). -/
def State.matchesEntry (s : State) (p : PortId) (f : Received) (e : ClassEntry) : Bool :=
  e.valid && e.ports.getLsbD p.val && f.dst &&& e.dstMask = e.dstValue &&& e.dstMask
    && f.etherType &&& e.typeMask = e.typeValue &&& e.typeMask && s.kindMatches e f && tagMatches e.tagMatch f

/-- The valid matching entry of lowest index (R142). -/
def State.classifyFrame (s : State) (p : PortId) (f : Received) : Option ClassEntry :=
  ((List.finRange 64).map s.classEntry).find? (s.matchesEntry p f)

/-- The action for a frame: FORWARD where no entry matches (R142). -/
def actionOf (e : Option ClassEntry) : ClassAction :=
  match e with
  | none => .forward
  | some e => e.action

/-- The frame is snooped where its action is FORWARD_SNOOP (R144). -/
def State.snoopable (s : State) (f : Received) : Bool :=
  s.serviceType f && f.version = some Config.serviceVersion && f.kind = some kindTelemetry

/-! ### Steering upstream (R152, R153) -/

/-- The uplink a group's mode selects for a source address (R152). -/
def selectUplink (mode : GroupMode) (active : List UplinkId) (src : Addr) : Option UplinkId :=
  match mode with
  | .failover => active.head?
  | .spread => active[addrByteSum src % active.length]?

/-- The uplink of the slot's group, read from the uplink map as the frame is steered (R152). -/
def State.steerGroup (s : State) (i : SlotId) (f : Received) : Option UplinkId :=
  selectUplink (s.group (s.map i).group).mode (s.group (s.map i).group).active f.src

/-- The uplink a passed frame of a slot leaves on, if there is one (R142, R152). -/
def State.steer (s : State) (i : SlotId) (f : Received) (e : Option ClassEntry) : Option UplinkId :=
  match e with
  | none => s.steerGroup i f
  | some x =>
    match x.action with
    | .redirect => if (s.uplink x.redirect).usable then some x.redirect else none
    | .forward => s.steerGroup i f
    | .forwardSnoop => s.steerGroup i f
    | .drop => none

/-- A frame with a tag pushed after its source address, or as it arrived for a tag of 0 (R153). -/
def pushTag (tag : Nat) (raw : List Byte) : List Byte :=
  if tag = 0 then raw
  else withFcs (raw.take 12 ++ [0x81#8, 0x00#8] ++ be16 tag ++ (raw.take (raw.length - 4)).drop 12)

/-- A passed frame is steered and transmitted with the slot's tag, or dropped where no uplink takes it (R152, R153). -/
def State.sendUp (s : State) (i : SlotId) (f : Received) (e : Option ClassEntry) : State :=
  match s.steer i f e with
  | none => s
  | some u => s.transmit (uplinkPort u) (.upstream i) (pushTag (s.map i).tag f.raw)

/-- The frame is policed at its length as received, and a passed one is steered (R164). -/
def State.policed (s : State) (i : SlotId) (f : Received) (e : Option ClassEntry) : State :=
  let t := s.updMeter i fun m => m.police f.raw.length
  if (s.meter i).passes f.raw.length then t.sendUp i f e else t

/-- The action of an upstream frame (R142, R144). -/
def State.upstream (s : State) (i : SlotId) (f : Received) : State :=
  let e := s.classifyFrame (slotPort i) f
  match actionOf e with
  | .drop => s
  | .forward => s.policed i f e
  | .redirect => s.policed i f e
  | .forwardSnoop => (if s.snoopable f then s.takeTelemetry i f.payload else s).policed i f e

/-- The three checks of the gate (R137): the slot is ONLINE, the frame is untagged, and its source address has a Station
Table entry for the slot. -/
def State.gatePasses (s : State) (i : SlotId) (f : Received) : Bool :=
  (s.slot i).state = .online && f.tag.isNone && s.holder f.src = some i

/-- A frame that arrived on slot port S(i) (R136, R137). -/
def State.fromSlot (s : State) (i : SlotId) (f : Received) : State :=
  if s.forPart f then s.partFromSlot i f
  else if s.gatePasses i f then s.upstream i f
  else s.updGateDrop i (countUp Config.dropCountTop)

/-! ### Delivery downstream (R154 to R156) -/

/-- The frame matches the tag of a slot (R154). -/
def State.tagAgrees (s : State) (i : SlotId) (f : Received) : Bool :=
  match f.tag with
  | none => (s.map i).tag = 0
  | some v => v ≠ 0 && v = (s.map i).tag

/-- The frame as delivered: its outermost tag removed and its FCS computed afresh, or as it arrived (R156). -/
def stripTag (f : Received) : List Byte :=
  if f.tag.isSome then withFcs (f.raw.take 12 ++ (f.raw.take (f.raw.length - 4)).drop 16) else f.raw

/-- The ingress uplink is in the active list of the slot's group (R154, step 3). -/
def State.takesUnicast (s : State) (i : SlotId) (u : UplinkId) : Bool :=
  (s.group (s.map i).group).active.contains u

/-- The ingress uplink is usable for the slot's group (R155). -/
def State.takesGroup (s : State) (i : SlotId) (u : UplinkId) : Bool :=
  match (s.group (s.map i).group).mode with
  | .spread => (s.group (s.map i).group).active.contains u
  | .failover => (s.group (s.map i).group).active.head? = some u

/-- The slots a downstream frame is delivered to (R154, R155). -/
def State.receivers (s : State) (u : UplinkId) (f : Received) : List SlotId :=
  if groupBit f.dst then
    allSlots.filter fun i => (s.slot i).state = .online && s.tagAgrees i f && s.takesGroup i u
  else if (s.identityOf f.dst).isSome then []
  else
    match s.holder f.dst with
    | none => []
    | some i => if (s.slot i).state = .online && s.takesUnicast i u && s.tagAgrees i f then [i] else []

/-- One copy of a downstream frame to each of its slots (R156). -/
def State.deliver (s : State) (u : UplinkId) (f : Received) : State :=
  (s.receivers u f).foldl (fun t i => t.transmit (slotPort i) .delivered (stripTag f)) s

/-- A frame that arrived on an uplink port (R138, R143). -/
def State.fromUplink (s : State) (u : UplinkId) (f : Received) : State :=
  if s.forPart f then s.partFromUplink u f
  else
    match actionOf (s.classifyFrame (uplinkPort u) f) with
    | .drop => s
    | .forward => s.deliver u f
    | .forwardSnoop => s.deliver u f
    | .redirect => s.deliver u f

/-! ### Arrival (R129, R130) -/

/-- Bytes received on slot port S(i), port 15 being judged by its role (R129, R130; notes/assumptions/29.md). A frame on a
port whose link is down acts as on one that is up (notes/assumptions/37.md). -/
def State.arriveSlot (s : State) (i : SlotId) (raw : List Byte) : State :=
  match receive raw with
  | none => s
  | some f => if s.servesSlot i then s.fromSlot i f else s.fromUplink uplink4 f

/-- Bytes received on an uplink's port (R129, R130), its link up or down (notes/assumptions/37.md). -/
def State.arriveUplink (s : State) (u : UplinkId) (raw : List Byte) : State :=
  match receive raw with
  | none => s
  | some f => if u = uplink4 ∧ s.portRole = .slot then s.fromSlot slot15 f else s.fromUplink u f

/-! ### Meanings -/

/-- TELEMETRY (R99, R136): a direct TELEMETRY frame on port S(slot), addressed to an identity. One that is not is no frame
of this row; it is then ordinary traffic, which SLOT_PORT_FRAME takes. The port's link is not asked
(notes/assumptions/37.md). -/
def execTelemetry (i : SlotId) (f : ServiceFrame) (s : State) : Host.Outcome State Fault Refusal :=
  .next (if (s.identityOf f.dst).isSome && s.servesSlot i && (s.slot i).state = .online
    then s.takeTelemetry i f.payload else s)

/-- SLOT_PORT_FRAME (R129, R136, R137, R142). -/
def execSlotPortFrame (i : SlotId) (bytes : List Byte) (s : State) : Host.Outcome State Fault Refusal :=
  .next (s.arriveSlot i bytes)

/-- UPLINK_PORT_FRAME (R129, R138, R143). -/
def execUplinkPortFrame (u : UplinkId) (bytes : List Byte) (s : State) : Host.Outcome State Fault Refusal :=
  .next (s.arriveUplink u bytes)

end Sys2Proof.Machine
end

