-- ==== Sys2Proof/Machine/Dispatch.lean ====
section
/-!
DEFINITION. The meaning of every command, one arm for each row of spec/opcode_table.json, in the table's order.
-/

namespace Sys2Proof.Machine

/-- What a command does to everything but the queue of waiting commands. -/
def exec (i : Instr) (s : State) : Host.Outcome State Fault Refusal :=
  match i with
  | .powerOnReset pins => Sys2Proof.Machine.execPowerOnReset pins s
  | .presenceAsserted slot => Sys2Proof.Machine.execPresenceAsserted slot s
  | .presenceDeasserted slot => Sys2Proof.Machine.execPresenceDeasserted slot s
  | .debounceExpiry slot => Sys2Proof.Machine.execDebounceExpiry slot s
  | .holdTimerExpiry slot => Sys2Proof.Machine.execHoldTimerExpiry slot s
  | .retryTimerExpiry slot => Sys2Proof.Machine.execRetryTimerExpiry slot s
  | .deadIntervalExpiry slot => Sys2Proof.Machine.execDeadIntervalExpiry slot s
  | .powerGoodAsserted slot => Sys2Proof.Machine.execPowerGoodAsserted slot s
  | .powerGoodFall slot => Sys2Proof.Machine.execPowerGoodFall slot s
  | .powerGoodTimerExpiry slot => Sys2Proof.Machine.execPowerGoodTimerExpiry slot s
  | .resetHoldExpiry slot => Sys2Proof.Machine.execResetHoldExpiry slot s
  | .dischargeTimerExpiry slot => Sys2Proof.Machine.execDischargeTimerExpiry slot s
  | .interlockAsserted => Sys2Proof.Machine.execInterlockAsserted s
  | .interlockReleased => Sys2Proof.Machine.execInterlockReleased s
  | .psuLineAsserted psu line => Sys2Proof.Machine.execPsuLineAsserted psu line s
  | .psuLineDeasserted psu line => Sys2Proof.Machine.execPsuLineDeasserted psu line s
  | .settleTimerExpiry psu => Sys2Proof.Machine.execSettleTimerExpiry psu s
  | .announce slot frame => Sys2Proof.Machine.execAnnounce slot frame s
  | .waitExtend slot frame => Sys2Proof.Machine.execWaitExtend slot frame s
  | .announceDeadlineExpiry slot => Sys2Proof.Machine.execAnnounceDeadlineExpiry slot s
  | .telemetry slot frame => Sys2Proof.Machine.execTelemetry slot frame s
  | .sensorStale slot sensor => Sys2Proof.Machine.execSensorStale slot sensor s
  | .criticalGraceExpiry slot => Sys2Proof.Machine.execCriticalGraceExpiry slot s
  | .controlInterval => Sys2Proof.Machine.execControlInterval s
  | .pwmPeriodStart fan => Sys2Proof.Machine.execPwmPeriodStart fan s
  | .tachEdge fan count => Sys2Proof.Machine.execTachEdge fan count s
  | .overflowTimerExpiry fan => Sys2Proof.Machine.execOverflowTimerExpiry fan s
  | .fanPresenceDeasserted fan => Sys2Proof.Machine.execFanPresenceDeasserted fan s
  | .fanPresenceAsserted fan => Sys2Proof.Machine.execFanPresenceAsserted fan s
  | .linkUp port => Sys2Proof.Machine.execLinkUp port s
  | .linkDown port => Sys2Proof.Machine.execLinkDown port s
  | .holdDownExpiry uplink => Sys2Proof.Machine.execHoldDownExpiry uplink s
  | .slotPortFrame slot bytes => Sys2Proof.Machine.execSlotPortFrame slot bytes s
  | .uplinkPortFrame uplink bytes => Sys2Proof.Machine.execUplinkPortFrame uplink bytes s
  | .epoch => Sys2Proof.Machine.execEpoch s
  | .request port frame => Sys2Proof.Machine.execRequest port frame s
  | .read => Sys2Proof.Machine.execRead s
  | .write => Sys2Proof.Machine.execWrite s
  | .powerOn => Sys2Proof.Machine.execPowerOn s
  | .powerOff => Sys2Proof.Machine.execPowerOff s
  | .release => Sys2Proof.Machine.execRelease s
  | .reset => Sys2Proof.Machine.execReset s
  | .refresh => Sys2Proof.Machine.execRefresh s
  | .clearFault => Sys2Proof.Machine.execClearFault s
  | .controllerReset => Sys2Proof.Machine.execControllerReset s
  | .adminEnableWrite slot value => Sys2Proof.Machine.execAdminEnableWrite slot value s
  | .roleSettingStackWrite => Sys2Proof.Machine.execRoleSettingStackWrite s
  | .roleSettingSlotWrite => Sys2Proof.Machine.execRoleSettingSlotWrite s
  | .powerPolicyWrite slot priority bootAllowance capFloor => Sys2Proof.Machine.execPowerPolicyWrite slot priority bootAllowance capFloor s
  | .psuCapacityWrite psu watts => Sys2Proof.Machine.execPsuCapacityWrite psu watts s
  | .redundancyModeWrite mode overhead => Sys2Proof.Machine.execRedundancyModeWrite mode overhead s
  | .fanFullPowerWrite fan watts => Sys2Proof.Machine.execFanFullPowerWrite fan watts s
  | .minDemandWrite zone perMille => Sys2Proof.Machine.execMinDemandWrite zone perMille s
  | .staleLimitWrite ms => Sys2Proof.Machine.execStaleLimitWrite ms s
  | .rateCodeWrite slot rate capRate => Sys2Proof.Machine.execRateCodeWrite slot rate capRate s
  | .bucketDepthWrite slot kib => Sys2Proof.Machine.execBucketDepthWrite slot kib s
  | .memberListWrite group members => Sys2Proof.Machine.execMemberListWrite group members s
  | .classifyEntryWrite index entry => Sys2Proof.Machine.execClassifyEntryWrite index entry s
  | .serviceEthertypeWrite etherType => Sys2Proof.Machine.execServiceEthertypeWrite etherType s
  | .noticeCfgWrite cfg => Sys2Proof.Machine.execNoticeCfgWrite cfg s
  | .writeItem => Sys2Proof.Machine.execWriteItem s
  | .warmResetInputAsserted => Sys2Proof.Machine.execWarmResetInputAsserted s
  | .warmResetInputDeasserted => Sys2Proof.Machine.execWarmResetInputDeasserted s
  | .spacingTimerExpiry => Sys2Proof.Machine.execSpacingTimerExpiry s

end Sys2Proof.Machine
end

