-- ==== Sys2Proof/Safety.lean ====
section
/-!
DEFINITION. What a safe part is, in the terms the statements use: the laws the spec gives the whole part, each over the
state alone, and the few words the statements share.
-/

namespace Sys2Proof.Machine

/-! ### Rails (R28, R39, R40) -/

/-- The law of one rail record (R28). Main enable and discharge enable are never asserted together, since discharge enable
is asserted only in a RAMP_DOWN and main enable is released throughout one. Neither is asserted while the dead interval
runs. The other clauses tie the timers to the operations that run them. -/
def Rail.lawful (r : Rail) : Prop :=
  (r.discharge = true → r.op = .rampDown) ∧
  (r.op = .rampDown → r.mainEnable = false ∧ r.resetTimer = none ∧ r.powerGoodTimer = none) ∧
  (r.dead ≠ none → r.mainEnable = false ∧ r.discharge = false) ∧
  (r.dischargeTimer ≠ none → r.discharge = true)

/-- Every rail record is lawful, and no slot's main enable is asserted while the chassis interlock is (R28, R39). -/
def State.railsLawful (s : State) : Prop :=
  ∀ i, (s.rail i).lawful ∧ (s.interlock = true → (s.rail i).mainEnable = false)

/-! ### Power (R38, R76, R77) -/

/-- The sum of the grants not marked releasing does not exceed C_avail (R77). -/
def State.budgetHeld (s : State) : Prop := 0 ≤ s.headroom

/-- Every power-cap line is asserted exactly when the slot's grant is below its target or its thermal cap is set, and the
capped mark is kept equal to it (R38, R76). -/
def State.capLinesLawful (s : State) : Prop :=
  ∀ i, (s.grantOf i).capped = (s.grantOf i).shouldCap ∧ (s.rail i).powerCap = (s.grantOf i).capped

/-! ### Lifecycle (R1, R45, R65, R75, R78, R79) -/

/-- A powered state (section 1.2). -/
def SlotState.powered : SlotState → Bool
  | .ramping => true
  | .resetHold => true
  | .announcing => true
  | .heldOnline => true
  | .online => true
  | .draining => true
  | .empty => false
  | .debounce => false
  | .present => false
  | .heldPower => false
  | .powerWait => false
  | .fault => false
  | .disabled => false

/-- What slot i's state says of its grant, its drain's next state, its queue entries and its assembly context.
The grant and the target are 0 in an unpowered state; in a powered one the grant is at least 1 and at most the target, which
is at most 1000 (R75). The grant is releasing exactly in DRAINING (R93, R94), and so is a drain's next state recorded (R1).
There is a BOOT entry exactly in POWER_WAIT, and an UPGRADE entry exactly in HELD_ONLINE and ONLINE with the grant below the
target, the thermal cap clear and the grant not releasing (R79). In those two states the target is the declared power of the
record (R75). The context is in WINDOW exactly in ANNOUNCING (R45), and in REFRESH only while the slot is ONLINE
(R65, R68). -/
def State.slotLawful (s : State) (i : SlotId) : Prop :=
  ((s.slot i).state.powered = false → (s.grantOf i).grant = 0 ∧ (s.grantOf i).target = 0) ∧
  ((s.slot i).state.powered = true →
    1 ≤ (s.grantOf i).grant ∧ (s.grantOf i).grant ≤ (s.grantOf i).target ∧ (s.grantOf i).target ≤ 1000) ∧
  ((s.grantOf i).releasing = true ↔ (s.slot i).state = .draining) ∧
  ((s.slot i).drainNext ≠ .none ↔ (s.slot i).state = .draining) ∧
  (s.hasEntry i .boot = true ↔ (s.slot i).state = .powerWait) ∧
  (s.hasEntry i .upgrade = true ↔
    ((s.slot i).state = .heldOnline ∨ (s.slot i).state = .online) ∧ (s.grantOf i).grant < (s.grantOf i).target ∧
    (s.grantOf i).thermalCap = false ∧ (s.grantOf i).releasing = false) ∧
  ((s.slot i).state = .heldOnline ∨ (s.slot i).state = .online →
    (s.inv i).record.map InvRecord.power = some (s.grantOf i).target) ∧
  ((s.context i).mode = .window ↔ (s.slot i).state = .announcing) ∧
  ((s.context i).mode = .refresh → (s.slot i).state = .online)

/-- A policy's boot allowance and cap floor stand in the ranges R78 gives them, as far as the grants rest on them. -/
def SlotPolicy.powerLawful (p : SlotPolicy) : Prop :=
  1 ≤ p.bootAllowance ∧ p.bootAllowance ≤ 1000 ∧ 1 ≤ p.capFloor

/-- Every slot is lawful, no slot has two entries in the Power Request Queue (R79), and every policy, one still to be
written by the WRITE in application among them, is lawful (R78, R173). -/
def State.lifecycleLawful (s : State) : Prop :=
  (∀ i, s.slotLawful i) ∧ (s.powerQueue.map PowerEntry.slot).Nodup ∧ (∀ i, (s.policy i).powerLawful) ∧
  ∀ job k p, s.writeJob = some job → (k, Item.slotPolicy p) ∈ job.items → p.powerLawful

/-! ### Stations (R157) -/

/-- No address appears twice in the Station Table (R157). -/
def State.stationsDistinct (s : State) : Prop :=
  ∀ j k : Fin 64, ∀ x y : Station, s.station j = some x → s.station k = some y → x.addr = y.addr → j = k

/-! ### Uplinks (R146, R148, R150) -/

/-- A usable uplink has its link up and its hold-down timer stopped, and a usable U4 or one whose hold-down runs stands in
the STACK role (R146, R148); a running hold-down timer too means a link that is up; and every active list is the list of
the group's usable members, in member-list order (R150). -/
def State.uplinksLawful (s : State) : Prop :=
  (∀ u, (s.uplink u).usable = true →
    s.uplinkLink u = true ∧ s.uplinkInRole u = true ∧ (s.uplink u).holdDown = none) ∧
  (∀ u, (s.uplink u).holdDown ≠ none → s.uplinkLink u = true ∧ s.uplinkInRole u = true) ∧
  (∀ g, (s.group g).active = s.usableMembers (s.group g).members)

/-! ### Meters, queues (R161, R163, R169, R181) -/

/-- No bucket holds more than its depth (R161, R163). -/
def State.tokensHeld (s : State) : Prop := ∀ i, (s.meter i).tokens ≤ (s.map i).depthBytes

/-- The service input queue holds at most four requests, and a WRITE in application stands at its head (R169, R170). -/
def State.requestsHeld (s : State) : Prop :=
  s.requests.length ≤ 4 ∧ (s.writeJob ≠ none → s.requests ≠ [])

/-- At most one notice is pending for each source, and so at most 32 (R181). -/
def State.noticesHeld (s : State) : Prop :=
  (s.notices.map Notice.source).Nodup ∧ s.notices.length ≤ 32

/-! ### Courses the statements share

Each says of two states that the second is the first with one course taken: what changes, and by an equation between
records that nothing else does. -/

/-- From v to t, slot i's record becomes r, and then its state change event is raised (R3). -/
def State.movesTo (v t : State) (i : SlotId) (r : Slot) : Prop :=
  ∃ w : State, t = w.raise (.stateChange i) ∧ w = { v with slots := w.slots } ∧
    ∀ j, w.slot j = if j = i then r else v.slot j

/-- From v to t, slot i's inventory record, thermal record and Station Table entries are gone, its generation count and
every other slot's entry, thermal record and generation count kept (R24, R25). Freed addresses may have gone to other
slots (R159). -/
def State.bladeCleared (v t : State) (i : SlotId) : Prop :=
  (t.inv i).record = none ∧ (∀ j, (t.inv j).generation = (v.inv j).generation) ∧
  (∀ j, t.thermalOf j = if j = i then ⟨[], false, none⟩ else v.thermalOf j) ∧
  (∀ k x, t.station k = some x → x.slot ≠ i) ∧
  ∀ k x, v.station k = some x → x.slot ≠ i → t.station k = some x

/-- From v to t, port 15 takes the STACK role (R131, R148): with its link up U4's hold-down timer starts, or, with a
hold-down time of 0, U4 is usable at once and the active list of each of its groups is recomputed. -/
def State.stackTaken (v t : State) : Prop :=
  t.portRole = .stack ∧
  (v.link 15 = false → t = { v with portRole := .stack }) ∧
  (v.link 15 = true → v.chassis.holdDown ≠ 0 →
    t = { v with portRole := .stack, uplinks := t.uplinks } ∧
    ∀ u, t.uplink u =
      if u = uplink4 then { v.uplink u with holdDown := v.timer v.chassis.holdDown } else v.uplink u) ∧
  (v.link 15 = true → v.chassis.holdDown = 0 →
    t = { v with
      portRole := .stack, uplinks := t.uplinks, groups := t.groups, notices := t.notices, spacing := t.spacing,
      noticeSeq := t.noticeSeq, sent := t.sent } ∧
    (∀ u, t.uplink u = if u = uplink4 then ⟨none, true⟩ else v.uplink u) ∧
    ((v.uplink uplink4).usable = false →
      ∀ g, (t.group g).mode = (v.group g).mode ∧ (t.group g).members = (v.group g).members ∧
        (uplink4 ∈ (v.group g).members →
          (t.group g).active = (v.group g).members.filter fun u => (t.uplink u).usable) ∧
        (uplink4 ∉ (v.group g).members → t.group g = v.group g)))

/-- From v to t, slot i enters DISABLED (R25): its blade's records are cleared, its fault cause is NONE and its retry count
0; and where it is slot 15 with the role setting STACK, port 15 takes the STACK role (R131). -/
def State.entersDisabled (v t : State) (i : SlotId) : Prop :=
  ∃ w : State,
    w = { v with
      slots := w.slots, inventory := w.inventory, stations := w.stations, thermal := w.thermal, notices := w.notices,
      spacing := w.spacing, noticeSeq := w.noticeSeq, sent := w.sent } ∧
    v.bladeCleared w i ∧
    (∀ j, w.slot j =
      if j = i then { v.slot i with state := .disabled, faultCause := .none, retryCount := 0 } else v.slot j) ∧
    (i ≠ slot15 ∨ v.chassis.roleSetting = .slot ∨ v.portRole = .stack → t = w) ∧
    (i = slot15 → v.chassis.roleSetting = .stack → v.portRole = .slot → w.stackTaken t)

/-- From v to t, slot i enters EMPTY (R4, R21): its fault cause and drain cause become NONE and its retry count 0; it goes
on to DISABLED where its disable condition holds, and otherwise to DEBOUNCE, the timer started, where its presence wire is
asserted. -/
def State.entersEmpty (v t : State) (i : SlotId) : Prop :=
  (v.disableCondition i = false →
    v.movesTo t i
      { v.slot i with
        faultCause := .none, drainCause := .none, retryCount := 0,
        state := if (v.slot i).presence then .debounce else .empty,
        debounce := if (v.slot i).presence then v.timer v.chassis.debounce else (v.slot i).debounce }) ∧
  (v.disableCondition i = true →
    ∃ w : State, w = { v with slots := w.slots } ∧
      (∀ j, w.slot j =
        if j = i then { v.slot i with faultCause := .none, drainCause := .none, retryCount := 0 } else v.slot j) ∧
      w.entersDisabled t i)

/-! ### Words the statements share -/

/-- The state in which the head r of the service input queue has been answered and removed, rest waiting behind it: the
RESPONSE stands among the frames sent where its port's link is up (R129, R170). -/
def State.answered (s : State) (r : Request) (rest : List Request) (status : Status) (images : List Byte) : State :=
  { s with
    requests := rest
    writeJob := none
    sent :=
      if s.link r.port then
        s.sent ++ [⟨r.port, .response,
          s.serviceFrame r.source kindResponse r.sequence (responsePayload r.payload status images)⟩]
      else s.sent }

/-- The request r stands at the head of the service input queue, rest behind it, with no WRITE in application, and it is of
a row. -/
def State.headIs (s : State) (row : RequestRow) (r : Request) (rest : List Request) : Prop :=
  s.requests = r :: rest ∧ s.writeJob = none ∧ requestRow r.payload = row

/-- An ANNOUNCE payload is rejected by slot i's context as a fragment, and not declared: it is malformed, its index is above
the expected one, or it fails the consistency test (R48, R49, R51). -/
def State.fragmentRefused (s : State) (i : SlotId) (payload : List Byte) : Prop :=
  fragmentWellFormed payload = false ∨ (s.context i).expected < nat8At payload 2 ∨
    nat8At payload 2 = (s.context i).expected ∧
      (s.context i).consistent (nat8At payload 0) (nat8At payload 1) = false

/-- An ANNOUNCE payload passes the consistency test and fails the room test at slot i's context (R49). -/
def State.fragmentTooLong (s : State) (i : SlotId) (payload : List Byte) : Prop :=
  fragmentWellFormed payload = true ∧ nat8At payload 2 = (s.context i).expected ∧
    (s.context i).consistent (nat8At payload 0) (nat8At payload 1) = true ∧
    (s.context i).hasRoom (nat8At payload 0) (payload.length - 3) = false

/-- An ANNOUNCE payload is the last fragment of an assembly at slot i's context, and passes both tests of R49. -/
def State.fragmentCompletes (s : State) (i : SlotId) (payload : List Byte) : Prop :=
  fragmentWellFormed payload = true ∧ nat8At payload 2 = (s.context i).expected ∧
    nat8At payload 2 + 1 = nat8At payload 1 ∧
    (s.context i).consistent (nat8At payload 0) (nat8At payload 1) = true ∧
    (s.context i).hasRoom (nat8At payload 0) (payload.length - 3) = true

/-- From s to u, slot i's context closes and a REFUSE of a reason answers the frame f (R47, R52, R58). -/
def State.refused (s u : State) (i : SlotId) (f : ServiceFrame) (reason : RefuseReason) : Prop :=
  u = { s with contexts := u.contexts, sent := u.sent } ∧
  (∀ j, u.context j = if j = i then ⟨.closed, 0, none, none, [], 0, 0, none, none, none, 0⟩ else s.context j) ∧
  u.sent =
    (if s.link (slotPort i) then
      s.sent ++ [⟨slotPort i, .announceReply,
        s.serviceFrame f.src kindAnnounceReply f.sequence [2#8, byte1 reason.code]⟩]
    else s.sent)

/-- The slot a COMMAND names (R179). -/
def commandSlot (r : Request) : SlotId := Fin.ofNat 16 (nat8At r.payload 2)

end Sys2Proof.Machine
end

