-- ==== Sys2Proof/Certificates/Slice0/Obligations.lean ====
section
/-!
DEFINITION. The statements for the provers. A command's statement gives the next state it ends in, field by field, and by
an equation between records which fields are left as they are; an event raised is written as State.raise on the state the
rest of the effect has left, and what State.raise does is a statement of its own.
-/

open Sys2Proof Sys2Proof.Machine

/-! ### The step and the power-on reset -/

/-- A step takes the command at the front of the queue. That the part idles on an empty queue is the model's choice
(notes/assumptions/4.md). -/
def Obligations.StepTakesFrontCommand : Prop :=
  (∀ (c : Instr) (rest : List Instr) (s : State),
    step { s with pending := c :: rest } = exec c { s with pending := rest }) ∧
  (∀ s : State, s.pending = [] → step s = .next s)

/-- POWER_ON_RESET gives every field of every unit its power-on value, from the levels sampled (R1, R2, R27, R43, R60,
R61, R69, R72, R73, R75, R78 to R80, R96, R97, R110 to R112, R129, R130, R133, R135, R140, R146, R149, R151, R157, R161,
R166, R169, R176, R178, R180). No WRITE is in application, and the notice sequence stands at 0. That the frames already
sent stay listed is the model's choice (notes/assumptions/8.md), and so is it that the model's clock counts from this
reset (notes/assumptions/4.md). -/
def Obligations.PowerOnResetSamplesLevels : Prop :=
  ∀ (p : Pins) (s : State), ∃ t : State, exec (.powerOnReset p) s = .next t ∧
    (∀ i, t.slot i =
      { presence := Tab.get p.presence i, state := if Tab.get p.presence i then .debounce else .empty,
        drainCause := .none, drainNext := .none, faultCause := .none, retryCount := 0, hold := none,
        debounce := if Tab.get p.presence i then some ⟨50, 50⟩ else none, retry := none, admission := 0 }) ∧
    (∀ i, t.policy i =
      { adminEnable := true, autoPower := true, holdPower := false, holdOnline := false, restoreAfterShed := true,
        holdDefault := .proceed, holdTimeout := 0, retryLimit := 3, retryInterval := 2000, bootAllowance := 60,
        capFloor := 150, priority := 4, weights := Vector.replicate 3 8 }) ∧
    t.chassis =
      { mode := .nPlus1, overhead := 200, staleLimit := 5000, staleDemand := 600, bootDemand := 400,
        roleSetting := .slot, etherType := 0x88B6#16, firstTimeout := 5000, gapTimeout := 500, wholeTimeout := 15000,
        queryWait := 2000, holdDown := 2000, deadInterval := 20, dischargeTime := 500, resetHold := 100,
        powerGoodTimeout := 200, debounce := 50, settleTime := 1000, criticalGrace := 10000 } ∧
    (∀ i, t.rail i =
      { powerGood := Tab.get p.powerGood i, mainEnable := false, discharge := false, bladeReset := true,
        powerCap := false, op := .none, stage := .none, downCause := .none, seen := false, dead := some ⟨20, 20⟩,
        powerGoodTimer := none, resetTimer := none, dischargeTimer := none }) ∧
    (∀ i, t.context i = ⟨.closed, 0, none, none, [], 0, 0, none, none, none, 0⟩ ∧ t.inv i = ⟨none, 0⟩ ∧
      t.thermalOf i = ⟨[], false, none⟩ ∧ t.grantOf i = ⟨0, 0, false, false, false, false, 0⟩ ∧
      t.map i = ⟨0, 0, 0, 0, 64⟩ ∧ t.meter i = ⟨65536, 0, none, 0⟩ ∧ t.gateDrop i = 0) ∧
    (∀ k, t.psu k =
      { capacity := 0, present := Tab.get p.psuPresent k, powerGood := Tab.get p.psuGood k, counted := false,
        settle :=
          if Tab.get p.psuPresent k = true ∧ Tab.get p.psuGood k = true then some ⟨1000, 1000⟩ else none }) ∧
    (∀ z, t.zone z =
      { minDemand := 250, slewUp := 1000, slewDown := 20, stopAllowed := false, command := 1000, target := 0,
        forced := false }) ∧
    (∀ f, t.fan f =
      if Tab.get p.fanPresent f then
        { minDrive := 200, pulses := 2, faultFloor := 1500, fullPower := 40, present := true, drive := 1000,
          effective := 400, pending := none, kick := 2, grace := 4, faulted := false, low := 0, high := 0,
          tach := .armed, period := .none, overflow := true, rpm := 0 }
      else
        { minDrive := 200, pulses := 2, faultFloor := 1500, fullPower := 40, present := false, drive := 0,
          effective := 0, pending := none, kick := 0, grace := 0, faulted := false, low := 0, high := 0,
          tach := .idle, period := .none, overflow := false, rpm := 0 }) ∧
    (∀ q, t.link q = false) ∧ t.portRole = .slot ∧
    (∀ k, t.classEntry k = ⟨false, 0#20, 0#48, 0#48, 0#16, 0#16, 0#8, 0#8, .any, .forward, 0⟩) ∧
    (∀ u, t.uplink u = ⟨none, false⟩) ∧
    (∀ g, t.group g = ⟨.failover, if g = 0 then [0, 1, 2, 3] else [], []⟩) ∧ (∀ k, t.station k = none) ∧
    t.chassisNumber = p.straps ∧ t.identity 0 = ⟨true, 0x023C71A000#40 ++ p.straps, .control, 0xF0000#20⟩ ∧
    (∀ k, k ≠ 0 → t.identity k = ⟨false, 0#48, .observe, 0#20⟩) ∧ t.interlock = p.interlock ∧
    t.warmHeld = p.warmReset ∧ t.requests = [] ∧ t.writeJob = none ∧ t.powerQueue = [] ∧ t.queueCounter = 0 ∧
    t.admissionCounter = 0 ∧ t.notices = [] ∧ t.noticeCfg = ⟨false, 0#48, 16, 10⟩ ∧ t.spacing = none ∧
    t.noticeSeq = 0 ∧ t.clock = 0 ∧ t.sent = s.sent ∧ t.pending = s.pending

/-! ### Slots: presence, debounce, holds, retry -/

/-- PRESENCE_ASSERTED (R4): EMPTY goes to DEBOUNCE with the timer started; in any other state only the level is kept;
and a wire that stands asserted changes nothing. That a command which stands for no event changes nothing is the model's
choice (notes/assumptions/2.md). That what begins or is cleared at the entry to a state stands so when its state change
event is raised is the model's choice (notes/assumptions/35.md). -/
def Obligations.PresenceRiseStartsDebounce : Prop :=
  ∀ (s : State) (i : SlotId),
    ((s.slot i).presence = true → exec (.presenceAsserted i) s = .next s) ∧
    ((s.slot i).presence = false → (s.slot i).state = .empty →
      ∃ u : State, exec (.presenceAsserted i) s = .next (u.raise (.stateChange i)) ∧ u = { s with slots := u.slots } ∧
        ∀ j, u.slot j =
          if j = i then
            { s.slot i with presence := true, state := .debounce, debounce := s.timer s.chassis.debounce }
          else s.slot j) ∧
    ((s.slot i).presence = false → (s.slot i).state ≠ .empty →
      ∃ u : State, exec (.presenceAsserted i) s = .next u ∧ u = { s with slots := u.slots } ∧
        ∀ j, u.slot j = if j = i then { s.slot i with presence := true } else s.slot j)

/-- PRESENCE_DEASSERTED in an unpowered state (R4, R9, R21, R24, R25, R82, R84): DEBOUNCE stops its timer and enters
EMPTY; from PRESENT, HELD_POWER and FAULT the slot's timers stop, its inventory record, its thermal record and every
Station Table entry of it are gone, and it enters EMPTY; from POWER_WAIT the same records are gone, its BOOT entry
leaves the queue, the arbiter runs, and it enters EMPTY, having a BOOT entry as State.lifecycleLawful says; in EMPTY and
DISABLED, whatever the disable condition, only the level changes. A slot that enters EMPTY goes on to DISABLED where its
disable condition holds, and otherwise stays, its presence wire being deasserted. That what begins or is cleared at the
entry to a state stands so when its state change event is raised is the model's choice (notes/assumptions/35.md). That a
course through several states raises one such event, for the last, is the model's inference (notes/assumptions/24.md).
That entry to DISABLED clears the blade's records before the state changes is the model's inference
(notes/assumptions/21.md). That the arbiter runs before the slot leaves POWER_WAIT is the model's choice
(notes/assumptions/43.md). That port 15 takes the STACK role after slot 15's event is the model's choice
(notes/assumptions/44.md). -/
def Obligations.RemovalClearsUnpoweredSlot : Prop :=
  ∀ (s : State) (i : SlotId), (s.slot i).presence = true →
    ((s.slot i).state = .debounce →
      ∃ u t : State, exec (.presenceDeasserted i) s = .next t ∧ u = { s with slots := u.slots } ∧
        (∀ j, u.slot j = if j = i then { s.slot i with presence := false, debounce := none } else s.slot j) ∧
        u.entersEmpty t i) ∧
    ((s.slot i).state = .present ∨ (s.slot i).state = .heldPower ∨ (s.slot i).state = .fault →
      ∃ u t : State, exec (.presenceDeasserted i) s = .next t ∧
        u = { s with
          slots := u.slots, inventory := u.inventory, stations := u.stations, thermal := u.thermal,
          notices := u.notices, spacing := u.spacing, noticeSeq := u.noticeSeq, sent := u.sent } ∧
        s.bladeCleared u i ∧
        (∀ j, u.slot j =
          if j = i then { s.slot i with presence := false, hold := none, debounce := none, retry := none }
          else s.slot j) ∧
        u.entersEmpty t i) ∧
    ((s.slot i).state = .powerWait → s.hasEntry i .boot = true →
      ∃ u t : State, exec (.presenceDeasserted i) s = .next t ∧
        u = { s with
          slots := u.slots, inventory := u.inventory, stations := u.stations, thermal := u.thermal,
          powerQueue := s.powerQueue.filter fun e => !(e.slot = i && e.kind = .boot), notices := u.notices,
          spacing := u.spacing, noticeSeq := u.noticeSeq, sent := u.sent } ∧
        s.bladeCleared u i ∧ (∀ j, u.slot j = if j = i then { s.slot i with presence := false } else s.slot j) ∧
        u.arbiter.entersEmpty t i ∧ (t.slot i).presence = false ∧ t.hasEntry i .boot = false ∧
        (s.disableCondition i = false → (t.slot i).state = .empty)) ∧
    ((s.slot i).state = .empty ∨ (s.slot i).state = .disabled →
      ∃ u : State, exec (.presenceDeasserted i) s = .next u ∧ u = { s with slots := u.slots } ∧
        ∀ j, u.slot j = if j = i then { s.slot i with presence := false } else s.slot j)

/-- PRESENCE_DEASSERTED with slot power on (R19, R20, R24): a powered slot drains with cause REMOVED and next state
EMPTY, with its records cleared; a slot already DRAINING changes its next state to EMPTY and keeps its cause. The
premise that the slot has no BOOT entry follows from State.lifecycleLawful. -/
def Obligations.RemovalDrainsPoweredSlot : Prop :=
  ∀ (s : State) (i : SlotId), (s.slot i).presence = true → s.hasEntry i .boot = false →
    ((s.slot i).state.drainable = true →
      ∃ t : State, exec (.presenceDeasserted i) s = .next t ∧ (t.slot i).state = .draining ∧
        (t.slot i).drainCause = .removed ∧ (t.slot i).drainNext = .empty ∧ (t.slot i).presence = false ∧
        (t.rail i).op = .rampDown ∧ (t.grantOf i).releasing = true ∧ (t.inv i).record = none ∧
        (t.thermalOf i).sensors = [] ∧ ∀ k x, t.station k = some x → x.slot ≠ i) ∧
    ((s.slot i).state = .draining →
      ∃ t : State, exec (.presenceDeasserted i) s = .next t ∧
        (∀ j, t.slot j =
          if j = i then
            { s.slot i with
              presence := false, drainNext := .empty,
              faultCause := if (s.slot i).drainNext = .fault then .none else (s.slot i).faultCause }
          else s.slot j) ∧
        t.rails = s.rails ∧ t.grants = s.grants ∧ t.powerQueue = s.powerQueue ∧ (t.inv i).record = none)

/-- DEBOUNCE_EXPIRY (R5, R6, R7, R61): the generation count returns to 0; with auto_power 0 the slot enters PRESENT;
with auto_power 1 it enters HELD_POWER where hold_power is 1, with the hold timer started unless its timeout is 0, and
otherwise makes its power request. That what begins or is cleared at the entry to a state stands so when its state
change event is raised is the model's choice (notes/assumptions/35.md). That the state change event comes before the
hold reached event is the model's choice (notes/assumptions/42.md). -/
def Obligations.DebounceExpiryTakesPath : Prop :=
  ∀ (s : State) (i : SlotId), (s.slot i).state = .debounce → (s.slot i).debounce ≠ none →
    ∃ u : State, u = { s with slots := u.slots, inventory := u.inventory } ∧
      (∀ j, u.inv j = if j = i then { s.inv i with generation := 0 } else s.inv j) ∧
      (∀ j, j ≠ i → u.slot j = s.slot j) ∧
      ((s.policy i).autoPower = false →
        exec (.debounceExpiry i) s = .next (u.raise (.stateChange i)) ∧
        u.slot i = { s.slot i with debounce := none, state := .present }) ∧
      ((s.policy i).autoPower = true → (s.policy i).holdPower = true →
        exec (.debounceExpiry i) s = .next ((u.raise (.stateChange i)).raise (.holdReached i)) ∧
        u.slot i =
          { s.slot i with
            debounce := none, state := .heldPower,
            hold :=
              if (s.policy i).holdTimeout = 0 then none
              else some ⟨(s.policy i).holdTimeout * 1000, s.clock + (s.policy i).holdTimeout * 1000⟩ }) ∧
      ((s.policy i).autoPower = true → (s.policy i).holdPower = false →
        exec (.debounceExpiry i) s = .next (u.powerRequest i) ∧
        u.slot i = { s.slot i with debounce := none })

/-- A power request (R6, R31, R79 to R83): after it the slot is in POWER_WAIT exactly while its BOOT entry stays in the
queue. While the interlock is asserted, or where the head of the queue does not fit, be it the slot's own entry or
another that stands before it, the slot waits: with a BOOT head no grant changes, with an UPGRADE head none but the
head's by its partial step. Where the slot's entry heads the queue and the headroom covers its boot allowance, it is
admitted with a new admission sequence in both records, and RAMP_UP is requested: it waits for a running dead interval;
otherwise main enable is asserted and the power-good timer runs, or, with the power-good wire already asserted,
power-good is seen at once and the reset hold runs, or, with a reset hold of 0, the window is open. -/
def Obligations.PowerRequestWaitsOrAdmits : Prop :=
  (∀ (s : State) (i : SlotId), s.hasEntry i .boot = false →
    ((s.powerRequest i).hasEntry i .boot = true ↔ ((s.powerRequest i).slot i).state = .powerWait)) ∧
  ∀ (s : State) (i : SlotId) (n : PowerEntry), n = ⟨i, .boot, (s.policy i).priority, s.queueCounter + 1⟩ →
    s.hasEntry i .boot = false → s.queueCounter < 65535 →
    (s.interlock = true →
      ((s.powerRequest i).slot i).state = .powerWait ∧ (s.powerRequest i).grants = s.grants ∧
      (s.powerRequest i).rails = s.rails ∧ n ∈ (s.powerRequest i).powerQueue) ∧
    (s.interlock = false → (∀ e ∈ s.powerQueue.head?, n.before e = true) →
      s.headroom < ((s.policy i).bootAllowance : Int) →
      ((s.powerRequest i).slot i).state = .powerWait ∧ (s.powerRequest i).grants = s.grants ∧
      (s.powerRequest i).powerQueue = n :: s.powerQueue) ∧
    (∀ e rest, s.interlock = false → s.powerQueue = e :: rest → n.before e = false →
      (e.kind = .boot → s.headroom < ((s.policy e.slot).bootAllowance : Int) →
        ((s.powerRequest i).slot i).state = .powerWait ∧ (s.powerRequest i).grants = s.grants ∧
        n ∈ (s.powerRequest i).powerQueue ∧ (s.powerRequest i).powerQueue.head? = some e) ∧
      (e.kind = .upgrade →
        s.headroom < ((s.grantOf e.slot).target : Int) - ((s.grantOf e.slot).grant : Int) →
        ((s.powerRequest i).slot i).state = .powerWait ∧ n ∈ (s.powerRequest i).powerQueue ∧
        (s.powerRequest i).powerQueue.head? = some e ∧
        ∀ j, ((s.powerRequest i).grantOf j).grant =
          if j = e.slot ∧ (s.grantOf j).grant < s.capLevel j ∧
              (s.capLevel j : Int) - ((s.grantOf j).grant : Int) ≤ s.headroom then s.capLevel j
          else (s.grantOf j).grant)) ∧
    (s.interlock = false → (∀ e ∈ s.powerQueue.head?, n.before e = true) → s.entryOf i = none →
      ((s.policy i).bootAllowance : Int) ≤ s.headroom → s.admissionCounter + s.powerQueue.length < 65535 →
      (s.rail i).op = .none →
      ((s.powerRequest i).slot i).admission = s.admissionCounter + 1 ∧
      ((s.powerRequest i).grantOf i).grant = (s.policy i).bootAllowance ∧
      ((s.powerRequest i).grantOf i).target = (s.policy i).bootAllowance ∧
      ((s.powerRequest i).grantOf i).admission = s.admissionCounter + 1 ∧
      (s.powerRequest i).hasEntry i .boot = false ∧ (s.powerQueue = [] → (s.powerRequest i).powerQueue = []) ∧
      ((s.rail i).dead ≠ none →
        ((s.powerRequest i).slot i).state = .ramping ∧ ((s.powerRequest i).rail i).op = .rampUp ∧
        ((s.powerRequest i).rail i).bladeReset = true ∧
        ((s.powerRequest i).rail i).mainEnable = (s.rail i).mainEnable ∧
        ((s.powerRequest i).rail i).stage = .spacing) ∧
      ((s.rail i).dead = none → (s.rail i).powerGood = false →
        ((s.powerRequest i).slot i).state = .ramping ∧ ((s.powerRequest i).rail i).op = .rampUp ∧
        ((s.powerRequest i).rail i).bladeReset = true ∧ ((s.powerRequest i).rail i).mainEnable = true ∧
        ((s.powerRequest i).rail i).stage = .rising ∧
        ((s.powerRequest i).rail i).powerGoodTimer = s.timer s.chassis.powerGoodTimeout) ∧
      ((s.rail i).dead = none → (s.rail i).powerGood = true → s.chassis.resetHold ≠ 0 →
        ((s.powerRequest i).slot i).state = .resetHold ∧ ((s.powerRequest i).rail i).op = .rampUp ∧
        ((s.powerRequest i).rail i).bladeReset = true ∧ ((s.powerRequest i).rail i).mainEnable = true ∧
        ((s.powerRequest i).rail i).seen = true ∧ ((s.powerRequest i).rail i).stage = .resetting ∧
        ((s.powerRequest i).rail i).powerGoodTimer = none ∧
        ((s.powerRequest i).rail i).resetTimer = s.timer s.chassis.resetHold) ∧
      ((s.rail i).dead = none → (s.rail i).powerGood = true → s.chassis.resetHold = 0 →
        ((s.powerRequest i).slot i).state = .announcing ∧ ((s.powerRequest i).context i).mode = .window ∧
        ((s.powerRequest i).rail i).op = .none ∧ ((s.powerRequest i).rail i).bladeReset = false ∧
        ((s.powerRequest i).rail i).mainEnable = true ∧ ((s.powerRequest i).rail i).seen = true))

/-- HOLD_TIMER_EXPIRY (R7, R8): PROCEED acts as RELEASE, to the power request from HELD_POWER and to ONLINE from
HELD_ONLINE; DENY enters PRESENT from HELD_POWER and drains from HELD_ONLINE with cause DENIED and next state PRESENT. A
stopped timer does not expire. That a command which stands for no event changes nothing is the model's choice
(notes/assumptions/2.md). That what begins or is cleared at the entry to a state stands so when its state change event
is raised is the model's choice (notes/assumptions/35.md). -/
def Obligations.HoldExpiryTakesDefault : Prop :=
  ∀ (s : State) (i : SlotId),
    ((s.slot i).hold = none → exec (.holdTimerExpiry i) s = .next s) ∧
    ((s.slot i).hold ≠ none →
      ∃ u : State, u = { s with slots := u.slots } ∧ (∀ j, j ≠ i → u.slot j = s.slot j) ∧
        ((s.slot i).state = .heldPower → (s.policy i).holdDefault = .proceed →
          exec (.holdTimerExpiry i) s = .next (u.powerRequest i) ∧ u.slot i = { s.slot i with hold := none }) ∧
        ((s.slot i).state = .heldOnline → (s.policy i).holdDefault = .proceed →
          exec (.holdTimerExpiry i) s = .next (u.enterOnline i) ∧ u.slot i = { s.slot i with hold := none }) ∧
        ((s.slot i).state = .heldPower → (s.policy i).holdDefault = .deny →
          exec (.holdTimerExpiry i) s = .next (u.raise (.stateChange i)) ∧
          u.slot i = { s.slot i with hold := none, state := .present }) ∧
        ((s.slot i).state = .heldOnline → (s.policy i).holdDefault = .deny →
          exec (.holdTimerExpiry i) s = .next (s.startDrain i .denied .present .none)))

/-- Entry to ONLINE (R13, R104, R107): the retry count becomes 0 and the fault cause NONE. With the critical flag clear,
a kept reading at or above its limit that is VALID and not stale sets the flag and the thermal cap and starts the grace
timer; with none such, nothing else changes. The premise that the slot has no BOOT entry follows from
State.lifecycleLawful. That what begins or is cleared at the entry to a state stands so when its state change event is
raised is the model's choice (notes/assumptions/35.md). That the set test comes after that event is the model's choice
(notes/assumptions/18.md). -/
def Obligations.OnlineEntryMakesSetTest : Prop :=
  ∀ (s : State) (i : SlotId), (s.thermalOf i).critical = false → s.hasEntry i .boot = false →
    ((s.thermalOf i).sensors.any (Sensor.critical s.chassis.staleLimit) = false →
      ∃ u : State, s.enterOnline i = u.raise (.stateChange i) ∧ u = { s with slots := u.slots } ∧
        ∀ j, u.slot j =
          if j = i then
            { s.slot i with state := .online, hold := none, retryCount := 0, faultCause := .none }
          else s.slot j) ∧
    ((s.thermalOf i).sensors.any (Sensor.critical s.chassis.staleLimit) = true →
      (s.grantOf i).releasing = false →
      ((s.enterOnline i).slot i).state = .online ∧ ((s.enterOnline i).thermalOf i).critical = true ∧
      ((s.enterOnline i).thermalOf i).grace = s.timer s.chassis.criticalGrace ∧
      ((s.enterOnline i).grantOf i).thermalCap = true)

/-- RETRY_TIMER_EXPIRY (R26): the retry count goes up by one and the slot takes the power-up path. A stopped timer does
not expire. That a command which stands for no event changes nothing is the model's choice (notes/assumptions/2.md).
That what begins or is cleared at the entry to a state stands so when its state change event is raised is the model's
choice (notes/assumptions/35.md). That the state change event comes before the hold reached event is the model's choice
(notes/assumptions/42.md). -/
def Obligations.RetryExpiryTakesPath : Prop :=
  ∀ (s : State) (i : SlotId),
    ((s.slot i).retry = none → exec (.retryTimerExpiry i) s = .next s) ∧
    ((s.slot i).retry ≠ none → (s.slot i).state = .fault →
      ∃ u : State, u = { s with slots := u.slots } ∧ (∀ j, j ≠ i → u.slot j = s.slot j) ∧
        ((s.policy i).holdPower = true →
          exec (.retryTimerExpiry i) s = .next ((u.raise (.stateChange i)).raise (.holdReached i)) ∧
          u.slot i =
            { s.slot i with
              retry := none, retryCount := (s.slot i).retryCount + 1, state := .heldPower,
              hold :=
                if (s.policy i).holdTimeout = 0 then none
                else some ⟨(s.policy i).holdTimeout * 1000, s.clock + (s.policy i).holdTimeout * 1000⟩ }) ∧
        ((s.policy i).holdPower = false →
          exec (.retryTimerExpiry i) s = .next (u.powerRequest i) ∧
          u.slot i = { s.slot i with retry := none, retryCount := (s.slot i).retryCount + 1 }))

/-! ### Drains and rails -/

/-- The start of a drain from a powered state other than DRAINING, the slot having no BOOT entry (R13, R19, R35, R36,
R46, R68, R93, R107): the slot records the cause, the next state and, for FAULT, the fault cause, and stops its hold
timer; it is DRAINING; its context is CLOSED where it was ANNOUNCING, or refreshing while ONLINE; its critical flag is
clear where it was ONLINE; its grant is releasing, but for a budget shed, whose pass has marked it; and RAMP_DOWN is in
flight with blade reset asserted and main enable released. From any other state nothing changes. -/
def Obligations.DrainStartTakesItsActions : Prop :=
  ∀ (s : State) (i : SlotId) (cause : DrainCause) (next : DrainNext) (fault : FaultCause),
    ((s.slot i).state.drainable = false → s.startDrain i cause next fault = s) ∧
    ((s.slot i).state.drainable = true → s.hasEntry i .boot = false → (s.rail i).op ≠ .rampDown →
      let t := s.startDrain i cause next fault
      (t.slot i).state = .draining ∧ (t.slot i).drainCause = cause ∧ (t.slot i).drainNext = next ∧
      (t.slot i).hold = none ∧
      (t.slot i).faultCause = (if next = .fault then fault else (s.slot i).faultCause) ∧
      ((s.slot i).state = .announcing → (t.context i).mode = .closed) ∧
      ((s.slot i).state = .online → (s.context i).mode = .refresh → (t.context i).mode = .closed) ∧
      ((s.slot i).state = .online → (t.thermalOf i).critical = false ∧ (t.thermalOf i).grace = none) ∧
      (cause ≠ .budget → (t.grantOf i).releasing = true ∧ t.hasEntry i .upgrade = false) ∧
      (t.rail i).op = .rampDown ∧ (t.rail i).downCause = cause ∧ (t.rail i).bladeReset = true ∧
      (t.rail i).mainEnable = false ∧ (t.rail i).powerGoodTimer = none ∧ (t.rail i).resetTimer = none)

/-- DEAD_INTERVAL_EXPIRY (R28, R30, R35): a waiting RAMP_DOWN asserts discharge enable and starts the discharge timer; a
waiting RAMP_UP asserts main enable, the interlock being released, and starts the power-good timer, or, with the
power-good wire already asserted, sees it at once and starts the reset hold; where no assertion waits, only the timer
stops; and a stopped timer does not expire. That a command which stands for no event changes nothing is the model's
choice (notes/assumptions/2.md). That what begins or is cleared at the entry to a state stands so when its state change
event is raised is the model's choice (notes/assumptions/35.md). That a course through several states raises one such
event, for the last, is the model's inference (notes/assumptions/24.md). That the rail record stands changed before its
report is handled is the model's choice (notes/assumptions/40.md). -/
def Obligations.DeadExpiryMakesWaitingAssertion : Prop :=
  ∀ (s : State) (i : SlotId),
    ((s.rail i).dead = none → exec (.deadIntervalExpiry i) s = .next s) ∧
    ((s.rail i).dead ≠ none →
      ∃ u : State, u = { s with rails := u.rails } ∧ (∀ j, j ≠ i → u.rail j = s.rail j) ∧
        ((s.rail i).stage ≠ .spacing →
          exec (.deadIntervalExpiry i) s = .next u ∧ u.rail i = { s.rail i with dead := none }) ∧
        ((s.rail i).stage = .spacing → (s.rail i).op = .rampDown →
          exec (.deadIntervalExpiry i) s = .next u ∧
          u.rail i =
            { s.rail i with
              dead := none, discharge := true, stage := .discharging,
              dischargeTimer := s.timer s.chassis.dischargeTime }) ∧
        ((s.rail i).stage = .spacing → (s.rail i).op = .rampUp → s.interlock = false →
          (s.rail i).powerGood = false →
          exec (.deadIntervalExpiry i) s = .next u ∧
          u.rail i =
            { s.rail i with
              dead := none, mainEnable := true, stage := .rising,
              powerGoodTimer := s.timer s.chassis.powerGoodTimeout })) ∧
    ((s.rail i).dead ≠ none → (s.rail i).stage = .spacing → (s.rail i).op = .rampUp → s.interlock = false →
      (s.rail i).powerGood = true → (s.slot i).state = .ramping → s.chassis.resetHold ≠ 0 →
      ∃ u : State, exec (.deadIntervalExpiry i) s = .next (u.raise (.stateChange i)) ∧
        u = { s with rails := u.rails, slots := u.slots } ∧
        (∀ j, u.slot j = if j = i then { s.slot i with state := .resetHold } else s.slot j) ∧
        ∀ j, u.rail j =
          if j = i then
            { s.rail i with
              dead := none, mainEnable := true, seen := true, stage := .resetting, powerGoodTimer := none,
              resetTimer := s.timer s.chassis.resetHold }
          else s.rail j)

/-- POWER_GOOD_ASSERTED (R10, R11, R29, R31): in RAMP_UP stage RISING power-good is seen, the power-good timer stops and
the reset hold runs, and a RAMPING slot is then in RESET_HOLD; with a reset hold of 0 the reset is released in the same
handling, and the slot is ANNOUNCING with its window open; at any other stage only the level changes. That what begins
or is cleared at the entry to a state stands so when its state change event is raised is the model's choice
(notes/assumptions/35.md). That a course through several states raises one such event, for the last, is the model's
inference (notes/assumptions/24.md). That the rail record stands changed before its report is handled is the model's
choice (notes/assumptions/40.md). -/
def Obligations.PowerGoodRiseStartsResetHold : Prop :=
  ∀ (s : State) (i : SlotId), (s.rail i).powerGood = false →
    ((s.rail i).op = .rampUp → (s.rail i).stage = .rising → s.chassis.resetHold ≠ 0 → (s.slot i).state = .ramping →
      ∃ u : State, exec (.powerGoodAsserted i) s = .next (u.raise (.stateChange i)) ∧
        u = { s with rails := u.rails, slots := u.slots } ∧
        (∀ j, u.slot j = if j = i then { s.slot i with state := .resetHold } else s.slot j) ∧
        ∀ j, u.rail j =
          if j = i then
            { s.rail i with
              powerGood := true, seen := true, stage := .resetting, powerGoodTimer := none,
              resetTimer := s.timer s.chassis.resetHold }
          else s.rail j) ∧
    ((s.rail i).op = .rampUp → (s.rail i).stage = .rising → s.chassis.resetHold = 0 → (s.slot i).state = .ramping →
      ∃ u : State, exec (.powerGoodAsserted i) s = .next (u.raise (.stateChange i)) ∧
        u = { s with rails := u.rails, slots := u.slots, contexts := u.contexts } ∧
        (∀ j, u.slot j = if j = i then { s.slot i with state := .announcing } else s.slot j) ∧
        (u.context i).mode = .window ∧ (∀ j, j ≠ i → u.context j = s.context j) ∧
        ∀ j, u.rail j =
          if j = i then
            { s.rail i with
              powerGood := true, seen := true, bladeReset := false, op := .none, stage := .none,
              powerGoodTimer := none, resetTimer := none }
          else s.rail j) ∧
    ((s.rail i).op ≠ .rampUp ∨ (s.rail i).stage ≠ .rising →
      ∃ u : State, exec (.powerGoodAsserted i) s = .next u ∧ u = { s with rails := u.rails } ∧
        ∀ j, u.rail j = if j = i then { s.rail i with powerGood := true } else s.rail j)

/-- POWER_GOOD_FALL (R14, R34): after power-good has been seen, with main enable asserted and no RAMP_DOWN in flight,
power lost is reported, and a slot that heeds it drains to FAULT with fault cause POWER_LOST; otherwise only the level
changes. That the rail record stands changed before its report is handled is the model's choice
(notes/assumptions/40.md). -/
def Obligations.PowerGoodFallIsPowerLost : Prop :=
  ∀ (s : State) (i : SlotId), (s.rail i).powerGood = true →
    ∃ u : State, u = { s with rails := u.rails } ∧ (∀ j, j ≠ i → u.rail j = s.rail j) ∧
      ((s.rail i).mainEnable = false ∨ (s.rail i).seen = false ∨ (s.rail i).op = .rampDown →
        exec (.powerGoodFall i) s = .next u ∧ u.rail i = { s.rail i with powerGood := false }) ∧
      ((s.rail i).mainEnable = true → (s.rail i).seen = true → (s.rail i).op ≠ .rampDown →
        (s.slot i).state.heedsPowerLost = true →
        exec (.powerGoodFall i) s = .next (u.startDrain i .fault .fault .powerLost) ∧
        (u.rail i).powerGood = false ∧ (u.rail i).mainEnable = true)

/-- POWER_GOOD_TIMER_EXPIRY (R10, R31): the RAMP_UP stalls with its outputs as they stand, and a RAMPING slot drains to
FAULT with fault cause NO_POWER_GOOD. A stopped timer does not expire. That a command which stands for no event changes
nothing is the model's choice (notes/assumptions/2.md). That the rail record stands changed before its report is handled
is the model's choice (notes/assumptions/40.md). -/
def Obligations.PowerGoodTimeoutStallsAndDrains : Prop :=
  ∀ (s : State) (i : SlotId),
    ((s.rail i).powerGoodTimer = none → exec (.powerGoodTimerExpiry i) s = .next s) ∧
    ((s.rail i).powerGoodTimer ≠ none → (s.slot i).state = .ramping →
      ∃ u : State, exec (.powerGoodTimerExpiry i) s = .next (u.startDrain i .fault .fault .noPowerGood) ∧
        u = { s with rails := u.rails } ∧
        ∀ j, u.rail j =
          if j = i then { s.rail i with powerGoodTimer := none, stage := .stalled } else s.rail j)

/-- RESET_HOLD_EXPIRY (R11, R32, R33, R45): blade reset is released and the operation ends; a RESET_HOLD slot enters
ANNOUNCING, and its window opens with the FIRST deadline after the first-fragment timeout and the whole deadline after
the larger of the two timeouts. A stopped timer does not expire. That a command which stands for no event changes
nothing is the model's choice (notes/assumptions/2.md). That what begins or is cleared at the entry to a state stands so
when its state change event is raised is the model's choice (notes/assumptions/35.md). That a course through several
states raises one such event, for the last, is the model's inference (notes/assumptions/24.md). That the rail record
stands changed before its report is handled is the model's choice (notes/assumptions/40.md). -/
def Obligations.ResetReleaseOpensWindow : Prop :=
  ∀ (s : State) (i : SlotId),
    ((s.rail i).resetTimer = none → exec (.resetHoldExpiry i) s = .next s) ∧
    ((s.rail i).resetTimer ≠ none → (s.slot i).state = .resetHold →
      ∃ u : State, exec (.resetHoldExpiry i) s = .next (u.raise (.stateChange i)) ∧
        u = { s with rails := u.rails, slots := u.slots, contexts := u.contexts } ∧
        (∀ j, u.slot j = if j = i then { s.slot i with state := .announcing } else s.slot j) ∧
        (∀ j, u.rail j =
          if j = i then
            { s.rail i with bladeReset := false, op := .none, stage := .none, resetTimer := none }
          else s.rail j) ∧
        ∀ j, u.context j =
          if j = i then
            { mode := .window, expected := 0, declaredLength := none, declaredCount := none, assembly := [],
              rejects := 0, extensions := 0, pending := some ⟨.first, s.clock + s.chassis.firstTimeout⟩,
              whole := some (s.clock + max s.chassis.wholeTimeout s.chassis.firstTimeout), replyAddr := none,
              replySeq := 0 }
          else s.context j)

/-- DISCHARGE_TIMER_EXPIRY for a DRAINING slot (R4, R21, R25, R26, R35, R94, R131): discharge enable is released, the
dead interval restarts, the operation ends; the grant, the target, the thermal cap and the capped mark are cleared; the
arbiter runs on the release, which leaves this slot's record alone but for a renumbered admission sequence; the drain's
next state becomes NONE; and the slot takes it: PRESENT; FAULT, with the retry timer started where the cause is
retryable and retries are left; POWER_WAIT by way of a power request; EMPTY, going on to DISABLED or to DEBOUNCE as R4
gives; or DISABLED, where port 15 takes the STACK role if it is due, or EMPTY with the records cleared where the disable
condition has ceased. A stopped timer does not expire. That a command which stands for no event changes nothing is the
model's choice (notes/assumptions/2.md). That what begins or is cleared at the entry to a state stands so when its state
change event is raised is the model's choice (notes/assumptions/35.md). That a course through several states raises one
such event, for the last, is the model's inference (notes/assumptions/24.md). That entry to DISABLED clears the blade's
records before the state changes is the model's inference (notes/assumptions/21.md). That the rail record stands changed
before its report is handled is the model's choice (notes/assumptions/40.md). That port 15 takes the STACK role after
slot 15's event is the model's choice (notes/assumptions/44.md). -/
def Obligations.RampDownCompleteTakesNextState : Prop :=
  ∀ (s : State) (i : SlotId),
    ((s.rail i).dischargeTimer = none → exec (.dischargeTimerExpiry i) s = .next s) ∧
    ((s.rail i).dischargeTimer ≠ none → (s.slot i).state = .draining →
      ∃ u v t : State, exec (.dischargeTimerExpiry i) s = .next t ∧
        u = { s with
          rails := u.rails, grants := u.grants, meters := u.meters, notices := u.notices, spacing := u.spacing,
          noticeSeq := u.noticeSeq, sent := u.sent } ∧
        (∀ j, j ≠ i → u.rail j = s.rail j ∧ u.grantOf j = s.grantOf j ∧ u.meter j = s.meter j) ∧
        u.rail i =
          { s.rail i with
            discharge := false, dischargeTimer := none, dead := s.timer s.chassis.deadInterval, op := .none,
            stage := .none, powerCap := if (s.grantOf i).capped then false else (s.rail i).powerCap } ∧
        (u.grantOf i).grant = 0 ∧ (u.grantOf i).target = 0 ∧ (u.grantOf i).releasing = false ∧
        (u.grantOf i).thermalCap = false ∧ (u.grantOf i).budgetCapped = false ∧ (u.grantOf i).capped = false ∧
        (s.powerQueue = [] → u.arbiter = u) ∧
        (s.hasEntry i .boot = false → { u.arbiter.slot i with admission := (s.slot i).admission } = s.slot i) ∧
        v = { u.arbiter with slots := v.slots } ∧
        (∀ j, v.slot j = if j = i then { u.arbiter.slot i with drainNext := .none } else u.arbiter.slot j) ∧
        ((s.slot i).drainNext = .present → v.movesTo t i { v.slot i with state := .present }) ∧
        ((s.slot i).drainNext = .fault →
          v.movesTo t i
            { v.slot i with
              state := .fault,
              retry :=
                if (s.slot i).faultCause.retryable = true ∧ (s.slot i).retryCount < (s.policy i).retryLimit then
                  s.timer (s.policy i).retryInterval
                else none }) ∧
        ((s.slot i).drainNext = .powerWait → t = v.powerRequest i) ∧
        ((s.slot i).drainNext = .empty → v.entersEmpty t i) ∧
        ((s.slot i).drainNext = .disabled →
          (s.disableCondition i = true → v.entersDisabled t i) ∧
          (s.disableCondition i = false →
            ∃ w : State,
              w = { v with
                inventory := w.inventory, stations := w.stations, thermal := w.thermal, notices := w.notices,
                spacing := w.spacing, noticeSeq := w.noticeSeq, sent := w.sent } ∧
              v.bladeCleared w i ∧ w.entersEmpty t i)))

/-- INTERLOCK_ASSERTED (R23, R39, R40): the level is asserted; every slot's blade reset is asserted and its main enable
released; each slot that can drain is DRAINING with cause EMERGENCY and next state PRESENT, its grant releasing; a
DRAINING slot takes cause EMERGENCY and keeps a next state of EMPTY or DISABLED; and an unpowered slot's record is
unchanged. -/
def Obligations.InterlockCutsEverySlot : Prop :=
  ∀ s : State, s.interlock = false →
    ∃ t : State, exec .interlockAsserted s = .next t ∧ t.interlock = true ∧
      (∀ i, (t.rail i).mainEnable = false ∧ (t.rail i).bladeReset = true ∧
        (t.rail i).powerGood = (s.rail i).powerGood ∧ (t.rail i).powerCap = (s.rail i).powerCap) ∧
      (∀ i, (s.slot i).state.drainable = true →
        t.slot i = { s.slot i with
          state := .draining, drainCause := .emergency, drainNext := .present, hold := none } ∧
        (t.grantOf i).releasing = true ∧ (t.rail i).op = .rampDown) ∧
      (∀ i, (s.slot i).state = .draining →
        (t.slot i).state = .draining ∧ (t.slot i).drainCause = .emergency ∧
        (t.slot i).drainNext =
          (if (s.slot i).drainNext = .empty ∨ (s.slot i).drainNext = .disabled then (s.slot i).drainNext
           else .present)) ∧
      (∀ i, (s.slot i).state.powered = false → t.slot i = s.slot i) ∧
      t.inventory = s.inventory ∧ t.stations = s.stations ∧ t.meters = s.meters ∧ t.requests = s.requests

/-- INTERLOCK_RELEASED (R41): the level is released, the arbiter runs on the queue as it stands, and the event is
raised; with an empty queue no slot, rail or grant changes. A level that stands released changes nothing. That a command
which stands for no event changes nothing is the model's choice (notes/assumptions/2.md). -/
def Obligations.InterlockReleaseRunsArbiter : Prop :=
  ∀ s : State,
    (s.interlock = false → exec .interlockReleased s = .next s) ∧
    (s.interlock = true →
      ∃ u : State, exec .interlockReleased s = .next (u.arbiter.raise .interlockReleased) ∧
        u = { s with interlock := u.interlock } ∧ u.interlock = false ∧ (s.powerQueue = [] → u.arbiter = u))

/-! ### Power -/

/-- PSU_LINE_ASSERTED, PSU_LINE_DEASSERTED and SETTLE_TIMER_EXPIRY (R70): a rise that leaves a line deasserted changes
only the level; a rise that finds the supply uncounted and leaves both lines asserted starts its settle timer, or, with
a settle time of 0, counts it at once; a fall stops the settle timer, and a counted supply becomes uncounted at once; an
expiry counts the supply; each change of the counted field raises its event and leads to a capacity recomputation. A
line that stands at the level already and a stopped timer change nothing. That a command which stands for no event
changes nothing is the model's choice (notes/assumptions/2.md). -/
def Obligations.SupplyLinesCountSupply : Prop :=
  ∀ (s : State) (p : PsuId) (line : PsuLine),
    ((s.psu p).line line = true → exec (.psuLineAsserted p line) s = .next s) ∧
    ((s.psu p).line line = false →
      ∃ u : State, u = { s with psus := u.psus } ∧ (∀ q, q ≠ p → u.psu q = s.psu q) ∧
        let r := (s.psu p).withLine line true
        ((r.present && r.powerGood) = false ∨ (s.psu p).counted = true →
          exec (.psuLineAsserted p line) s = .next u ∧ u.psu p = r) ∧
        ((r.present && r.powerGood) = true → (s.psu p).counted = false → s.chassis.settleTime ≠ 0 →
          exec (.psuLineAsserted p line) s = .next u ∧
          u.psu p = { r with settle := s.timer s.chassis.settleTime }) ∧
        ((r.present && r.powerGood) = true → (s.psu p).counted = false → s.chassis.settleTime = 0 →
          exec (.psuLineAsserted p line) s = .next ((u.raise (.countedChange p)).recapacity s.cAvail) ∧
          u.psu p = { r with counted := true, settle := none })) ∧
    ((s.psu p).line line = false → exec (.psuLineDeasserted p line) s = .next s) ∧
    ((s.psu p).line line = true →
      ∃ u : State, u = { s with psus := u.psus } ∧ (∀ q, q ≠ p → u.psu q = s.psu q) ∧
        ((s.psu p).counted = false →
          exec (.psuLineDeasserted p line) s = .next u ∧
          u.psu p = { (s.psu p).withLine line false with settle := none }) ∧
        ((s.psu p).counted = true →
          exec (.psuLineDeasserted p line) s = .next ((u.raise (.countedChange p)).recapacity s.cAvail) ∧
          u.psu p = { (s.psu p).withLine line false with settle := none, counted := false })) ∧
    ((s.psu p).settle = none → exec (.settleTimerExpiry p) s = .next s) ∧
    ((s.psu p).settle ≠ none →
      ∃ u : State, exec (.settleTimerExpiry p) s = .next ((u.raise (.countedChange p)).recapacity s.cAvail) ∧
        u = { s with psus := u.psus } ∧
        ∀ q, u.psu q = if q = p then { s.psu p with counted := true, settle := none } else s.psu q)

/-- A capacity recomputation (R74, R77, R90 to R92): one that leaves C_avail unchanged does nothing; any other raises
its event, runs the passes where headroom is below 0, and runs the arbiter where C_avail rose or a grant was reduced or
released. It ends with the sum of the grants not marked releasing at or below C_avail, whatever it was before, and
changes no setting, no supply and no fan. The passes walk every slot whose grant is nonzero and not marked releasing,
once each, from the highest priority number down, and within a priority from the highest admission sequence down. The
capping pass comes first, with its event where it has reduced a grant; the shed pass follows where headroom is still
below 0, with its event where it has shed a slot. That each pass's event comes at its pass's end, so before the next
pass, is the model's choice (notes/assumptions/41.md). -/
def Obligations.RecapacityEndsInBalance : Prop :=
  (∀ (s : State) (old : Nat),
    (s.cAvail = old → s.recapacity old = s) ∧
    (s.cAvail ≠ old →
      0 ≤ (s.recapacity old).headroom ∧ (s.recapacity old).cAvail = s.cAvail ∧
      (s.recapacity old).psus = s.psus ∧ (s.recapacity old).fans = s.fans ∧
      (s.recapacity old).chassis = s.chassis ∧ (s.recapacity old).policies = s.policies ∧
      (0 ≤ s.headroom → s.cAvail < old → s.recapacity old = s.raise .capacityChange) ∧
      (0 ≤ s.headroom → old < s.cAvail → s.recapacity old = (s.raise .capacityChange).arbiter) ∧
      (s.headroom < 0 → ∃ (u : State) (b : Bool), (s.raise .capacityChange).restoreBalance = (u, b) ∧
        (old < s.cAvail ∨ b = true → s.recapacity old = u.arbiter) ∧
        (s.cAvail < old → b = false → s.recapacity old = u)))) ∧
  (∀ s : State,
    (∀ i, i ∈ s.passOrder ↔ (s.grantOf i).grant ≠ 0 ∧ (s.grantOf i).releasing = false) ∧ s.passOrder.Nodup ∧
    s.passOrder.Pairwise fun i j =>
      (s.policy j).priority < (s.policy i).priority ∨
      (s.policy i).priority = (s.policy j).priority ∧ (s.grantOf j).admission ≤ (s.grantOf i).admission) ∧
  ∀ s : State, s.headroom < 0 →
    ∃ (c u : State) (capped : Bool), cappingPass s.passOrder false s = (c, capped) ∧
      u = (if capped then c.raise .cappingPass else c) ∧
      (0 ≤ u.headroom → s.restoreBalance = (u, capped)) ∧
      (u.headroom < 0 →
        ∃ (d : State) (shed : Bool), sheddingPass u.passOrder false u = (d, shed) ∧ 0 ≤ d.headroom ∧
          s.restoreBalance = (if shed then d.raise .shedPass else d, capped || shed))

/-- What the passes do with one slot (R22, R90, R91). The capping pass reduces a slot whose grant is above its cap level
to that level, marks it budget-capped, and in HELD_ONLINE or ONLINE with the thermal cap clear leaves it an UPGRADE
entry; a slot at or below its cap level is passed over. The shed pass marks the slot's grant releasing, removes its
queue entry, and orders a drain with cause BUDGET, whose next state is POWER_WAIT where restore_after_shed is 1 and
PRESENT otherwise. Each pass stops where headroom is not below 0. -/
def Obligations.CappingPassReducesToCapLevel : Prop :=
  (∀ (s : State) (i : SlotId) (rest : List SlotId) (did : Bool),
    (0 ≤ s.headroom → cappingPass (i :: rest) did s = (s, did)) ∧
    (s.headroom < 0 → (s.grantOf i).grant ≤ s.capLevel i →
      cappingPass (i :: rest) did s = cappingPass rest did s) ∧
    (s.headroom < 0 → s.capLevel i < (s.grantOf i).grant →
      ∃ u : State, cappingPass (i :: rest) did s = cappingPass rest true u ∧
        u = { s with
          rails := u.rails, grants := u.grants, meters := u.meters, powerQueue := u.powerQueue,
          queueCounter := u.queueCounter } ∧
        (u.grantOf i).grant = s.capLevel i ∧ (u.grantOf i).budgetCapped = true ∧
        (u.grantOf i).target = (s.grantOf i).target ∧ (u.grantOf i).capped = (u.grantOf i).shouldCap ∧
        (∀ j, j ≠ i → u.grantOf j = s.grantOf j ∧ u.rail j = s.rail j ∧ u.meter j = s.meter j) ∧
        ((s.slot i).state = .heldOnline ∨ (s.slot i).state = .online → (s.grantOf i).thermalCap = false →
          u.hasEntry i .upgrade = true) ∧
        ((s.slot i).state ≠ .heldOnline → (s.slot i).state ≠ .online → u.powerQueue = s.powerQueue))) ∧
  ∀ (s : State) (i : SlotId) (rest : List SlotId) (did : Bool),
    (0 ≤ s.headroom → sheddingPass (i :: rest) did s = (s, did)) ∧
    (s.headroom < 0 →
      ∃ u t : State, sheddingPass (i :: rest) did s = sheddingPass rest true t ∧
        u = { s with grants := u.grants, powerQueue := s.powerQueue.filter fun e => !(e.slot = i) } ∧
        (∀ j, u.grantOf j = if j = i then { s.grantOf i with releasing := true } else s.grantOf j) ∧
        t = u.startDrain i .budget (if (s.policy i).restoreAfterShed then .powerWait else .present) .none ∧
        ((s.slot i).state.drainable = true →
          (t.slot i).state = .draining ∧ (t.slot i).drainCause = .budget ∧
          (t.slot i).drainNext = (if (s.policy i).restoreAfterShed then .powerWait else .present) ∧
          t.grants = u.grants ∧ t.powerQueue = u.powerQueue ∧
          t.headroom = s.headroom + (if (s.grantOf i).releasing then 0 else ((s.grantOf i).grant : Int))))

/-- The arbiter serves the head alone and in order (R81, R82): nothing is granted while the interlock is asserted; a
BOOT head that does not fit, and an UPGRADE head that fits neither in full nor as a partial step, change nothing,
whatever waits behind them; and an UPGRADE alone in the queue that fits brings the grant to the target and leaves the
queue. Targets and thermal caps lead to its runs (R76, R85, R86, R88, R89). A window's declared power lifts the thermal
cap and becomes the target: at or below the grant it becomes the grant, the capped mark's causes cleared, and the
arbiter runs if it is below; above the grant an UPGRADE joins, which with an empty queue is granted in full, takes the
partial step, or waits. A refresh that lowers the target lowers the grant to it; one that raises it queues an UPGRADE
where the thermal cap is clear and none waits. A thermal cap set lowers the grant to the cap level and removes the
UPGRADE; one cleared queues an UPGRADE in HELD_ONLINE or ONLINE where the grant is short of the target and not
releasing. That the arbiter runs after a refresh which only removes an entry is the model's inference
(notes/assumptions/25.md). -/
def Obligations.ArbiterServesFromHead : Prop :=
  (∀ (s : State) (e : PowerEntry) (rest : List PowerEntry),
    (s.interlock = true → s.arbiter = s) ∧
    (s.powerQueue = [] → s.arbiter = s) ∧
    (s.powerQueue = e :: rest → e.kind = .boot → s.headroom < ((s.policy e.slot).bootAllowance : Int) →
      s.arbiter = s) ∧
    (s.powerQueue = e :: rest → e.kind = .upgrade →
      s.headroom < ((s.grantOf e.slot).target : Int) - ((s.grantOf e.slot).grant : Int) →
      s.capLevel e.slot ≤ (s.grantOf e.slot).grant ∨
        s.headroom < (s.capLevel e.slot : Int) - ((s.grantOf e.slot).grant : Int) →
      s.arbiter = s) ∧
    (s.interlock = false → s.powerQueue = [e] → e.kind = .upgrade →
      ((s.grantOf e.slot).target : Int) - ((s.grantOf e.slot).grant : Int) ≤ s.headroom →
      s.arbiter.powerQueue = [] ∧ (s.arbiter.grantOf e.slot).grant = (s.grantOf e.slot).target ∧
      (s.arbiter.grantOf e.slot).target = (s.grantOf e.slot).target ∧
      (s.arbiter.grantOf e.slot).budgetCapped = false ∧
      (s.arbiter.grantOf e.slot).capped = (s.grantOf e.slot).thermalCap ∧
      (∀ j, j ≠ e.slot → s.arbiter.grantOf j = s.grantOf j) ∧ s.arbiter.slots = s.slots)) ∧
  (∀ (s : State) (i : SlotId),
    ∃ t : State, s.remark i = t ∧ t = { s with rails := t.rails, grants := t.grants, meters := t.meters } ∧
      (∀ j, t.grantOf j =
        if j = i then
          { s.grantOf i with
            capped := decide ((s.grantOf i).grant < (s.grantOf i).target) || (s.grantOf i).thermalCap }
        else s.grantOf j) ∧
      ((t.grantOf i).capped ≠ (s.grantOf i).capped → (t.rail i).powerCap = (t.grantOf i).capped)) ∧
  (∀ (s : State) (i : SlotId) (power : Nat),
    ∃ w u : State, w = { s with grants := w.grants } ∧
      (∀ j, w.grantOf j = if j = i then { s.grantOf i with thermalCap := false } else s.grantOf j) ∧
      u = { (if (s.grantOf i).thermalCap then w.raise (.thermalCapOff i) else s) with grants := u.grants } ∧
      (power ≤ (s.grantOf i).grant →
        (∀ j, u.grantOf j =
          if j = i then
            { s.grantOf i with grant := power, target := power, thermalCap := false, budgetCapped := false }
          else s.grantOf j) ∧
        s.acceptTarget i power = (if power < (s.grantOf i).grant then u.arbiter else u).remark i) ∧
      ((s.grantOf i).grant < power →
        (∀ j, u.grantOf j =
          if j = i then { s.grantOf i with target := power, thermalCap := false } else s.grantOf j) ∧
        s.acceptTarget i power = ((u.enqueue i .upgrade).arbiter).remark i ∧
        (s.interlock = false → s.powerQueue = [] →
          ((s.acceptTarget i power).grantOf i).target = power ∧
          ((power : Int) - ((s.grantOf i).grant : Int) ≤ s.headroom →
            ((s.acceptTarget i power).grantOf i).grant = power ∧ (s.acceptTarget i power).powerQueue = [] ∧
            ((s.acceptTarget i power).grantOf i).capped = false) ∧
          (s.headroom < (power : Int) - ((s.grantOf i).grant : Int) →
            ((s.acceptTarget i power).grantOf i).grant =
              (if (s.grantOf i).grant < min (s.policy i).capFloor power ∧
                  ((min (s.policy i).capFloor power : Nat) : Int) - ((s.grantOf i).grant : Int) ≤ s.headroom then
                min (s.policy i).capFloor power
              else (s.grantOf i).grant) ∧
            (s.acceptTarget i power).hasEntry i .upgrade = true)))) ∧
  (∀ (s : State) (i : SlotId) (power : Nat),
    ∃ u : State, u = { s with grants := u.grants, powerQueue := u.powerQueue } ∧
      (power < (s.grantOf i).target → power ≤ (s.grantOf i).grant →
        (∀ j, u.grantOf j =
          if j = i then { s.grantOf i with grant := power, target := power, budgetCapped := false }
          else s.grantOf j) ∧
        u.powerQueue = s.powerQueue.filter (fun e => !(e.slot = i && e.kind = .upgrade)) ∧
        s.refreshTarget i power =
          (if power < (s.grantOf i).grant ∨ s.hasEntry i .upgrade = true then u.arbiter else u).remark i) ∧
      ((s.grantOf i).grant < power →
        (∀ j, u.grantOf j = if j = i then { s.grantOf i with target := power } else s.grantOf j) ∧
        u.powerQueue = s.powerQueue ∧
        (power < (s.grantOf i).target ∨ (s.grantOf i).thermalCap = true ∨ s.hasEntry i .upgrade = true →
          s.refreshTarget i power = u.remark i) ∧
        ((s.grantOf i).target ≤ power → (s.grantOf i).thermalCap = false → s.hasEntry i .upgrade = false →
          s.refreshTarget i power = ((u.enqueue i .upgrade).arbiter).remark i))) ∧
  (∀ (s : State) (i : SlotId),
    ((s.grantOf i).thermalCap = true ∨ (s.grantOf i).releasing = true → s.setThermalCap i = s) ∧
    ((s.grantOf i).thermalCap = false → (s.grantOf i).releasing = false →
      ∃ w u : State, w = { s with grants := w.grants } ∧
        (∀ j, w.grantOf j = if j = i then { s.grantOf i with thermalCap := true } else s.grantOf j) ∧
        u = { w.raise (.thermalCapOn i) with
          grants := u.grants, powerQueue := s.powerQueue.filter fun e => !(e.slot = i && e.kind = .upgrade) } ∧
        (∀ j, u.grantOf j =
          if j = i then
            { s.grantOf i with thermalCap := true, grant := min (s.grantOf i).grant (s.capLevel i) }
          else s.grantOf j) ∧
        s.setThermalCap i = (u.remark i).arbiter)) ∧
  ∀ (s : State) (i : SlotId),
    ((s.grantOf i).thermalCap = false → s.clearThermalCap i = s) ∧
    ((s.grantOf i).thermalCap = true →
      ∃ w : State, w = { s with grants := w.grants } ∧
        (∀ j, w.grantOf j = if j = i then { s.grantOf i with thermalCap := false } else s.grantOf j) ∧
        ((s.slot i).state = .heldOnline ∨ (s.slot i).state = .online →
          (s.grantOf i).grant < (s.grantOf i).target → (s.grantOf i).releasing = false →
          s.clearThermalCap i = (((w.raise (.thermalCapOff i)).enqueue i .upgrade).arbiter).remark i) ∧
        ((s.slot i).state ≠ .heldOnline ∧ (s.slot i).state ≠ .online ∨
            (s.grantOf i).target ≤ (s.grantOf i).grant ∨ (s.grantOf i).releasing = true →
          s.clearThermalCap i = (w.raise (.thermalCapOff i)).remark i))

/-- PSU_CAPACITY_WRITE, REDUNDANCY_MODE_WRITE and FAN_FULL_POWER_WRITE (R71, R74, R112): the field takes the written
value brought into its range, and capacity is recomputed; where C_avail does not change by it, nothing else changes.
That a row's operand is brought into its range as a written item's is, is the model's inference
(notes/assumptions/30.md). -/
def Obligations.PowerSettingsRecompute : Prop :=
  (∀ (s : State) (p : PsuId) (w : Nat),
    ∃ u : State, exec (.psuCapacityWrite p w) s = .next (u.recapacity s.cAvail) ∧ u = { s with psus := u.psus } ∧
      (∀ q, u.psu q = if q = p then { s.psu p with capacity := min 4000 w } else s.psu q) ∧
      (u.cAvail = s.cAvail → exec (.psuCapacityWrite p w) s = .next u)) ∧
  (∀ (s : State) (m : RedundancyMode) (w : Nat),
    ∃ u : State, exec (.redundancyModeWrite m w) s = .next (u.recapacity s.cAvail) ∧
      u = { s with chassis := { s.chassis with mode := m, overhead := min 2000 w } } ∧
      (u.cAvail = s.cAvail → exec (.redundancyModeWrite m w) s = .next u)) ∧
  (∀ (s : State) (f : FanId) (w : Nat),
    ∃ u : State, exec (.fanFullPowerWrite f w) s = .next (u.recapacity s.cAvail) ∧ u = { s with fans := u.fans } ∧
      (∀ g, u.fan g = if g = f then { s.fan f with fullPower := min 200 w } else s.fan g) ∧
      (u.cAvail = s.cAvail → exec (.fanFullPowerWrite f w) s = .next u))

/-- POWER_POLICY_WRITE (R78, R79, R82, R84): the three fields take the written values brought into their ranges, the cap
floor raised to the boot allowance of the same write; a change of the priority gives it to the slot's entry, which keeps
its kind and sequence and moves to its place in the order, the queue keeping the same entries otherwise; and a change of
any of the three fields runs the arbiter. That a row's operand is brought into its range as a written item's is, is the
model's inference (notes/assumptions/30.md). -/
def Obligations.PowerPolicyWriteRunsArbiter : Prop :=
  ∀ (s : State) (i : SlotId) (priority boot floor : Nat),
    ∃ u : State, u = { s with policies := u.policies, powerQueue := u.powerQueue } ∧
      (∀ j, j ≠ i → u.policy j = s.policy j) ∧
      u.policy i =
        { s.policy i with
          priority := min 7 priority, bootAllowance := max 1 (min 1000 boot),
          capFloor := max (max 1 (min 1000 boot)) (max 1 (min 1000 floor)) } ∧
      (u.policy i = s.policy i → exec (.powerPolicyWrite i priority boot floor) s = .next s) ∧
      (u.policy i ≠ s.policy i → exec (.powerPolicyWrite i priority boot floor) s = .next u.arbiter) ∧
      ((s.policy i).priority = min 7 priority ∨ s.entryOf i = none → u.powerQueue = s.powerQueue) ∧
      ((s.policy i).priority ≠ min 7 priority →
        (∀ e, e ∈ u.powerQueue ↔
          e.slot ≠ i ∧ e ∈ s.powerQueue ∨
          ∃ x ∈ s.powerQueue, x.slot = i ∧ e = { x with priority := min 7 priority }) ∧
        u.powerQueue.length = s.powerQueue.length ∧
        (s.powerQueue.Pairwise (fun e f => f.before e = false) →
          u.powerQueue.Pairwise fun e f => f.before e = false))

/-- ADMIN_ENABLE_WRITE (R20, R25): a write of the present value changes nothing; any other stores the value. A write of
0 drains a slot that can drain, with cause ADMIN and next state DISABLED; makes the cause of a DRAINING slot ADMIN, and
its next state DISABLED unless that is EMPTY; leaves a DISABLED slot there; and places any other slot in DISABLED, its
timers stopped, a slot in POWER_WAIT once its BOOT entry has left the queue and the arbiter has run. A write of 1 takes
a DISABLED slot whose disable condition has ceased to EMPTY, or on to DEBOUNCE, and moves no other slot: slot 15 stays
DISABLED while the role setting is STACK. That a write which finds a drain under way makes its cause ADMIN even where
the condition held before is the model's inference (notes/assumptions/23.md). That what begins or is cleared at the
entry to a state stands so when its state change event is raised is the model's choice (notes/assumptions/35.md). That a
course through several states raises one such event, for the last, is the model's inference (notes/assumptions/24.md).
That entry to DISABLED clears the blade's records before the state changes is the model's inference
(notes/assumptions/21.md). That the arbiter runs before the slot leaves POWER_WAIT is the model's choice
(notes/assumptions/43.md). That port 15 takes the STACK role after slot 15's event is the model's choice
(notes/assumptions/44.md). -/
def Obligations.AdminEnableDisablesAndEnables : Prop :=
  ∀ (s : State) (i : SlotId),
    exec (.adminEnableWrite i (s.policy i).adminEnable) s = .next s ∧
    ∃ u : State, u = { s with policies := u.policies } ∧
      (∀ j, u.policy j =
        if j = i then { s.policy i with adminEnable := !(s.policy i).adminEnable } else s.policy j) ∧
      ((s.policy i).adminEnable = true →
        ((s.slot i).state.drainable = true →
          exec (.adminEnableWrite i false) s = .next (u.startDrain i .admin .disabled .none)) ∧
        ((s.slot i).state = .draining →
          ∃ v : State, exec (.adminEnableWrite i false) s = .next v ∧ v = { u with slots := v.slots } ∧
            ∀ j, v.slot j =
              if j = i then
                { s.slot i with
                  drainCause := .admin, drainNext := if (s.slot i).drainNext = .empty then .empty else .disabled,
                  faultCause := if (s.slot i).drainNext = .empty then (s.slot i).faultCause else .none }
              else s.slot j) ∧
        ((s.slot i).state = .disabled → exec (.adminEnableWrite i false) s = .next u) ∧
        ((s.slot i).state = .powerWait → s.hasEntry i .boot = true →
          ∃ v t : State, exec (.adminEnableWrite i false) s = .next t ∧
            v = { u with
              slots := v.slots, powerQueue := s.powerQueue.filter fun e => !(e.slot = i && e.kind = .boot) } ∧
            (∀ j, v.slot j =
              if j = i then { s.slot i with hold := none, debounce := none, retry := none } else s.slot j) ∧
            v.arbiter.entersDisabled t i) ∧
        ((s.slot i).state ∈ [SlotState.empty, .debounce, .present, .heldPower, .fault] →
          ∃ v t : State, exec (.adminEnableWrite i false) s = .next t ∧ v = { u with slots := v.slots } ∧
            (∀ j, v.slot j =
              if j = i then { s.slot i with hold := none, debounce := none, retry := none } else s.slot j) ∧
            v.entersDisabled t i)) ∧
      ((s.policy i).adminEnable = false →
        ((s.slot i).state ≠ .disabled → exec (.adminEnableWrite i true) s = .next u) ∧
        ((s.slot i).state = .disabled → i = slot15 → s.chassis.roleSetting = .stack →
          exec (.adminEnableWrite i true) s = .next u) ∧
        ((s.slot i).state = .disabled → (i = slot15 → s.chassis.roleSetting = .slot) →
          ∃ t : State, exec (.adminEnableWrite i true) s = .next t ∧ u.entersEmpty t i ∧
            u.disableCondition i = false))

/-- ROLE_SETTING_STACK_WRITE and ROLE_SETTING_SLOT_WRITE (R20, R25, R130, R131, R132, R148): a write of the present
setting changes nothing. A write of STACK moves slot 15 as a disabling write does: in DISABLED, port 15 takes the STACK
role at once; a slot 15 that can drain drains with cause ADMIN, and the port role stays SLOT; a DRAINING one takes cause
ADMIN and, unless its next state is EMPTY, next state DISABLED; any other is placed in DISABLED, and port 15 takes the
STACK role there. In the STACK role U4's hold-down starts where its link is up, or with a hold-down time of 0 U4 is
usable at once. A write of SLOT in the SLOT role changes the setting alone; in the STACK role it gives the SLOT role
back with U4 not usable and the active lists recomputed, and takes a DISABLED slot 15 whose admin_enable is 1 to EMPTY,
or on to DEBOUNCE.That a write which finds a drain under way makes its cause ADMIN even where the condition held before
is the model's inference (notes/assumptions/23.md). That what begins or is cleared at the entry to a state stands so
when its state change event is raised is the model's choice (notes/assumptions/35.md). That a course through several
states raises one such event, for the last, is the model's inference (notes/assumptions/24.md). That entry to DISABLED
clears the blade's records before the state changes is the model's inference (notes/assumptions/21.md). That the arbiter
runs before the slot leaves POWER_WAIT is the model's choice (notes/assumptions/43.md). That port 15 takes the STACK
role after slot 15's event is the model's choice (notes/assumptions/44.md). -/
def Obligations.RoleSettingMovesPort15 : Prop :=
  ∀ s : State,
    (s.chassis.roleSetting = .stack → exec .roleSettingStackWrite s = .next s) ∧
    (s.chassis.roleSetting = .slot → exec .roleSettingSlotWrite s = .next s) ∧
    (s.chassis.roleSetting = .slot → s.portRole = .slot →
      ∃ u : State, u = { s with chassis := { s.chassis with roleSetting := .stack } } ∧
        ((s.slot slot15).state = .disabled →
          ∃ t : State, exec .roleSettingStackWrite s = .next t ∧ u.stackTaken t) ∧
        ((s.slot slot15).state.drainable = true →
          exec .roleSettingStackWrite s = .next (u.startDrain slot15 .admin .disabled .none) ∧
          (u.startDrain slot15 .admin .disabled .none).portRole = .slot) ∧
        ((s.slot slot15).state = .draining →
          ∃ v : State, exec .roleSettingStackWrite s = .next v ∧ v = { u with slots := v.slots } ∧
            ∀ j, v.slot j =
              if j = slot15 then
                { s.slot j with
                  drainCause := .admin, drainNext := if (s.slot j).drainNext = .empty then .empty else .disabled,
                  faultCause := if (s.slot j).drainNext = .empty then (s.slot j).faultCause else .none }
              else s.slot j) ∧
        ((s.slot slot15).state = .powerWait → s.hasEntry slot15 .boot = true →
          ∃ v t : State, exec .roleSettingStackWrite s = .next t ∧
            v = { u with
              slots := v.slots,
              powerQueue := s.powerQueue.filter fun e => !(e.slot = slot15 && e.kind = .boot) } ∧
            (∀ j, v.slot j =
              if j = slot15 then { s.slot j with hold := none, debounce := none, retry := none } else s.slot j) ∧
            v.arbiter.entersDisabled t slot15 ∧ t.portRole = .stack) ∧
        ((s.slot slot15).state ∈ [SlotState.empty, .debounce, .present, .heldPower, .fault] →
          ∃ v t : State, exec .roleSettingStackWrite s = .next t ∧ v = { u with slots := v.slots } ∧
            (∀ j, v.slot j =
              if j = slot15 then { s.slot j with hold := none, debounce := none, retry := none } else s.slot j) ∧
            v.entersDisabled t slot15 ∧ t.portRole = .stack)) ∧
    (s.chassis.roleSetting = .stack → s.portRole = .slot →
      exec .roleSettingSlotWrite s = .next { s with chassis := { s.chassis with roleSetting := .slot } }) ∧
    (s.chassis.roleSetting = .stack → s.portRole = .stack →
      ∃ u : State,
        u = { s with
          portRole := .slot, chassis := { s.chassis with roleSetting := .slot }, uplinks := u.uplinks,
          groups := u.groups, notices := u.notices, spacing := u.spacing, noticeSeq := u.noticeSeq,
          sent := u.sent } ∧
        (∀ k, u.uplink k = if k = uplink4 then ⟨none, false⟩ else s.uplink k) ∧
        ((s.uplink uplink4).usable = false → u.groups = s.groups) ∧
        ((s.uplink uplink4).usable = true →
          ∀ g, (u.group g).mode = (s.group g).mode ∧ (u.group g).members = (s.group g).members ∧
            (uplink4 ∈ (s.group g).members →
              (u.group g).active = (s.group g).members.filter fun k => (u.uplink k).usable) ∧
            (uplink4 ∉ (s.group g).members → u.group g = s.group g)) ∧
        ((s.slot slot15).state ≠ .disabled ∨ (s.policy slot15).adminEnable = false →
          exec .roleSettingSlotWrite s = .next u) ∧
        ((s.slot slot15).state = .disabled → (s.policy slot15).adminEnable = true →
          ∃ t : State, exec .roleSettingSlotWrite s = .next t ∧ u.entersEmpty t slot15 ∧
            u.disableCondition slot15 = false))

/-! ### Settings written field by field -/

/-- MIN_DEMAND_WRITE, STALE_LIMIT_WRITE, RATE_CODE_WRITE and BUCKET_DEPTH_WRITE (R101, R105, R110, R162): a min demand
is brought into its range and raises a command that stands below it; a stale limit is brought into its range, a slot
with the critical flag set, a sensor that turns stale by it and every sensor cool under it has the flag, the grace timer
and the thermal cap cleared, every other thermal record stands, and where no critical flag is set nothing but the
setting changes; rate codes are stored, and the wanted code becomes the pending code unless it is in effect; and a
BUCKET_DEPTH_WRITE out of its range acts as one of the nearer end. That a row's operand is brought into its range as a
written item's is, is the model's inference (notes/assumptions/30.md). -/
def Obligations.FieldWritesTakeEffect : Prop :=
  (∀ (s : State) (z : ZoneId) (w : Nat),
    ∃ t : State, exec (.minDemandWrite z w) s = .next t ∧ t = { s with zones := t.zones } ∧
      ∀ y, t.zone y =
        if y = z then
          { s.zone z with minDemand := min 1000 w, command := max (s.zone z).command (min 1000 w) }
        else s.zone y) ∧
  (∀ (s : State) (w limit : Nat), limit = max 500 (min 60000 w) →
    ∃ t : State, exec (.staleLimitWrite w) s = .next t ∧
      t.chassis = { s.chassis with staleLimit := limit } ∧ t.fans = s.fans ∧ t.psus = s.psus ∧
      ((∀ i, (s.thermalOf i).critical = false) →
        t = { s with chassis := { s.chassis with staleLimit := limit } }) ∧
      ∀ i,
        ((s.thermalOf i).critical = true →
          (∃ x ∈ (s.thermalOf i).sensors, x.stale s.chassis.staleLimit = false ∧ x.stale limit = true) →
          (∀ x ∈ (s.thermalOf i).sensors, x.cool limit = true) →
          t.thermalOf i = { s.thermalOf i with critical := false, grace := none } ∧
          (t.grantOf i).thermalCap = false) ∧
        ((s.thermalOf i).critical = false ∨
            (∀ x ∈ (s.thermalOf i).sensors, x.stale s.chassis.staleLimit = true ∨ x.stale limit = false) ∨
            (∃ x ∈ (s.thermalOf i).sensors, x.cool limit = false) →
          t.thermalOf i = s.thermalOf i ∧ (t.grantOf i).thermalCap = (s.grantOf i).thermalCap)) ∧
  (∀ (s : State) (i : SlotId) (rate cap : RateCode),
    ∃ t : State, exec (.rateCodeWrite i rate cap) s = .next t ∧
      t = { s with uplinkMap := t.uplinkMap, meters := t.meters } ∧
      (∀ j, t.map j = if j = i then { s.map i with rate := rate, capRate := cap } else s.map j) ∧
      ∀ j, t.meter j =
        if j = i then
          { s.meter i with
            pending :=
              if (if (s.grantOf i).capped then cap else rate) = (s.meter i).effective then none
              else some (if (s.grantOf i).capped then cap else rate) }
        else s.meter j) ∧
  ∀ (s : State) (i : SlotId) (kib : Nat),
    exec (.bucketDepthWrite i kib) s = exec (.bucketDepthWrite i (max 1 (min 256 kib))) s

/-- BUCKET_DEPTH_WRITE (R163): the depth changes at once; tokens above it are lowered to it and tokens below it stand;
the two codes stand, a pending code among them; and the next refills go to the new depth. -/
def Obligations.DepthWriteLimitsTokens : Prop :=
  ∀ (s : State) (i : SlotId) (kib : Nat), 1 ≤ kib → kib ≤ 256 →
    ∃ t : State, exec (.bucketDepthWrite i kib) s = .next t ∧
      t = { s with uplinkMap := t.uplinkMap, meters := t.meters } ∧
      (∀ j, t.map j = if j = i then { s.map i with depth := kib } else s.map j) ∧
      (∀ j, j ≠ i → t.meter j = s.meter j) ∧
      (1024 * kib < (s.meter i).tokens → t.meter i = { s.meter i with tokens := 1024 * kib }) ∧
      ((s.meter i).tokens ≤ 1024 * kib → t.meter i = s.meter i) ∧
      ((t.meter i).pending = none →
        ∃ v : State, exec .epoch t = .next v ∧
          ((t.meter i).effective = 0 → (v.meter i).tokens = 1024 * kib) ∧
          ((t.meter i).effective ≠ 0 → (t.meter i).effective ≠ 15 →
            (v.meter i).tokens = min (1024 * kib) ((t.meter i).tokens + refillBytes (t.meter i).effective)))

/-- MEMBER_LIST_WRITE, CLASSIFY_ENTRY_WRITE, SERVICE_ETHERTYPE_WRITE and NOTICE_CFG_WRITE (R140, R149, R150, R173, R176,
R180, R183): a member list of at most four is stored without its repeats, and the active list is its usable members, in
order; a longer one changes nothing; a Classification Table entry is replaced whole; an EtherType below 0x0600 or equal
to the tag type changes nothing, and any other takes effect; the notice configuration is stored, with the spacing
brought into its range, enable 0 empties the queue, and a send is attempted. That a row's operand is brought into its
range as a written item's is, is the model's inference (notes/assumptions/30.md). -/
def Obligations.TableWritesTakeEffect : Prop :=
  (∀ (s : State) (g : GroupId) (members : List UplinkId),
    (4 < members.length → exec (.memberListWrite g members) s = .next s) ∧
    (members.length ≤ 4 →
      ∃ t : State, exec (.memberListWrite g members) s = .next t ∧
        t = { s with
          groups := t.groups, notices := t.notices, spacing := t.spacing, noticeSeq := t.noticeSeq,
          sent := t.sent } ∧
        (∀ h, h ≠ g → t.group h = s.group h) ∧ (t.group g).mode = (s.group g).mode ∧
        (t.group g).members = firstMentions [] members ∧
        (t.group g).active = (firstMentions [] members).filter (fun u => (s.uplink u).usable) ∧
        (t.group g).members.Nodup ∧ ∀ u, u ∈ (t.group g).members ↔ u ∈ members)) ∧
  (∀ (s : State) (k : Fin 64) (e : ClassEntry),
    ∃ t : State, exec (.classifyEntryWrite k e) s = .next t ∧ t = { s with classify := t.classify } ∧
      ∀ j, t.classEntry j = if j = k then e else s.classEntry j) ∧
  (∀ (s : State) (v : BitVec 16),
    (v.toNat < 0x0600 ∨ v = 0x8100#16 → exec (.serviceEthertypeWrite v) s = .next s) ∧
    (0x0600 ≤ v.toNat → v ≠ 0x8100#16 →
      exec (.serviceEthertypeWrite v) s = .next { s with chassis := { s.chassis with etherType := v } })) ∧
  (∀ (s : State) (c : NoticeCfg),
    ∃ u : State, exec (.noticeCfgWrite c) s = .next u.attemptSend ∧
      u = { s with noticeCfg := { c with spacing := min 1000 c.spacing }, notices := u.notices } ∧
      u.notices = if c.enable then s.notices else [])

/-! ### Announcement and inventory -/

/-- ANNOUNCE, fragment by fragment (R47 to R52, R67, R133): for a CLOSED context it is dropped; an open one notes the
sender; the expected fragment, consistent and with room, is appended, and where it is not the last a GAP deadline
starts; a fragment below the expected index changes nothing else; a malformed one, one above the expected index, and one
that fails the consistency or the room test is rejected with a RESEND of the expected index; and the fourth reject is
answered REFUSE with REJECT_LIMIT and closes the context, upon which a window's ANNOUNCING slot drains with cause
ANNOUNCE_REJECTED, and a refresh raises its failure event. That a fragment 0 which fails the room test stays declared is
the model's inference (notes/assumptions/33.md). That a frame on a port whose link is down acts as on one whose link is
up is the model's choice (notes/assumptions/37.md). That the expected fragment may reach 4 within a handling is the
model's inference (notes/assumptions/45.md). -/
def Obligations.AnnounceTakesFragments : Prop :=
  ∀ (s : State) (i : SlotId) (f : ServiceFrame), s.addressedToPart f.dst = true → s.servesSlot i = true →
    ((s.context i).mode = .closed → exec (.announce i f) s = .next s) ∧
    ((s.context i).mode ≠ .closed →
      (∃ u : State, u = { s with contexts := u.contexts, sent := u.sent } ∧
        (∀ j, j ≠ i → u.context j = s.context j) ∧
        (fragmentWellFormed f.payload = true → nat8At f.payload 2 = (s.context i).expected →
          (s.context i).consistent (nat8At f.payload 0) (nat8At f.payload 1) = true →
          (s.context i).hasRoom (nat8At f.payload 0) (f.payload.length - 3) = true →
          nat8At f.payload 2 + 1 ≠ nat8At f.payload 1 →
          exec (.announce i f) s = .next u ∧ u.sent = s.sent ∧
          u.context i =
            { s.context i with
              replyAddr := some f.src, replySeq := f.sequence, declaredLength := some (nat8At f.payload 0),
              declaredCount := some (nat8At f.payload 1), assembly := (s.context i).assembly ++ f.payload.drop 3,
              expected := (s.context i).expected + 1,
              pending := some ⟨.gap, s.clock + s.chassis.gapTimeout⟩ }) ∧
        (fragmentWellFormed f.payload = true → nat8At f.payload 2 < (s.context i).expected →
          exec (.announce i f) s = .next u ∧ u.sent = s.sent ∧
          u.context i = { s.context i with replyAddr := some f.src, replySeq := f.sequence }) ∧
        (s.fragmentRefused i f.payload ∨ s.fragmentTooLong i f.payload → (s.context i).rejects < 3 →
          exec (.announce i f) s = .next u ∧
          u.sent =
            (if s.link (slotPort i) then
              s.sent ++ [⟨slotPort i, .announceReply,
                s.serviceFrame f.src kindAnnounceReply f.sequence [1#8, byte1 (s.context i).expected]⟩]
            else s.sent) ∧
          ∃ c : Context,
            (s.fragmentRefused i f.payload → c = s.context i) ∧
            (s.fragmentTooLong i f.payload →
              c = { s.context i with
                declaredLength := some (nat8At f.payload 0), declaredCount := some (nat8At f.payload 1) }) ∧
            u.context i =
              { c with
                replyAddr := some f.src, replySeq := f.sequence, rejects := (s.context i).rejects + 1,
                pending :=
                  if (s.context i).pendingFirst then (s.context i).pending
                  else some ⟨.gap, s.clock + s.chassis.gapTimeout⟩ })) ∧
      (s.fragmentRefused i f.payload ∨ s.fragmentTooLong i f.payload → 3 ≤ (s.context i).rejects →
        ∃ u : State, s.refused u i f .rejectLimit ∧
          ((s.context i).mode = .window → (s.slot i).state = .announcing →
            exec (.announce i f) s = .next (u.startDrain i .fault .fault .announceRejected)) ∧
          ((s.context i).mode = .refresh →
            exec (.announce i f) s = .next (u.raise (.refreshFailed i .rejectLimit)))))

/-- ANNOUNCE, the last fragment (R52, R53, R58, R61 to R64, R67, R98). An assembly that is short of its declared length,
or whose CRC does not match, is one reject: RESEND of index 0 and a fresh assembly, or at the fourth REFUSE with
REJECT_LIMIT. A record that does not validate is refused with BAD_RECORD. Either refusal closes the context, and an
ANNOUNCING slot drains to FAULT with its cause, while a refresh raises its failure event. A good record is stored with
the next generation, its sensor limits repaired; the Station Table is updated from it; the thermal record is rebuilt
from it; the declared power becomes the target; ACCEPT is sent where the link is up; the context is CLOSED; and an
ANNOUNCING slot is in HELD_ONLINE or ONLINE, while after a refresh the slot stays in its state. The premise that the
slot has no BOOT entry follows from State.lifecycleLawful. That the accepted event comes before the slot's move is the
model's choice (notes/assumptions/18.md). The Station Table (R63, R158 to R160): an offering is answered INVALID,
CONFLICT or INSTALLED, the last at the lowest free index; a repeated address of a list is INVALID and a kept entry stays
INSTALLED, neither being offered; the slot's entries that its list drops are removed; and a freed address goes to the
lowest-numbered slot that lists it CONFLICT and may hold it. That a frame on a port whose link is down acts as on one
whose link is up is the model's choice (notes/assumptions/37.md). -/
def Obligations.AnnounceAcceptsGoodRecord : Prop :=
  (∀ (s : State) (i : SlotId) (f : ServiceFrame) (record : List Byte),
    s.addressedToPart f.dst = true → s.servesSlot i = true → (s.context i).mode ≠ .closed →
    s.fragmentCompletes i f.payload → record = (s.context i).assembly ++ f.payload.drop 3 →
    (record.length ≠ nat8At f.payload 0 ∨ crcGood record = false →
      ((s.context i).rejects < 3 →
        ∃ u : State, exec (.announce i f) s = .next u ∧ u = { s with contexts := u.contexts, sent := u.sent } ∧
          (∀ j, u.context j =
            if j = i then
              { s.context i with
                expected := 0, declaredLength := none, declaredCount := none, assembly := [],
                rejects := (s.context i).rejects + 1, pending := some ⟨.gap, s.clock + s.chassis.gapTimeout⟩,
                replyAddr := some f.src, replySeq := f.sequence }
            else s.context j) ∧
          u.sent =
            (if s.link (slotPort i) then
              s.sent ++ [⟨slotPort i, .announceReply,
                s.serviceFrame f.src kindAnnounceReply f.sequence [1#8, 0#8]⟩]
            else s.sent)) ∧
      (3 ≤ (s.context i).rejects →
        ∃ u : State, s.refused u i f .rejectLimit ∧
          ((s.context i).mode = .window → (s.slot i).state = .announcing →
            exec (.announce i f) s = .next (u.startDrain i .fault .fault .announceRejected)) ∧
          ((s.context i).mode = .refresh →
            exec (.announce i f) s = .next (u.raise (.refreshFailed i .rejectLimit))))) ∧
    (record.length = nat8At f.payload 0 → crcGood record = true → readRecord record = none →
      ∃ u : State, s.refused u i f .badRecord ∧
        ((s.context i).mode = .window → (s.slot i).state = .announcing →
          exec (.announce i f) s = .next (u.startDrain i .fault .fault .badRecord)) ∧
        ((s.context i).mode = .refresh →
          exec (.announce i f) s = .next (u.raise (.refreshFailed i .badRecord)))) ∧
    ∀ r : Announced, record.length = nat8At f.payload 0 → crcGood record = true → readRecord record = some r →
      s.hasEntry i .boot = false →
      ∃ (t v w : State) (rec : InvRecord), exec (.announce i f) s = .next t ∧
        (t.inv i).record = some rec ∧
        (t.inv i).generation = (if (s.inv i).generation < 65535 then (s.inv i).generation + 1 else 1) ∧
        rec.generation = (t.inv i).generation ∧ rec.vendor = r.vendor ∧ rec.hwRev = r.hwRev ∧ rec.power = r.power ∧
        rec.model = r.model ∧ rec.serial = r.serial ∧ rec.firmware = r.firmware ∧
        rec.addrs.map ListedAddr.addr = r.addrs ∧ rec.sensors = r.sensors.map SensorLimits.repair ∧
        v = { s with contexts := v.contexts, inventory := v.inventory } ∧ (∀ j, j ≠ i → v.inv j = s.inv j) ∧
        (v.inv i).record = some { rec with addrs := r.addrs.map fun a => ⟨a, .invalid⟩ } ∧
        w = offerAll i [] r.addrs (v.removeStations i r.addrs) ∧ t.stations = w.stations ∧
        t.inventory = w.inventory ∧
        (t.thermalOf i).sensors = mergeSensors (s.thermalOf i).sensors (r.sensors.map SensorLimits.repair) ∧
        (t.context i).mode = .closed ∧
        (s.link (slotPort i) = true →
          (⟨slotPort i, .announceReply,
            s.serviceFrame f.src kindAnnounceReply f.sequence
              ([0#8] ++ be16 (t.inv i).generation ++
                [flag (decide (r.sensors.map SensorLimits.repair ≠ r.sensors))])⟩ : Sent) ∈ t.sent) ∧
        ((s.context i).mode = .window → (t.grantOf i).target = r.power) ∧
        ((s.context i).mode = .refresh → (s.inv i).record.map InvRecord.power ≠ some r.power →
          (t.grantOf i).target = r.power) ∧
        ((s.context i).mode = .window → (s.slot i).state = .announcing →
          (t.slot i).state = if (s.policy i).holdOnline then .heldOnline else .online) ∧
        ((s.context i).mode = .refresh → (t.slot i).state = (s.slot i).state)) ∧
  (∀ (s : State) (i : SlotId) (earlier : List Addr) (a : Addr) (rest : List Addr),
    ∃ (t u : State) (st : AddrStatus),
      offerAll i earlier (a :: rest) s = offerAll i (earlier ++ [a]) rest t ∧
      u = { s with stations := u.stations, inventory := u.inventory } ∧
      (∀ j, u.inv j =
        if j = i then
          { s.inv i with
            record := (s.inv i).record.map fun r =>
              { r with addrs := r.addrs.modify earlier.length fun x => { x with status := st } } }
        else s.inv j) ∧
      (a ∈ earlier → st = .invalid ∧ u.stations = s.stations ∧ t = u) ∧
      (a ∉ earlier → s.holder a = some i → st = .installed ∧ u.stations = s.stations ∧ t = u) ∧
      (a ∉ earlier → s.holder a ≠ some i → t = u.raise (.addressChange i) ∧
        (groupBit a = true ∨ a = 0#48 → st = .invalid ∧ u.stations = s.stations) ∧
        (groupBit a = false → a ≠ 0#48 → s.holder a ≠ none → st = .conflict ∧ u.stations = s.stations) ∧
        (groupBit a = false → a ≠ 0#48 → s.holder a = none → st = .installed ∧
          ∀ k, s.station k = none → (∀ j, j < k → s.station j ≠ none) →
            ∀ j, u.station j = if j = k then some ⟨a, i⟩ else s.station j))) ∧
  (∀ (s : State) (a : Addr), s.holder a = none ↔ ∀ k x, s.station k = some x → x.addr ≠ a) ∧
  (∀ (s : State) (i : SlotId) (keep : List Addr), (∀ a, a ∉ keep → s.seeks a i = false) →
    (∀ k x, (s.removeStations i keep).station k = some x → x.slot = i → x.addr ∈ keep) ∧
    ∀ k x, s.station k = some x → x.slot ≠ i ∨ x.addr ∈ keep → (s.removeStations i keep).station k = some x) ∧
  ∀ (s : State) (k : Fin 64) (e : Station), s.station k = some e →
    ∃ u w : State, u = { s with stations := u.stations } ∧
      (∀ j, u.station j = if j = k then none else s.station j) ∧ w = u.raise (.addressChange e.slot) ∧
      ((∀ i, s.seeks e.addr i = false) → s.removeStation k e = w) ∧
      ∀ i m, s.seeks e.addr i = true → (∀ j, j < i → s.seeks e.addr j = false) → u.station m = none →
        (∀ j, j < m → u.station j ≠ none) →
        (s.slot i).state ∉ [SlotState.empty, .debounce, .disabled] ∧
        ∃ (v : State) (r : InvRecord), s.removeStation k e = v.raise (.addressChange i) ∧
          v = { w with stations := v.stations, inventory := v.inventory } ∧
          (∀ j, v.station j = if j = m then some ⟨e.addr, i⟩ else u.station j) ∧
          (s.inv i).record = some r ∧ (⟨e.addr, .conflict⟩ : ListedAddr) ∈ r.addrs ∧
          ∀ j, v.inv j =
            if j = i then
              { s.inv i with
                record := some { r with
                  addrs := r.addrs.map fun x =>
                    if x.addr = e.addr ∧ x.status = .conflict then ⟨e.addr, .installed⟩ else x } }
            else s.inv j

/-- WAIT_EXTEND and ANNOUNCE_DEADLINE_EXPIRY (R47, R52, R55, R56, R57, R67): an extension moves the pending deadline
later by the clamped time, at most four times, and changes nothing else but the sender noted; the expiry of a pending or
whole deadline whose due time is reached sends REFUSE with reason TIMEOUT and closes the context, upon which a window's
ANNOUNCING slot drains with cause ANNOUNCE_TIMEOUT, and a refresh raises its failure event. An expiry while neither
deadline is due, one whose deadline has been moved among them, does not occur and changes nothing. Due times are judged
by the model's clock of whole milliseconds, which is the model's choice (notes/assumptions/4.md), and so is that a
command which stands for no event changes nothing (notes/assumptions/2.md). That a frame on a port whose link is down
acts as on one whose link is up is the model's choice (notes/assumptions/37.md). -/
def Obligations.AnnounceDeadlinesExtendAndExpire : Prop :=
  (∀ (s : State) (i : SlotId) (f : ServiceFrame), s.addressedToPart f.dst = true → s.servesSlot i = true →
    ((s.context i).mode = .closed → exec (.waitExtend i f) s = .next s) ∧
    ((s.context i).mode ≠ .closed →
      ∃ t : State, exec (.waitExtend i f) s = .next t ∧ t = { s with contexts := t.contexts } ∧
        (∀ j, j ≠ i → t.context j = s.context j) ∧
        (2 ≤ f.payload.length → (s.context i).extensions < 4 →
          t.context i =
            { s.context i with
              replyAddr := some f.src, replySeq := f.sequence, extensions := (s.context i).extensions + 1,
              pending := (s.context i).pending.map fun d =>
                ⟨d.kind, d.due + max 1 (min 10000 (nat16At f.payload 0))⟩ }) ∧
        (f.payload.length < 2 ∨ 4 ≤ (s.context i).extensions →
          t.context i = { s.context i with replyAddr := some f.src, replySeq := f.sequence }))) ∧
  (∀ (s : State) (i : SlotId),
    ((s.context i).mode = .closed → exec (.announceDeadlineExpiry i) s = .next s) ∧
    ((∀ d, (s.context i).pending = some d → s.clock < d.due) → (∀ w, (s.context i).whole = some w → s.clock < w) →
      exec (.announceDeadlineExpiry i) s = .next s) ∧
    ((s.context i).mode ≠ .closed →
      (∃ d, (s.context i).pending = some d ∧ d.due ≤ s.clock) ∨ (∃ w, (s.context i).whole = some w ∧ w ≤ s.clock) →
      ∃ u : State, u = { s with contexts := u.contexts, sent := u.sent } ∧
        (∀ j, j ≠ i → u.context j = s.context j) ∧ (u.context i).mode = .closed ∧ (u.context i).pending = none ∧
        (u.context i).whole = none ∧
        u.sent =
          (if s.link (slotPort i) then
            s.sent ++ [⟨slotPort i, .announceReply,
              s.serviceFrame ((s.context i).replyAddr.getD (BitVec.allOnes 48)) kindAnnounceReply
                (s.context i).replySeq [2#8, 0#8]⟩]
          else s.sent) ∧
        ((s.context i).mode = .window → (s.slot i).state = .announcing →
          exec (.announceDeadlineExpiry i) s = .next (u.startDrain i .fault .fault .announceTimeout)) ∧
        ((s.context i).mode = .refresh →
          exec (.announceDeadlineExpiry i) s = .next (u.raise (.refreshFailed i .timeout)))))

/-! ### Thermal records -/

/-- TELEMETRY, SENSOR_STALE and CRITICAL_GRACE_EXPIRY (R99 to R101, R104 to R106): a telemetry payload is taken reading
by reading, each in full before the next; a malformed one, or one of a slot that is not ONLINE, changes nothing, and
neither does a reading of an id that is no sensor's. A reading in range is stored with age 0; one out of range leaves
its sensor INVALID, one without a reading too, which is the model's inference (notes/assumptions/13.md). With the
critical flag clear, a stored reading at or above its limit sets it and the thermal cap and starts the grace timer, the
grant not releasing. With the flag set, a reading that leaves every sensor cool clears the flag, the grace timer and the
thermal cap, and any other leaves them. An age that passes the limit leaves its sensor stale, and makes the same clear
test: with every other sensor cool the flag, the grace timer and the thermal cap are cleared, and with another sensor
not cool all three stand. An expired grace timer, the flag still set, drains an ONLINE slot to FAULT with cause THERMAL.
The age SENSOR_STALE leaves is the model's choice (notes/assumptions/28.md), and so is that a command which stands for
no event changes nothing (notes/assumptions/2.md). That a frame on a port whose link is down acts as on one whose link
is up is the model's choice (notes/assumptions/37.md). -/
def Obligations.ReadingsMoveThermalRecord : Prop :=
  (∀ (s : State) (i : SlotId) (f : ServiceFrame),
    (telemetryWellFormed f.payload = false ∨ (s.slot i).state ≠ .online → exec (.telemetry i f) s = .next s) ∧
    ((s.identityOf f.dst).isSome = true → s.servesSlot i = true → (s.slot i).state = .online →
      exec (.telemetry i f) s = .next (s.takeTelemetry i f.payload)) ∧
    ∀ (id : SensorId) (b : Byte) (x : Sensor), f.payload = [1#8, byte1 id.val, b] →
      (s.identityOf f.dst).isSome = true → s.servesSlot i = true → (s.slot i).state = .online →
      (s.thermalOf i).find id = some x → (s.thermalOf i).critical = false →
      (-40 ≤ b.toInt → b.toInt ≤ 125 → b.toInt < x.limits.crit →
        ∃ t : State, exec (.telemetry i f) s = .next t ∧ t = { s with thermal := t.thermal } ∧
          (∀ j, j ≠ i → t.thermalOf j = s.thermalOf j) ∧
          (t.thermalOf i).sensors =
            (s.thermalOf i).sensors.map (fun y =>
              if y.limits.id = id then { y with last := some ⟨b.toInt, 0⟩, validity := .valid } else y) ∧
          (t.thermalOf i).critical = false ∧ (t.thermalOf i).grace = (s.thermalOf i).grace) ∧
      (-40 ≤ b.toInt → b.toInt ≤ 125 → x.limits.crit ≤ b.toInt → (s.grantOf i).releasing = false →
        ∃ t : State, exec (.telemetry i f) s = .next t ∧ (t.thermalOf i).critical = true ∧
          (t.thermalOf i).grace = s.timer s.chassis.criticalGrace ∧ (t.grantOf i).thermalCap = true) ∧
      (b.toInt < -40 ∨ 125 < b.toInt →
        ∃ t : State, exec (.telemetry i f) s = .next t ∧ t = { s with thermal := t.thermal } ∧
          (∀ j, j ≠ i → t.thermalOf j = s.thermalOf j) ∧
          (t.thermalOf i).sensors =
            (s.thermalOf i).sensors.map (fun y =>
              if y.limits.id = id then { y with validity := .invalid } else y) ∧
          (t.thermalOf i).critical = false)) ∧
  (∀ (s : State) (i : SlotId) (n : Nat) (a b : Byte) (rest : List Byte), 1 ≤ n → n ≤ 3 → rest.length = 2 * n →
    s.takeTelemetry i (byte1 (n + 1) :: a :: b :: rest) =
      (s.takeTelemetry i [1#8, a, b]).takeTelemetry i (byte1 n :: rest)) ∧
  (∀ (s : State) (i : SlotId) (a b : Byte),
    (∀ id, byte1 id.val = a → (s.thermalOf i).find id = none) → s.takeTelemetry i [1#8, a, b] = s) ∧
  (∀ (s : State) (i : SlotId) (id : SensorId) (b : Byte) (xs : List Sensor),
    ((s.thermalOf i).find id).isSome = true → (s.thermalOf i).critical = true →
    xs = (s.thermalOf i).sensors.map (fun y =>
      if y.limits.id = id then
        if -40 ≤ b.toInt ∧ b.toInt ≤ 125 then { y with last := some ⟨b.toInt, 0⟩, validity := .valid }
        else { y with validity := .invalid }
      else y) →
    ((∃ y ∈ xs, y.cool s.chassis.staleLimit = false) →
      ∃ t : State, s.takeTelemetry i [1#8, byte1 id.val, b] = t ∧ t = { s with thermal := t.thermal } ∧
        ∀ j, t.thermalOf j = if j = i then { s.thermalOf i with sensors := xs } else s.thermalOf j) ∧
    ((∀ y ∈ xs, y.cool s.chassis.staleLimit = true) →
      ∃ u : State, s.takeTelemetry i [1#8, byte1 id.val, b] = u.clearThermalCap i ∧ u = { s with thermal := u.thermal } ∧
        (∀ j, u.thermalOf j =
          if j = i then { sensors := xs, critical := false, grace := none } else s.thermalOf j) ∧
        ((u.clearThermalCap i).grantOf i).thermalCap = false)) ∧
  (∀ (s : State) (i : SlotId) (id : SensorId), s.chassis.staleLimit < 65535 →
    ((s.thermalOf i).validSensor id = false → exec (.sensorStale i id) s = .next s) ∧
    ((s.thermalOf i).validSensor id = true →
      ∃ t : State, exec (.sensorStale i id) s = .next t ∧
        (∀ x ∈ (t.thermalOf i).sensors, x.limits.id = id → x.stale s.chassis.staleLimit = true) ∧
        ((s.thermalOf i).critical = false → t = { s with thermal := t.thermal }) ∧
        ((∃ x ∈ (s.thermalOf i).sensors, x.limits.id ≠ id ∧ x.cool s.chassis.staleLimit = false) →
          t = { s with thermal := t.thermal } ∧ (∀ j, j ≠ i → t.thermalOf j = s.thermalOf j) ∧
          (t.thermalOf i).critical = (s.thermalOf i).critical ∧ (t.thermalOf i).grace = (s.thermalOf i).grace ∧
          (t.grantOf i).thermalCap = (s.grantOf i).thermalCap ∧
          (t.thermalOf i).sensors.filter (fun x => x.limits.id ≠ id) =
            (s.thermalOf i).sensors.filter (fun x => x.limits.id ≠ id)) ∧
        ((s.thermalOf i).critical = true →
          (∀ x ∈ (s.thermalOf i).sensors, x.limits.id = id ∨ x.cool s.chassis.staleLimit = true) →
          (t.thermalOf i).critical = false ∧ (t.thermalOf i).grace = none ∧ (t.grantOf i).thermalCap = false))) ∧
  (∀ (s : State) (i : SlotId),
    ((s.thermalOf i).grace = none → exec (.criticalGraceExpiry i) s = .next s) ∧
    ((s.thermalOf i).grace ≠ none → (s.thermalOf i).critical = true → (s.slot i).state = .online →
      ∃ u : State, exec (.criticalGraceExpiry i) s = .next (u.startDrain i .thermal .fault .thermal) ∧
        u = { s with thermal := u.thermal } ∧
        ∀ j, u.thermalOf j = if j = i then { s.thermalOf i with grace := none } else s.thermalOf j))

/-! ### Fans -/

/-- CONTROL_INTERVAL, the zone records (R115, R116, and R114 for the forced mark): the target is the largest of the min
demand and the sixteen contributions, stored whether the zone is forced or not; the command is 1000 for a forced zone,
and otherwise the larger of the min demand and the slewed value. Fan faults are those that step 1 leaves. -/
def Obligations.IntervalSetsZoneCommand : Prop :=
  ∀ s : State, ∃ t : State, exec .controlInterval s = .next t ∧
    ∀ z, (t.zone z).minDemand = (s.zone z).minDemand ∧ (t.zone z).slewUp = (s.zone z).slewUp ∧
      (t.zone z).slewDown = (s.zone z).slewDown ∧ (t.zone z).stopAllowed = (s.zone z).stopAllowed ∧
      (t.zone z).forced =
        (s.interlock || (zoneFans z).any fun f => !(s.fan f).present || (t.fan f).faulted) ∧
      (t.zone z).target =
        (allSlots.map fun i => s.slotDemand i * Tab.get (s.policy i).weights z / 8).foldl max (s.zone z).minDemand ∧
      (∀ i, s.slotDemand i ≤ 1000 → Tab.get (s.policy i).weights z ≤ 8 →
        s.slotDemand i * Tab.get (s.policy i).weights z ≤ 8000 ∧
        s.slotDemand i * Tab.get (s.policy i).weights z / 8 ≤ 1000) ∧
      (∀ i, (s.slot i).state.powered = false →
        s.slotDemand i * Tab.get (s.policy i).weights z / 8 = 0) ∧
      ((t.zone z).forced = true → (t.zone z).command = 1000) ∧
      ((t.zone z).forced = false →
        ((s.zone z).command < (t.zone z).target →
          (t.zone z).command =
            max (s.zone z).minDemand (min (t.zone z).target ((s.zone z).command + (s.zone z).slewUp))) ∧
        ((t.zone z).target < (s.zone z).command →
          (t.zone z).command =
            max (s.zone z).minDemand (max (t.zone z).target ((s.zone z).command - (s.zone z).slewDown))) ∧
        ((t.zone z).target = (s.zone z).command →
          (t.zone z).command = max (s.zone z).minDemand (s.zone z).command))

/-- CONTROL_INTERVAL, the fan records (R113, R117 to R119, R122 to R124): a present fan has its rpm reported and
checked, then its drive applied at the base drive of its zone's new command, and the compare value loaded; an absent fan
is skipped; nothing but zones, fans and notices changes. The base drive for a command of 0 is 0 where the zone allows a
stop and the fan's min drive where it does not, and for any other command the larger of command and min drive. A start
kicks for two intervals with a grace of four; a drive of 0 stops; and the third low check in a row sets the fault, the
third good one clears it. -/
def Obligations.IntervalChecksAndDrivesFans : Prop :=
  (∀ s : State, ∃ t : State, exec .controlInterval s = .next t ∧
    t = { s with
      zones := t.zones, fans := t.fans, notices := t.notices, spacing := t.spacing, noticeSeq := t.noticeSeq,
      sent := t.sent } ∧
    ∀ f, ((s.fan f).present = false → t.fan f = s.fan f) ∧
      ((s.fan f).present = true →
        (t.fan f).rpm = rpmOf (s.fan f).period (s.fan f).pulses ∧
        t.fan f = (Fan.check { s.fan f with rpm := rpmOf (s.fan f).period (s.fan f).pulses }).driveStep
          (baseDrive (t.zone (fanZone f)).command (t.zone (fanZone f)).stopAllowed (s.fan f).minDrive))) ∧
  (∀ (command minDrive : Nat) (stopAllowed : Bool),
    (command = 0 → stopAllowed = true → baseDrive command stopAllowed minDrive = 0) ∧
    (command = 0 → stopAllowed = false → baseDrive command stopAllowed minDrive = minDrive) ∧
    (0 < command → command ≤ minDrive → baseDrive command stopAllowed minDrive = minDrive) ∧
    (0 < command → minDrive ≤ command → baseDrive command stopAllowed minDrive = command)) ∧
  (∀ (f : Fan) (base : Nat),
    (0 < base → f.drive = 0 → f.effective = 0 →
      f.driveStep base =
        { f with drive := 1000, kick := 1, grace := 4, tach := .armed, overflow := true, effective := 400,
                 pending := none }) ∧
    (0 < base → 0 < f.drive → 0 < f.kick →
      (f.driveStep base).drive = 1000 ∧ (f.driveStep base).kick = f.kick - 1 ∧
      (f.driveStep base).grace = f.grace) ∧
    (0 < base → 0 < f.drive → f.kick = 0 → 0 < f.effective →
      f.driveStep base = { f with drive := base, pending := some (base * 400 / 1000) }) ∧
    ((f.driveStep 0).drive = 0 ∧ (f.driveStep 0).kick = 0 ∧ (f.driveStep 0).grace = 0 ∧
      (f.driveStep 0).tach = .idle ∧ (0 < f.effective → (f.driveStep 0).pending = some 0))) ∧
  (∀ f : Fan,
    (0 < f.grace → f.check = { f with grace := f.grace - 1, low := 0, high := 0 }) ∧
    (f.grace = 0 → f.drive = 0 ∨ f.drive < f.minDrive → f.check = { f with low := 0, high := 0 }) ∧
    (f.grace = 0 → 0 < f.drive → f.minDrive ≤ f.drive → f.faulted = false →
      f.check =
        if f.faultFloor ≤ f.rpm then { f with low := 0 }
        else if 2 ≤ f.low then { f with faulted := true, low := 0, high := 0 }
        else { f with low := f.low + 1 }) ∧
    (f.grace = 0 → 0 < f.drive → f.minDrive ≤ f.drive → f.faulted = true →
      f.check =
        if f.rpm < f.faultFloor then { f with high := 0 }
        else if 2 ≤ f.high then { f with faulted := false, low := 0, high := 0 }
        else { f with high := f.high + 1 }))

/-- PWM_PERIOD_START, TACH_EDGE and OVERFLOW_TIMER_EXPIRY (R119 to R121): a period start puts a pending compare value in
effect; an edge moves ARMED to MEASURING, and in MEASURING completes a period of the microseconds since the reference
edge; an expired overflow timer leaves the period OVERFLOW and the tach ARMED; and an IDLE tach takes no edge. That a
command which stands for no event changes nothing is the model's choice (notes/assumptions/2.md). -/
def Obligations.PwmAndTachEvents : Prop :=
  ∀ (s : State) (f : FanId),
    (∃ t : State, exec (.pwmPeriodStart f) s = .next t ∧ t = { s with fans := t.fans } ∧
      ∀ g, t.fan g =
        if g = f ∧ (s.fan f).pending ≠ none then
          { s.fan f with effective := (s.fan f).pending.getD 0, pending := none }
        else s.fan g) ∧
    (∀ count : Fin 65535, ∃ t : State, exec (.tachEdge f count) s = .next t ∧ t = { s with fans := t.fans } ∧
      (∀ g, g ≠ f → t.fan g = s.fan g) ∧
      ((s.fan f).tach = .idle → t.fan f = s.fan f) ∧
      ((s.fan f).tach = .armed → t.fan f = { s.fan f with tach := .measuring, overflow := true }) ∧
      ((s.fan f).tach = .measuring →
        t.fan f = { s.fan f with period := .measured (count.val + 1), overflow := true })) ∧
    (∃ t : State, exec (.overflowTimerExpiry f) s = .next t ∧ t = { s with fans := t.fans } ∧
      ∀ g, t.fan g =
        if g = f ∧ (s.fan f).overflow = true then { s.fan f with period := .overflow, tach := .armed }
        else s.fan g)

/-- FAN_PRESENCE_DEASSERTED and FAN_PRESENCE_ASSERTED (R125, R126): the fan's working state is set as the rules give,
the settings stand, capacity is recomputed, and the event is raised. A level that does not change changes nothing. -/
def Obligations.FanPresenceRecomputes : Prop :=
  ∀ (s : State) (f : FanId),
    ((s.fan f).present = false → exec (.fanPresenceDeasserted f) s = .next s) ∧
    ((s.fan f).present = true → exec (.fanPresenceAsserted f) s = .next s) ∧
    ((s.fan f).present = true →
      ∃ u : State, exec (.fanPresenceDeasserted f) s = .next ((u.recapacity s.cAvail).raise (.fanPresenceChange f)) ∧
        u = { s with fans := u.fans } ∧
        ∀ g, u.fan g =
          if g = f then
            { s.fan f with
              present := false, drive := 0, kick := 0, grace := 0, tach := .idle, overflow := false,
              period := .none, low := 0, high := 0, faulted := false, rpm := 0,
              pending := if (s.fan f).effective = 0 then none else some 0 }
          else s.fan g) ∧
    ((s.fan f).present = false →
      ∃ u : State, exec (.fanPresenceAsserted f) s = .next ((u.recapacity s.cAvail).raise (.fanPresenceChange f)) ∧
        u = { s with fans := u.fans } ∧
        ∀ g, u.fan g =
          if g = f then
            { s.fan f with
              present := true, drive := 0, effective := 0, pending := none, kick := 0, grace := 0, tach := .idle,
              overflow := false, period := .none, low := 0, high := 0, faulted := false, rpm := 0 }
          else s.fan g)

/-! ### The frame path -/

/-- Service frames for the part, on slot ports and uplink ports (R130, R133, R134, R136, R138). A frame is for the part
where it is untagged, has the service EtherType in force and goes to an enabled identity's address, or, of kind ANNOUNCE
or WAIT_EXTEND, to broadcast. One whose version is other than 1, or that has none, is dropped and changes nothing, not
even a count. One of version 1 on a slot port is taken by its kind: ANNOUNCE, WAIT_EXTEND and REQUEST do what the
commands of those names do with its fields; TELEMETRY is read where the slot is ONLINE and dropped elsewhere; any other
kind is dropped and counted nowhere. On an uplink port a REQUEST does what REQUEST does there, and every other kind is
dropped. A frame that is not for the part goes on whatever its version. On port 15 the port role decides: in the STACK
role its frame is U4's, and in the SLOT role slot 15's, whichever of the two rows brings it, which is the model's
inference (notes/assumptions/29.md). Which bytes are a good FCS, and how short a frame is not complete, is in part
presumed (notes/assumptions/9.md, notes/assumptions/10.md). That a frame on a port whose link is down acts as on one
whose link is up is the model's choice (notes/assumptions/37.md). -/
def Obligations.OtherVersionsDropped : Prop :=
  ∀ (s : State) (i : SlotId) (u : UplinkId) (bytes : List Byte) (f : Received), receive bytes = some f →
    (s.forPart f = true ↔
      f.tag = none ∧ f.etherType = s.chassis.etherType ∧
      ((∃ k, (s.identity k).enabled = true ∧ (s.identity k).addr = f.dst) ∨
        (f.kind = some 4#8 ∨ f.kind = some 7#8) ∧ f.dst = BitVec.allOnes 48)) ∧
    (f.body.length < 6 → f.version = none ∧ f.kind = none) ∧
    (6 ≤ f.body.length →
      f.version = some (byteAt f.body 0) ∧ f.kind = some (byteAt f.body 1) ∧
      f.service = ⟨f.dst, f.src, nat16At f.body 2, (f.body.drop 6).take (nat16At f.body 4)⟩) ∧
    (i ≠ slot15 ∨ s.portRole = .slot →
      (s.forPart f = true → f.version ≠ some 1#8 → exec (.slotPortFrame i bytes) s = .next s) ∧
      (s.forPart f = true → f.version = some 1#8 →
        (f.kind = some 4#8 → exec (.slotPortFrame i bytes) s = exec (.announce i f.service) s) ∧
        (f.kind = some 7#8 → exec (.slotPortFrame i bytes) s = exec (.waitExtend i f.service) s) ∧
        (f.kind = some 8#8 →
          ((s.slot i).state = .online →
            exec (.slotPortFrame i bytes) s = exec (.telemetry i f.service) s ∧
            exec (.slotPortFrame i bytes) s = .next (s.takeTelemetry i f.service.payload)) ∧
          ((s.slot i).state ≠ .online → exec (.slotPortFrame i bytes) s = .next s)) ∧
        (f.kind = some 1#8 → exec (.slotPortFrame i bytes) s = exec (.request (slotPort i) f.service) s) ∧
        (f.kind ≠ some 1#8 → f.kind ≠ some 4#8 → f.kind ≠ some 7#8 → f.kind ≠ some 8#8 →
          exec (.slotPortFrame i bytes) s = .next s)) ∧
      (s.forPart f = false → s.gatePasses i f = true → exec (.slotPortFrame i bytes) s = .next (s.upstream i f))) ∧
    (u ≠ uplink4 ∨ s.portRole = .stack →
      (s.forPart f = true → f.version ≠ some 1#8 → exec (.uplinkPortFrame u bytes) s = .next s) ∧
      (s.forPart f = true → f.version = some 1#8 →
        (f.kind = some 1#8 → exec (.uplinkPortFrame u bytes) s = exec (.request (uplinkPort u) f.service) s) ∧
        (f.kind ≠ some 1#8 → exec (.uplinkPortFrame u bytes) s = .next s)) ∧
      (s.forPart f = false → actionOf (s.classifyFrame (uplinkPort u) f) ≠ .drop →
        exec (.uplinkPortFrame u bytes) s = .next (s.deliver u f))) ∧
    (s.portRole = .stack → exec (.slotPortFrame slot15 bytes) s = exec (.uplinkPortFrame uplink4 bytes) s) ∧
    (s.portRole = .slot → exec (.uplinkPortFrame uplink4 bytes) s = exec (.slotPortFrame slot15 bytes) s)

/-- SLOT_PORT_FRAME, ordinary traffic (R129, R135, R137, R141, R142, R144, R152, R153, R164): a frame that fails the
gate counts one gate drop and nothing else. One that passes is classified by the valid matching entry of lowest index,
FORWARD where there is none. A DROP changes nothing. A frame of action FORWARD_SNOOP that is a version 1 TELEMETRY
service frame is first read for the slot. Then the frame is policed at its length, and leaves on the uplink it is
steered to, its link up, with the slot's tag pushed where the tag is not 0; a frame beyond the tokens counts one police
drop. A FAILOVER group steers to the first of its active list, a SPREAD group by the sum of the bytes of the source
address, a REDIRECT to its uplink where that is usable. Which bytes are a good FCS, and how short a frame is not
complete, is in part presumed (notes/assumptions/9.md, notes/assumptions/10.md). That a frame on a port whose link is
down acts as on one whose link is up is the model's choice (notes/assumptions/37.md). -/
def Obligations.SlotFramesGatedPolicedSteered : Prop :=
  (∀ (s : State) (i : SlotId) (bytes : List Byte),
    (receive bytes = none → exec (.slotPortFrame i bytes) s = .next s) ∧
    ∀ f : Received, receive bytes = some f → s.servesSlot i = true → s.forPart f = false →
      ((s.slot i).state ≠ .online ∨ f.tag ≠ none ∨ s.holder f.src ≠ some i →
        ∃ t : State, exec (.slotPortFrame i bytes) s = .next t ∧ t = { s with gateDrops := t.gateDrops } ∧
          ∀ j, t.gateDrop j = if j = i then min 4294967295 (s.gateDrop i + 1) else s.gateDrop j) ∧
      ((s.slot i).state = .online → f.tag = none → s.holder f.src = some i →
        (actionOf (s.classifyFrame (slotPort i) f) = .drop → exec (.slotPortFrame i bytes) s = .next s) ∧
        (actionOf (s.classifyFrame (slotPort i) f) ≠ .drop →
          ∃ u t : State, exec (.slotPortFrame i bytes) s = .next t ∧
            (actionOf (s.classifyFrame (slotPort i) f) = .forwardSnoop → f.etherType = s.chassis.etherType →
              f.version = some 1#8 → f.kind = some 8#8 → u = s.takeTelemetry i f.payload) ∧
            (actionOf (s.classifyFrame (slotPort i) f) ≠ .forwardSnoop ∨ f.etherType ≠ s.chassis.etherType ∨
              f.version ≠ some 1#8 ∨ f.kind ≠ some 8#8 → u = s) ∧
            t = { u with meters := t.meters, sent := t.sent } ∧ (∀ j, j ≠ i → t.meter j = u.meter j) ∧
            ((u.meter i).effective = 15 ∨ (u.meter i).effective ≠ 0 ∧ (u.meter i).tokens < f.raw.length →
              t.sent = u.sent ∧
              t.meter i =
                { u.meter i with
                  policeDrops :=
                    if (u.meter i).policeDrops < 4294967295 then (u.meter i).policeDrops + 1 else 4294967295 }) ∧
            ((u.meter i).effective = 0 → t.meter i = u.meter i) ∧
            ((u.meter i).effective ≠ 0 → (u.meter i).effective ≠ 15 → f.raw.length ≤ (u.meter i).tokens →
              t.meter i = { u.meter i with tokens := (u.meter i).tokens - f.raw.length }) ∧
            ((u.meter i).effective = 0 ∨ (u.meter i).effective ≠ 15 ∧ f.raw.length ≤ (u.meter i).tokens →
              (u.steer i f (s.classifyFrame (slotPort i) f) = none → t.sent = u.sent) ∧
              ∀ k, u.steer i f (s.classifyFrame (slotPort i) f) = some k →
                (u.link (uplinkPort k) = false → t.sent = u.sent) ∧
                (u.link (uplinkPort k) = true → (u.map i).tag = 0 →
                  t.sent = u.sent ++ [⟨uplinkPort k, .upstream i, f.raw⟩]) ∧
                (u.link (uplinkPort k) = true → (u.map i).tag ≠ 0 →
                  t.sent = u.sent ++ [⟨uplinkPort k, .upstream i,
                    withFcs (f.raw.take 12 ++ [0x81#8, 0x00#8] ++ be16 (u.map i).tag ++
                      (f.raw.take (f.raw.length - 4)).drop 12)⟩]))))) ∧
  (∀ (s : State) (p : PortId) (f : Received),
    (∀ e, s.matchesEntry p f e = true ↔
      e.valid = true ∧ e.ports.getLsbD p.val = true ∧ (f.dst ^^^ e.dstValue) &&& e.dstMask = 0#48 ∧
      (f.etherType ^^^ e.typeValue) &&& e.typeMask = 0#16 ∧
      (∀ k, f.kind = some k → f.etherType = s.chassis.etherType → (k ^^^ e.kindValue) &&& e.kindMask = 0#8) ∧
      (f.kind = none ∨ f.etherType ≠ s.chassis.etherType → e.kindMask = 0#8) ∧
      (e.tagMatch = .tagged → f.tag ≠ none) ∧ (e.tagMatch = .untagged → f.tag = none)) ∧
    (s.classifyFrame p f = none ↔ ∀ k, s.matchesEntry p f (s.classEntry k) = false) ∧
    (∀ k, s.matchesEntry p f (s.classEntry k) = true → (∀ j, j < k → s.matchesEntry p f (s.classEntry j) = false) →
      s.classifyFrame p f = some (s.classEntry k))) ∧
  ∀ (s : State) (i : SlotId) (f : Received) (e : Option ClassEntry) (g : Group), g = s.group (s.map i).group →
    (actionOf e = .forward ∨ actionOf e = .forwardSnoop →
      (g.mode = .failover → s.steer i f e = g.active.head?) ∧
      (g.mode = .spread → g.active = [] → s.steer i f e = none) ∧
      (g.mode = .spread → g.active ≠ [] →
        s.steer i f e = g.active[((addrBytes f.src).map BitVec.toNat).sum % g.active.length]?)) ∧
    ∀ x, e = some x → x.action = .redirect →
      s.steer i f e = if (s.uplink x.redirect).usable then some x.redirect else none

/-- UPLINK_PORT_FRAME, ordinary traffic (R129, R133, R143, R154 to R156): a frame that is not complete or whose FCS is
bad changes nothing, and neither does one the Classification Table drops; any other goes once to every receiver whose
link is up, with its outermost tag removed; the receivers of a unicast are the ONLINE owner of its address whose tag
agrees and whose group's active list holds the uplink, and of a group address every such slot whose group the uplink
serves; an identity's address has none. Which bytes are a good FCS, and how short a frame is not complete, is in part
presumed (notes/assumptions/9.md, notes/assumptions/10.md). That a frame on a port whose link is down acts as on one
whose link is up is the model's choice (notes/assumptions/37.md). -/
def Obligations.UplinkFramesDelivered : Prop :=
  (∀ (s : State) (u : UplinkId) (bytes : List Byte), receive bytes = none →
    exec (.uplinkPortFrame u bytes) s = .next s) ∧
  ∀ (s : State) (u : UplinkId) (bytes : List Byte) (f : Received), receive bytes = some f →
    u ≠ uplink4 ∨ s.portRole = .stack → s.forPart f = false →
    (actionOf (s.classifyFrame (uplinkPort u) f) = .drop → exec (.uplinkPortFrame u bytes) s = .next s) ∧
    (actionOf (s.classifyFrame (uplinkPort u) f) ≠ .drop →
      ∃ t : State, exec (.uplinkPortFrame u bytes) s = .next t ∧ t = { s with sent := t.sent } ∧
        t.sent = s.sent ++ ((s.receivers u f).filter fun i => s.link (slotPort i)).map
          (fun i => ⟨slotPort i, .delivered, stripTag f⟩)) ∧
    (∀ i, groupBit f.dst = false → (s.identityOf f.dst).isSome = false →
      (i ∈ s.receivers u f ↔
        s.holder f.dst = some i ∧ (s.slot i).state = .online ∧ u ∈ (s.group (s.map i).group).active ∧
        s.tagAgrees i f = true)) ∧
    (groupBit f.dst = false → (s.identityOf f.dst).isSome = true → s.receivers u f = []) ∧
    (∀ i, groupBit f.dst = true →
      (i ∈ s.receivers u f ↔
        (s.slot i).state = .online ∧ s.tagAgrees i f = true ∧
        ((s.group (s.map i).group).mode = .spread → u ∈ (s.group (s.map i).group).active) ∧
        ((s.group (s.map i).group).mode = .failover → (s.group (s.map i).group).active.head? = some u)))

/-- LINK_UP, LINK_DOWN and HOLD_DOWN_EXPIRY (R129, R146 to R148, R150, R182): a rise of an uplink's link, the uplink
being in role, starts its hold-down timer, or with a hold-down time of 0 makes it usable at once; a fall stops the timer
and ends the uplink's use; an expiry makes the uplink usable; a change of use raises its event and recomputes the active
list of each of its groups as the usable members in order; a rise of the egress port's link attempts a send, after the
uplink's record has changed, which is the model's choice (notes/assumptions/19.md). A level that does not change and a
stopped timer change nothing. That a command which stands for no event changes nothing is the model's choice
(notes/assumptions/2.md). That each of these events comes at its own change is the model's inference
(notes/assumptions/46.md). -/
def Obligations.LinksDriveUplinks : Prop :=
  (∀ (s : State) (p : PortId),
    (s.link p = true → exec (.linkUp p) s = .next s) ∧ (s.link p = false → exec (.linkDown p) s = .next s) ∧
    (s.link p = false →
      ∃ u : State, u = { s with links := u.links, uplinks := u.uplinks } ∧
        (∀ q, u.link q = if q = p then true else s.link q) ∧
        ((∀ k, uplinkPort k = p → s.uplinkInRole k = false) →
          exec (.linkUp p) s = .next (if s.noticeCfg.egress = p then u.attemptSend else u) ∧
          u.uplinks = s.uplinks) ∧
        (∀ k, uplinkPort k = p → s.uplinkInRole k = true → s.chassis.holdDown ≠ 0 →
          exec (.linkUp p) s = .next (if s.noticeCfg.egress = p then u.attemptSend else u) ∧
          ∀ j, u.uplink j =
            if j = k then { s.uplink k with holdDown := s.timer s.chassis.holdDown } else s.uplink j) ∧
        (∀ k, uplinkPort k = p → s.uplinkInRole k = true → s.chassis.holdDown = 0 →
          (∀ j, u.uplink j = if j = k then ⟨none, true⟩ else s.uplink j) ∧
          ((s.uplink k).usable = false →
            exec (.linkUp p) s =
              .next
                (if s.noticeCfg.egress = p then ((u.raise (.usableChange k)).recomputeMembers k).attemptSend
                 else (u.raise (.usableChange k)).recomputeMembers k)) ∧
          ((s.uplink k).usable = true →
            exec (.linkUp p) s = .next (if s.noticeCfg.egress = p then u.attemptSend else u)))) ∧
    (s.link p = true →
      ∃ u : State, u = { s with links := u.links, uplinks := u.uplinks } ∧
        (∀ q, u.link q = if q = p then false else s.link q) ∧
        ((∀ k, uplinkPort k ≠ p) → exec (.linkDown p) s = .next u ∧ u.uplinks = s.uplinks) ∧
        ∀ k, uplinkPort k = p →
          (∀ j, u.uplink j = if j = k then ⟨none, false⟩ else s.uplink j) ∧
          ((s.uplink k).usable = false → exec (.linkDown p) s = .next u) ∧
          ((s.uplink k).usable = true →
            exec (.linkDown p) s = .next ((u.raise (.usableChange k)).recomputeMembers k)))) ∧
  (∀ (s : State) (k : UplinkId),
    ((s.uplink k).holdDown = none → exec (.holdDownExpiry k) s = .next s) ∧
    ((s.uplink k).holdDown ≠ none → (s.uplink k).usable = false →
      ∃ u : State, exec (.holdDownExpiry k) s = .next ((u.raise (.usableChange k)).recomputeMembers k) ∧
        u = { s with uplinks := u.uplinks } ∧
        ∀ j, u.uplink j = if j = k then ⟨none, true⟩ else s.uplink j)) ∧
  (∀ (s : State) (k : UplinkId) (g : GroupId),
    ((s.recomputeMembers k).group g).members = (s.group g).members ∧
    (k ∈ (s.group g).members →
      ((s.recomputeMembers k).group g).active = (s.group g).members.filter (fun u => (s.uplink u).usable)) ∧
    (k ∉ (s.group g).members → (s.recomputeMembers k).group g = s.group g))

/-- EPOCH (R96, R162): every meter takes its pending code and is refilled at it: full at code 0, not at all at code 15,
by the code's bytes up to the depth at any other; every stored reading is a millisecond older, up to 65535; and nothing
else changes but the model's clock (notes/assumptions/4.md). That an age which passes the stale limit here makes no
clear test, the critical flag and the grace timer standing until SENSOR_STALE, is the model's choice
(notes/assumptions/28.md). -/
def Obligations.EpochRefillsMeters : Prop :=
  ∀ s : State, ∃ t : State, exec .epoch s = .next t ∧
    t = { s with clock := t.clock, meters := t.meters, thermal := t.thermal } ∧ t.clock = s.clock + 1 ∧
    (∀ i, (t.meter i).effective = (s.meter i).pending.getD (s.meter i).effective ∧ (t.meter i).pending = none ∧
      (t.meter i).policeDrops = (s.meter i).policeDrops ∧
      (t.meter i).tokens =
        (if (t.meter i).effective = 0 then 1024 * (s.map i).depth
         else if (t.meter i).effective = 15 then (s.meter i).tokens
         else min (1024 * (s.map i).depth) ((s.meter i).tokens + refillBytes (t.meter i).effective))) ∧
    (∀ i, (t.thermalOf i).critical = (s.thermalOf i).critical ∧ (t.thermalOf i).grace = (s.thermalOf i).grace ∧
      (t.thermalOf i).sensors = (s.thermalOf i).sensors.map (fun x =>
        { x with last := x.last.map fun r => ⟨r.temp, min 65535 (r.age + 1)⟩ }))

/-! ### Requests -/

/-- REQUEST (R136, R138, R167, R169, R178): it is dropped where its address is no enabled identity's, where the
identity's port set leaves the port out, where four requests wait and where the warm-reset input is held; otherwise it
joins the tail. A request of a row then waits for its row; one that no row names and that finds the queue empty is
answered at once, which is the model's choice (notes/assumptions/7.md). A RESPONSE carries the operation, the status,
the fields the payload held, zeros for the fields it did not hold, and the images (R171, R179): for an empty payload
nothing but zeros, three or four of them, since no layout is stated for it (notes/assumptions/16.md). That half an
argument is no field held is the model's inference (notes/assumptions/39.md). That a frame on a port whose link is down
acts as on one whose link is up is the model's choice (notes/assumptions/37.md). -/
def Obligations.RequestsJoinQueue : Prop :=
  (∀ (s : State) (p : PortId) (f : ServiceFrame),
    ((∀ k, (s.identity k).enabled = true → (s.identity k).addr ≠ f.dst) → exec (.request p f) s = .next s) ∧
    ∀ k, (s.identity k).enabled = true → (s.identity k).addr = f.dst →
      (∀ j, j < k → (s.identity j).enabled = true → (s.identity j).addr ≠ f.dst) →
      ((s.identity k).ports.getLsbD p.val = false → exec (.request p f) s = .next s) ∧
      (s.warmHeld = true → exec (.request p f) s = .next s) ∧
      (4 ≤ s.requests.length → exec (.request p f) s = .next s) ∧
      ((s.identity k).ports.getLsbD p.val = true → s.warmHeld = false → s.requests.length < 4 →
        (s.requests ≠ [] ∨ requestRow f.payload ≠ .unknown →
          exec (.request p f) s =
            .next { s with requests := s.requests ++ [⟨p, f.src, k, f.dst, f.sequence, f.payload⟩] }) ∧
        (s.requests = [] → requestRow f.payload = .unknown →
          ∃ (st : Status) (t : State), exec (.request p f) s = .next t ∧ t.requests = [] ∧
            (f.payload = [] → st = .badLength) ∧
            (f.payload ≠ [] → operationOf f.payload = none → st = .badValue) ∧
            t = { s with sent := t.sent } ∧
            t.sent =
              (if s.link p then
                s.sent ++ [⟨p, .response,
                  s.serviceFrame f.src kindResponse f.sequence (responsePayload f.payload st [])⟩]
              else s.sent)))) ∧
  ∀ (l : List Byte) (st : Status) (images : List Byte),
    (operationOf l = some .read ∨ operationOf l = some .write →
      responsePayload l st images = [byteAt l 0, byte1 st.code, byteAt l 1, byteAt l 2, byteAt l 3] ++ images) ∧
    (operationOf l = some .command →
      responsePayload l st images =
        [byteAt l 0, byte1 st.code, byteAt l 1, byteAt l 2] ++
          (if 5 ≤ l.length then [byteAt l 3, byteAt l 4] else [0#8, 0#8]) ++ images) ∧
    (l = [] →
      responsePayload l st images = [0#8, byte1 st.code] ++ List.replicate 3 0#8 ++ images ∨
      responsePayload l st images = [0#8, byte1 st.code] ++ List.replicate 4 0#8 ++ images)

/-- READ (R170 to R172), and the checks of READ and WRITE (R171): a request that fails a check is answered with the
check's status; one that passes is answered OK with the read images of its run, which wraps from the space's last index
to 0. The next request begins: where the next head is of a row, or the queue is empty, nothing more happens. The checks
come in order, for READ and WRITE alike but where one is named: an empty payload BAD_LENGTH, an operation byte that is
none of the three BAD_VALUE, fewer than 4 bytes BAD_LENGTH, no authority DENIED, a space above 15 BAD_SPACE, a WRITE of
a space that cannot be written READ_ONLY, an index not below the space's size BAD_INDEX, a count of 0, above the size,
above 32 or above 8 for INVENTORY BAD_LENGTH, and a WRITE whose item bytes are not the count times the write image
BAD_LENGTH. The images are those of State.readImage, whose choices and inferences are notes/assumptions/17.md,
notes/assumptions/22.md and notes/assumptions/38.md. -/
def Obligations.ReadAnswersImages : Prop :=
  (∀ (s : State) (r : Request) (rest : List Request), s.headIs .read r rest →
    (∀ st, s.checkRequest r = some st → exec .read s = .next (State.begin (s.answered r rest st []))) ∧
    (s.checkRequest r = none →
      ∃ sp, spaceOf (nat8At r.payload 1) = some sp ∧ nat8At r.payload 2 < sp.size ∧
        1 ≤ nat8At r.payload 3 ∧ nat8At r.payload 3 ≤ sp.maxCount ∧
        exec .read s = .next (State.begin (s.answered r rest .ok
          ((List.range (nat8At r.payload 3)).flatMap fun j =>
            s.readImage sp ((nat8At r.payload 2 + j) % sp.size)))))) ∧
  (∀ s : State, s.requests = [] → s.begin = s) ∧
  (∀ (s : State) (r : Request) (rest : List Request), s.requests = r :: rest → requestRow r.payload ≠ .unknown →
    s.begin = s) ∧
  (∀ (s : State) (r : Request),
    (r.payload = [] → s.checkRequest r = some .badLength) ∧
    (r.payload ≠ [] → byteAt r.payload 0 ≠ 1#8 → byteAt r.payload 0 ≠ 2#8 → byteAt r.payload 0 ≠ 3#8 →
      s.checkRequest r = some .badValue) ∧
    ∀ op, op = .read ∧ byteAt r.payload 0 = 1#8 ∨ op = .write ∧ byteAt r.payload 0 = 2#8 →
      (1 ≤ r.payload.length → r.payload.length < 4 → s.checkRequest r = some .badLength) ∧
      (4 ≤ r.payload.length → s.authorised r op = false → s.checkRequest r = some .denied) ∧
      (4 ≤ r.payload.length → s.authorised r op = true →
        (16 ≤ nat8At r.payload 1 → s.checkRequest r = some .badSpace) ∧
        (nat8At r.payload 1 < 16 → ∃ sp, spaceOf (nat8At r.payload 1) = some sp ∧
          (op = .write → sp.writeSize = none → s.checkRequest r = some .readOnly) ∧
          (op = .read ∨ sp.writeSize ≠ none →
            (sp.size ≤ nat8At r.payload 2 → s.checkRequest r = some .badIndex) ∧
            (nat8At r.payload 2 < sp.size →
              (nat8At r.payload 3 = 0 ∨ min sp.size 32 < nat8At r.payload 3 ∨
                  sp = .inventory ∧ 8 < nat8At r.payload 3 →
                s.checkRequest r = some .badLength) ∧
              (1 ≤ nat8At r.payload 3 → nat8At r.payload 3 ≤ min sp.size 32 →
                (sp = .inventory → nat8At r.payload 3 ≤ 8) →
                (op = .read → s.checkRequest r = none) ∧
                ∀ n, op = .write → sp.writeSize = some n →
                  (r.payload.length ≠ 4 + nat8At r.payload 3 * n → s.checkRequest r = some .badLength) ∧
                  (r.payload.length = 4 + nat8At r.payload 3 * n → s.checkRequest r = none))))))) ∧
  ((List.range 16).filterMap spaceOf).map (fun sp => (sp.size, sp.writeSize)) =
    [(64, some 25), (16, some 7), (4, some 6), (16, some 19), (6, some 2), (6, some 6), (3, some 7), (1, some 35),
     (4, some 11), (16, none), (16, none), (16, none), (64, none), (6, none), (1, none), (1, some 10)] ∧
  spaceOf 10 = some .inventory

/-- WRITE and WRITE_ITEM (R149, R151, R168, R171, R173, R174, R176, R180): a request that fails a check, or whose items
fail as a whole, is answered and writes nothing; one that passes is applied from then on item by item, in the order of
its indexes, each by the owner of the record, and is answered after the last with the status found by the check. An item
fails where a field with listed values holds none of them; a number out of its range takes the nearer end, a cap floor
is raised to the boot allowance beside it, and a member list loses its repeats; the status is OK_CLAMPED where any of
this has changed an item, and OK otherwise. Items that name the identities fail where no identity would be left to write
through. A CLASSIFY, a PSU and a NOTICE_CFG item does what the row that writes that record does; an IDENTITY, an
UPLINK_MAP and a ZONE item sets the fields of its index's record; a SLOT_POLICY item acts on admin_enable and then on
the power fields, a GROUPS item on its members and a FAN item on its full power, each as the row does with the other
fields in place. A CHASSIS item hands over mode with overhead, the stale limit and the role setting in that order, which
is the model's inference (notes/assumptions/20.md). That a command which stands for no event changes nothing is the
model's choice (notes/assumptions/2.md). -/
def Obligations.WriteCheckedThenApplied : Prop :=
  (∀ (s : State) (r : Request) (rest : List Request),
    (s.headIs .write r rest →
      (∀ st, s.checkRequest r = some st → exec .write s = .next (State.begin (s.answered r rest st []))) ∧
      (s.checkRequest r = none →
        ∃ sp, spaceOf (nat8At r.payload 1) = some sp ∧ sp.writeSize ≠ none ∧
          (s.checkItems r sp = none → exec .write s = .next (State.begin (s.answered r rest .badValue []))) ∧
          ∀ job, s.checkItems r sp = some job →
            exec .write s = .next { s with writeJob := some job } ∧
            job.items.map Prod.fst =
              (List.range (nat8At r.payload 3)).map (fun j => (nat8At r.payload 2 + j) % sp.size))) ∧
    (s.writeJob = none → exec .writeItem s = .next s) ∧
    (∀ (k : Nat) (x : Item) (more : List (Nat × Item)) (st : Status),
      s.requests = r :: rest → s.writeJob = some ⟨(k, x) :: more, st⟩ →
      (more ≠ [] → exec .writeItem s = .next { s.applyItem k x with writeJob := some ⟨more, st⟩ }) ∧
      (more = [] → exec .writeItem s = .next (State.begin ((s.applyItem k x).answered r rest st []))))) ∧
  (∀ (s : State) (r : Request) (sp : Space) (n : Nat) (bytes : Nat → List Byte), sp.writeSize = some n →
    (∀ j, bytes j = ((r.payload.drop 4).drop (j * n)).take n) →
    ((∃ j, j < nat8At r.payload 3 ∧ readItem sp (bytes j) = none) → s.checkItems r sp = none) ∧
    (sp ≠ .identity → (∀ j, j < nat8At r.payload 3 → readItem sp (bytes j) ≠ none) → s.checkItems r sp ≠ none) ∧
    ∀ job, s.checkItems r sp = some job →
      (∀ j, j < nat8At r.payload 3 →
        ∃ x, readItem sp (bytes j) = some x ∧ job.items[j]? = some ((nat8At r.payload 2 + j) % sp.size, x)) ∧
      (job.status = .ok ∨ job.status = .okClamped) ∧
      (job.status = .ok ↔ ∀ j x, j < nat8At r.payload 3 → readItem sp (bytes j) = some x →
        x.asWritten (bytes j) = true)) ∧
  (∀ d : Identity, d.canWrite = true ↔ d.enabled = true ∧ d.access = .control ∧ d.ports ≠ 0#20) ∧
  (∀ (s : State) (r : Request) (ds : Nat → Identity), nat8At r.payload 3 ≤ 4 →
    (∀ j, j < nat8At r.payload 3 →
      readItem .identity (((r.payload.drop 4).drop (j * 11)).take 11) = some (.identity (ds j))) →
    (s.checkItems r .identity = none ↔
      ∀ k : IdentityId,
        (∀ j, j < nat8At r.payload 3 → (nat8At r.payload 2 + j) % 4 = k.val → (ds j).canWrite = false) ∧
        ((∀ j, j < nat8At r.payload 3 → (nat8At r.payload 2 + j) % 4 ≠ k.val) →
          (s.identity k).canWrite = false))) ∧
  (∀ l : List Byte,
    (∀ mode members, (Item.group mode members).asWritten l = true ↔ members.length = nat8At l 1) ∧
    (∀ x : Item, (∀ mode members, x ≠ .group mode members) → (x.asWritten l = true ↔ x.image = l)) ∧
    readItem .psu l = some (.psu (min 4000 (nat16At l 0))) ∧
    readItem .fan l =
      some (.fan (min 1000 (nat16At l 0)) (max 1 (min 4 (nat8At l 2))) (min 20000 (nat16At l 3))
        (min 200 (nat8At l 5))) ∧
    (readItem .zone l = none ↔ 1 < nat8At l 6) ∧
    (nat8At l 6 ≤ 1 →
      readItem .zone l =
        some (.zone (min 1000 (nat16At l 0)) (min 1000 (nat16At l 2)) (min 1000 (nat16At l 4)) (nat8At l 6 = 1))) ∧
    (readItem .uplinkMap l = none ↔ 3 < nat8At l 0 ∨ 15 < nat8At l 3 ∨ 15 < nat8At l 4) ∧
    (∀ m, readItem .uplinkMap l = some (.uplinkMap m) →
      m.group.val = nat8At l 0 ∧ m.tag = min 4094 (nat16At l 1) ∧ m.rate.val = nat8At l 3 ∧
      m.capRate.val = nat8At l 4 ∧ m.depth = max 1 (min 256 (nat16At l 5))) ∧
    (readItem .groups l = none ↔
      1 < nat8At l 0 ∨ 4 < nat8At l 1 ∨ ∃ j, j < nat8At l 1 ∧ j < l.length - 2 ∧ 4 < nat8At l (2 + j)) ∧
    (∀ mode members, readItem .groups l = some (.group mode members) → l.length = 6 →
      mode.code = nat8At l 0 ∧ members.Nodup ∧ members.length ≤ nat8At l 1 ∧
      ∀ u, u ∈ members ↔ ∃ j, j < nat8At l 1 ∧ nat8At l (2 + j) = u.val) ∧
    (readItem .slotPolicy l = none ↔ ∃ j, j < 6 ∧ 1 < nat8At l j) ∧
    (∀ p, readItem .slotPolicy l = some (.slotPolicy p) →
      p =
        { adminEnable := nat8At l 0 = 1, autoPower := nat8At l 1 = 1, holdPower := nat8At l 2 = 1,
          holdOnline := nat8At l 3 = 1, restoreAfterShed := nat8At l 4 = 1,
          holdDefault := if nat8At l 5 = 1 then .deny else .proceed, holdTimeout := min 3600 (nat16At l 6),
          retryLimit := min 7 (nat8At l 8), retryInterval := max 100 (min 60000 (nat16At l 9)),
          bootAllowance := max 1 (min 1000 (nat16At l 11)),
          capFloor := max (max 1 (min 1000 (nat16At l 11))) (max 1 (min 1000 (nat16At l 13))),
          priority := min 7 (nat8At l 15), weights := Tab.make fun z => min 8 (nat8At l (16 + z.val)) }) ∧
    (readItem .classify l = none ↔
      1 < nat8At l 0 ∨ 2 ^ 20 ≤ nat24At l 1 ∨ 2 < nat8At l 22 ∨ 3 < nat8At l 23) ∧
    (∀ e, readItem .classify l = some (.classify e) →
      e.valid = decide (nat8At l 0 = 1) ∧ e.ports.toNat = nat24At l 1 ∧ e.dstValue = addrAt l 4 ∧
      e.dstMask = addrAt l 10 ∧ e.typeValue.toNat = nat16At l 16 ∧ e.typeMask.toNat = nat16At l 18 ∧
      e.kindValue = byteAt l 20 ∧ e.kindMask = byteAt l 21 ∧ tagMatchCode e.tagMatch = nat8At l 22 ∧
      actionCode e.action = nat8At l 23 ∧ e.redirect.val = min 4 (nat8At l 24)) ∧
    (readItem .chassis l = none ↔
      2 < nat8At l 0 ∨ 1 < nat8At l 9 ∨ nat16At l 10 < 0x0600 ∨ nat16At l 10 = 0x8100) ∧
    (∀ c, readItem .chassis l = some (.chassis c) →
      redundancyCode c.mode = nat8At l 0 ∧ c.overhead = min 2000 (nat16At l 1) ∧
      c.staleLimit = max 500 (min 60000 (nat16At l 3)) ∧ c.staleDemand = min 1000 (nat16At l 5) ∧
      c.bootDemand = min 1000 (nat16At l 7) ∧ c.roleSetting.code = nat8At l 9 ∧
      c.etherType.toNat = nat16At l 10 ∧ c.firstTimeout = max 100 (min 60000 (nat16At l 12)) ∧
      c.gapTimeout = max 10 (min 10000 (nat16At l 14)) ∧ c.wholeTimeout = max 100 (min 60000 (nat16At l 16)) ∧
      c.queryWait = max 100 (min 30000 (nat16At l 18)) ∧ c.holdDown = min 60000 (nat16At l 20) ∧
      c.deadInterval = max 1 (nat8At l 22) ∧ c.dischargeTime = max 10 (min 5000 (nat16At l 23)) ∧
      c.resetHold = min 2000 (nat16At l 25) ∧ c.powerGoodTimeout = max 10 (min 2000 (nat16At l 27)) ∧
      c.debounce = max 1 (min 1000 (nat16At l 29)) ∧ c.settleTime = min 10000 (nat16At l 31) ∧
      c.criticalGrace = max 1000 (min 60000 (nat16At l 33))) ∧
    (readItem .identity l = none ↔
      1 < nat8At l 0 ∨ 1 < nat8At l 7 ∨ 2 ^ 20 ≤ nat24At l 8 ∨ groupBit (addrAt l 1) = true ∨ addrAt l 1 = 0#48) ∧
    (∀ d, readItem .identity l = some (.identity d) →
      d.enabled = decide (nat8At l 0 = 1) ∧ d.addr = addrAt l 1 ∧ (d.access = .control ↔ nat8At l 7 = 1) ∧
      d.ports.toNat = nat24At l 8) ∧
    (readItem .noticeCfg l = none ↔ 1 < nat8At l 0) ∧
    (∀ c, readItem .noticeCfg l = some (.noticeCfg c) →
      c = ⟨nat8At l 0 = 1, addrAt l 1, Fin.ofNat 20 (min 19 (nat8At l 7)), min 1000 (nat16At l 8)⟩)) ∧
  (∀ (s : State) (k : Nat),
    (∀ e, exec (.classifyEntryWrite (Fin.ofNat 64 k) e) s = .next (s.applyItem k (.classify e))) ∧
    (∀ c, c ≤ 4000 → exec (.psuCapacityWrite (Fin.ofNat 6 k) c) s = .next (s.applyItem k (.psu c))) ∧
    (∀ c, c.spacing ≤ 1000 → exec (.noticeCfgWrite c) s = .next (s.applyItem k (.noticeCfg c))) ∧
    (∀ r, s.applyItem k (.identity r) = { s with identities := (s.applyItem k (.identity r)).identities } ∧
      ∀ j, (s.applyItem k (.identity r)).identity j = if j = Fin.ofNat 4 k then r else s.identity j) ∧
    (∀ a b c d, ∃ t : State, s.applyItem k (.zone a b c d) = t ∧ t = { s with zones := t.zones } ∧
      ∀ z, t.zone z =
        if z = Fin.ofNat 3 k then
          { s.zone z with
            minDemand := a, slewUp := b, slewDown := c, stopAllowed := d, command := max (s.zone z).command a }
        else s.zone z) ∧
    (∀ m, ∃ t : State, s.applyItem k (.uplinkMap m) = t ∧ t = { s with uplinkMap := t.uplinkMap, meters := t.meters } ∧
      ∀ i, t.map i = (if i = Fin.ofNat 16 k then m else s.map i) ∧
        t.meter i =
          if i = Fin.ofNat 16 k then
            { s.meter i with
              tokens := min (s.meter i).tokens (1024 * m.depth),
              pending :=
                if (if (s.grantOf i).capped then m.capRate else m.rate) = (s.meter i).effective then none
                else some (if (s.grantOf i).capped then m.capRate else m.rate) }
          else s.meter i) ∧
    (∀ mode members, members.length ≤ 4 → members.Nodup →
      ∃ w : State, w = { s with groups := w.groups } ∧
        (∀ g, w.group g = if g = Fin.ofNat 4 k then { s.group g with mode := mode } else s.group g) ∧
        exec (.memberListWrite (Fin.ofNat 4 k) members) w = .next (s.applyItem k (.group mode members))) ∧
    (∀ a b c d, d ≤ 200 →
      ∃ w : State, w = { s with fans := w.fans } ∧
        (∀ f, w.fan f =
          if f = Fin.ofNat 6 k then { s.fan f with minDrive := a, pulses := b, faultFloor := c } else s.fan f) ∧
        exec (.fanFullPowerWrite (Fin.ofNat 6 k) d) w = .next (s.applyItem k (.fan a b c d))) ∧
    (∀ (p : SlotPolicy) (i : SlotId), i = Fin.ofNat 16 k → p.priority ≤ 7 → 1 ≤ p.bootAllowance →
      p.bootAllowance ≤ 1000 → p.bootAllowance ≤ p.capFloor → p.capFloor ≤ 1000 →
      ∃ u v w : State, u = { s with policies := u.policies } ∧
        (∀ j, u.policy j = if j = i then { p with adminEnable := (s.policy i).adminEnable } else s.policy j) ∧
        exec (.adminEnableWrite i p.adminEnable) u = .next v ∧ w = { v with policies := w.policies } ∧
        (∀ j, w.policy j =
          if j = i then
            { p with
              priority := (s.policy i).priority, bootAllowance := (s.policy i).bootAllowance,
              capFloor := (s.policy i).capFloor }
          else s.policy j) ∧
        exec (.powerPolicyWrite i p.priority p.bootAllowance p.capFloor) w =
          .next (s.applyItem k (.slotPolicy p))) ∧
    ∀ c : Chassis, c.overhead ≤ 2000 → 500 ≤ c.staleLimit → c.staleLimit ≤ 60000 →
      ∃ u v w : State, exec (.redundancyModeWrite c.mode c.overhead) s = .next u ∧
        exec (.staleLimitWrite c.staleLimit) u = .next v ∧
        exec (if c.roleSetting = .stack then .roleSettingStackWrite else .roleSettingSlotWrite)
          { v with chassis := { v.chassis with staleDemand := c.staleDemand, bootDemand := c.bootDemand } } =
            .next w ∧
        s.applyItem k (.chassis c) = { w with chassis := c })

/-- The seven commands' requests that fail a check (R167, R171, R175): the tests run in order, and the first that fails
gives the status of the RESPONSE; the command itself has then no effect. A request has authority exactly where the
identity it was admitted under is still enabled, still holds the address the request was sent to and still has the
ingress port in its port set, and, for any operation but READ, has access CONTROL. -/
def Obligations.CommandChecksRunInOrder : Prop :=
  (∀ (s : State) (r : Request) (op : Operation),
    s.authorised r op = true ↔
      (s.identity r.identity).enabled = true ∧ (s.identity r.identity).addr = r.sentTo ∧
      (s.identity r.identity).ports.getLsbD r.port.val = true ∧
      (op = .read ∨ (s.identity r.identity).access = .control)) ∧
  ∀ p ∈ ([(.powerOn, .powerOn), (.powerOff, .powerOff), (.release, .release), (.reset, .reset), (.refresh, .refresh),
      (.clearFault, .clearFault), (.controllerReset, .controllerReset)] : List (CommandCode × Instr)),
    ∀ (s : State) (r : Request) (rest : List Request), s.headIs (.command p.1) r rest →
      (∀ st, s.checkRequest r = some st → exec p.2 s = .next (State.begin (s.answered r rest st []))) ∧
      (r.payload.length < 5 → s.checkRequest r = some .badLength) ∧
      (5 ≤ r.payload.length → s.authorised r .command = false → s.checkRequest r = some .denied) ∧
      (5 ≤ r.payload.length → s.authorised r .command = true → nat16At r.payload 3 ≠ 0 →
        s.checkRequest r = some .badValue) ∧
      (5 ≤ r.payload.length → s.authorised r .command = true → nat16At r.payload 3 = 0 →
        p.1 ≠ .controllerReset → 16 ≤ nat8At r.payload 2 → s.checkRequest r = some .badIndex) ∧
      (5 ≤ r.payload.length → s.authorised r .command = true → nat16At r.payload 3 = 0 →
        p.1 = .controllerReset ∨ nat8At r.payload 2 < 16 → s.checkRequest r = none)

/-- POWER_ON and RELEASE (R6 to R8, R15): POWER_ON takes the power-up path from PRESENT, and from FAULT after clearing
the fault; a DRAINING slot answers BUSY and any other WRONG_STATE. RELEASE goes on from HELD_POWER with the power
request and from HELD_ONLINE to ONLINE, the hold timer stopped; any other slot answers WRONG_STATE. The power-up path is
a hold where hold_power is 1 and a power request otherwise. That what begins or is cleared at the entry to a state
stands so when its state change event is raised is the model's choice (notes/assumptions/35.md). That the state change
event comes before the hold reached event is the model's choice (notes/assumptions/42.md). -/
def Obligations.PowerOnAndReleaseTakePath : Prop :=
  (∀ (s : State) (r : Request) (rest : List Request), s.checkRequest r = none →
    (s.headIs (.command .powerOn) r rest →
      ∃ u : State, u = { s with slots := u.slots } ∧
        (∀ j, u.slot j =
          if j = commandSlot r then { s.slot j with faultCause := .none, retryCount := 0, retry := none }
          else s.slot j) ∧
        ((s.slot (commandSlot r)).state = .present →
          exec .powerOn s = .next (State.begin ((s.powerUpPath (commandSlot r)).answered r rest .ok []))) ∧
        ((s.slot (commandSlot r)).state = .fault →
          exec .powerOn s = .next (State.begin ((u.powerUpPath (commandSlot r)).answered r rest .ok []))) ∧
        ((s.slot (commandSlot r)).state = .draining →
          exec .powerOn s = .next (State.begin (s.answered r rest .busy []))) ∧
        ((s.slot (commandSlot r)).state ∉ [SlotState.present, .fault, .draining] →
          exec .powerOn s = .next (State.begin (s.answered r rest .wrongState [])))) ∧
    (s.headIs (.command .release) r rest →
      ∃ u : State, u = { s with slots := u.slots } ∧
        (∀ j, u.slot j = if j = commandSlot r then { s.slot j with hold := none } else s.slot j) ∧
        ((s.slot (commandSlot r)).state = .heldPower →
          exec .release s = .next (State.begin ((u.powerRequest (commandSlot r)).answered r rest .ok []))) ∧
        ((s.slot (commandSlot r)).state = .heldOnline →
          exec .release s = .next (State.begin ((u.enterOnline (commandSlot r)).answered r rest .ok []))) ∧
        ((s.slot (commandSlot r)).state ∉ [SlotState.heldPower, .heldOnline] →
          exec .release s = .next (State.begin (s.answered r rest .wrongState []))))) ∧
  (∀ (s : State) (i : SlotId),
    ((s.policy i).holdPower = false → s.powerUpPath i = s.powerRequest i) ∧
    ((s.policy i).holdPower = true →
      ∃ u : State, s.powerUpPath i = (u.raise (.stateChange i)).raise (.holdReached i) ∧ u = { s with slots := u.slots } ∧
        ∀ j, u.slot j =
          if j = i then
            { s.slot i with
              state := .heldPower,
              hold :=
                if (s.policy i).holdTimeout = 0 then none
                else some ⟨(s.policy i).holdTimeout * 1000, s.clock + (s.policy i).holdTimeout * 1000⟩ }
          else s.slot j))

/-- POWER_OFF and CLEAR_FAULT (R16, R18): POWER_OFF drains a slot that can drain with cause COMMAND and next state
PRESENT; from HELD_POWER and from POWER_WAIT, whose entry is removed and upon which the arbiter runs, the slot enters
PRESENT; a DRAINING slot answers BUSY and any other WRONG_STATE. CLEAR_FAULT takes FAULT to PRESENT with the fault
cause, the retry count and the retry timer cleared, and any other state answers WRONG_STATE. That the arbiter runs
before the slot leaves POWER_WAIT is the model's choice (notes/assumptions/43.md). -/
def Obligations.PowerOffAndClearFault : Prop :=
  ∀ (s : State) (r : Request) (rest : List Request), s.checkRequest r = none →
    (s.headIs (.command .powerOff) r rest →
      ((s.slot (commandSlot r)).state.drainable = true →
        exec .powerOff s =
          .next (State.begin ((s.startDrain (commandSlot r) .command .present .none).answered r rest .ok []))) ∧
      ((s.slot (commandSlot r)).state = .heldPower →
        ∃ u : State, u = { s with slots := u.slots } ∧
          (∀ j, u.slot j =
            if j = commandSlot r then { s.slot j with hold := none, state := .present } else s.slot j) ∧
          exec .powerOff s =
            .next (State.begin ((u.raise (.stateChange (commandSlot r))).answered r rest .ok []))) ∧
      ((s.slot (commandSlot r)).state = .powerWait → s.hasEntry (commandSlot r) .boot = true →
        ∃ u v : State,
          u = { s with
            powerQueue := s.powerQueue.filter fun e => !(e.slot = commandSlot r && e.kind = .boot) } ∧
          v = { u.arbiter with slots := v.slots } ∧
          (∀ j, v.slot j =
            if j = commandSlot r then { u.arbiter.slot j with state := .present } else u.arbiter.slot j) ∧
          exec .powerOff s =
            .next (State.begin ((v.raise (.stateChange (commandSlot r))).answered r rest .ok []))) ∧
      ((s.slot (commandSlot r)).state = .draining →
        exec .powerOff s = .next (State.begin (s.answered r rest .busy []))) ∧
      ((s.slot (commandSlot r)).state ∈ [SlotState.empty, .debounce, .present, .fault, .disabled] →
        exec .powerOff s = .next (State.begin (s.answered r rest .wrongState [])))) ∧
    (s.headIs (.command .clearFault) r rest →
      ((s.slot (commandSlot r)).state = .fault →
        ∃ u : State, u = { s with slots := u.slots } ∧
          (∀ j, u.slot j =
            if j = commandSlot r then
              { s.slot j with faultCause := .none, retryCount := 0, retry := none, state := .present }
            else s.slot j) ∧
          exec .clearFault s =
            .next (State.begin ((u.raise (.stateChange (commandSlot r))).answered r rest .ok []))) ∧
      ((s.slot (commandSlot r)).state ≠ .fault →
        exec .clearFault s = .next (State.begin (s.answered r rest .wrongState []))))

/-- RESET (R17, R33, R68, R87, R107): an ONLINE slot, its power-good seen and no rail operation in flight, leaves
ONLINE, its refresh abandoned and its critical watch ended, and the RESET_PULSE holds blade reset for the reset hold,
which is not 0, the slot in RESET_HOLD with its grant kept; an UPGRADE entry of it is withdrawn. Any other slot answers
WRONG_STATE. That what begins or is cleared at the entry to a state stands so when its state change event is raised is
the model's choice (notes/assumptions/35.md). That a course through several states raises one such event, for the last,
is the model's inference (notes/assumptions/24.md). That the rail record stands changed before its report is handled is
the model's choice (notes/assumptions/40.md). -/
def Obligations.ResetPulsesRunningBlade : Prop :=
  ∀ (s : State) (r : Request) (rest : List Request), s.checkRequest r = none →
    s.headIs (.command .reset) r rest →
    ((s.slot (commandSlot r)).state ≠ .online →
      exec .reset s = .next (State.begin (s.answered r rest .wrongState []))) ∧
    ((s.slot (commandSlot r)).state = .online → (s.rail (commandSlot r)).op = .none →
      (s.rail (commandSlot r)).mainEnable = true → (s.rail (commandSlot r)).seen = true →
      s.chassis.resetHold ≠ 0 → s.hasEntry (commandSlot r) .upgrade = false →
      ∃ u : State,
        exec .reset s = .next (State.begin ((u.raise (.stateChange (commandSlot r))).answered r rest .ok [])) ∧
        u = { s with slots := u.slots, rails := u.rails, contexts := u.contexts, thermal := u.thermal } ∧
        (∀ j, u.slot j = if j = commandSlot r then { s.slot j with state := .resetHold } else s.slot j) ∧
        (∀ j, u.rail j =
          if j = commandSlot r then
            { s.rail j with
              op := .resetPulse, stage := .resetting, bladeReset := true,
              resetTimer := s.timer s.chassis.resetHold }
          else s.rail j) ∧
        (∀ j, j ≠ commandSlot r → u.context j = s.context j ∧ u.thermalOf j = s.thermalOf j) ∧
        ((s.context (commandSlot r)).mode = .refresh → (u.context (commandSlot r)).mode = .closed) ∧
        ((s.context (commandSlot r)).mode ≠ .refresh → u.context (commandSlot r) = s.context (commandSlot r)) ∧
        u.thermalOf (commandSlot r) = { s.thermalOf (commandSlot r) with critical := false, grace := none }) ∧
    ((s.slot (commandSlot r)).state = .online → s.hasEntry (commandSlot r) .upgrade = true →
      s.hasEntry (commandSlot r) .boot = false → s.chassis.resetHold ≠ 0 →
      ∃ t : State, exec .reset s = .next (State.begin (t.answered r rest .ok [])) ∧
        (t.slot (commandSlot r)).state = .resetHold ∧ t.hasEntry (commandSlot r) .upgrade = false ∧
        (t.grantOf (commandSlot r)).grant = (s.grantOf (commandSlot r)).grant)

/-- REFRESH (R65): an ONLINE slot with a CLOSED context is sent a QUERY with its generation, to its first INSTALLED
address or else to broadcast, and its context opens in REFRESH with the query wait as FIRST deadline and the larger of
the two timeouts as whole deadline; one in REFRESH answers BUSY; and a slot that is not ONLINE answers WRONG_STATE. -/
def Obligations.RefreshQueriesBlade : Prop :=
  ∀ (s : State) (r : Request) (rest : List Request), s.checkRequest r = none →
    s.headIs (.command .refresh) r rest →
    ((s.slot (commandSlot r)).state ≠ .online →
      exec .refresh s = .next (State.begin (s.answered r rest .wrongState []))) ∧
    ((s.slot (commandSlot r)).state = .online → (s.context (commandSlot r)).mode = .refresh →
      exec .refresh s = .next (State.begin (s.answered r rest .busy []))) ∧
    ((s.slot (commandSlot r)).state = .online → (s.context (commandSlot r)).mode = .closed →
      ∃ u : State, exec .refresh s = .next (State.begin (u.answered r rest .ok [])) ∧
        u = { s with contexts := u.contexts, sent := u.sent } ∧
        u.sent =
          (if s.link (slotPort (commandSlot r)) then
            s.sent ++ [⟨slotPort (commandSlot r), .query,
              s.serviceFrame ((s.firstInstalled (commandSlot r)).getD (BitVec.allOnes 48)) kindQuery
                (s.inv (commandSlot r)).generation []⟩]
          else s.sent) ∧
        ∀ j, u.context j =
          if j = commandSlot r then
            { mode := .refresh, expected := 0, declaredLength := none, declaredCount := none, assembly := [],
              rejects := 0, extensions := 0, pending := some ⟨.first, s.clock + s.chassis.queryWait⟩,
              whole := some (s.clock + max s.chassis.wholeTimeout s.chassis.queryWait),
              replyAddr := s.firstInstalled (commandSlot r), replySeq := 0 }
          else s.context j)

/-- CONTROLLER_RESET, WARM_RESET_INPUT_ASSERTED and WARM_RESET_INPUT_DEASSERTED (R44, R175, R177, R178): a warm reset
empties the service input queue and the Notice Queue, abandons refreshes, begins every open window afresh and fills the
buckets, and changes no slot, rail, grant, table or setting; CONTROLLER_RESET is answered first and raises its event at
the end; the input's assertion raises none, and its release does. That a command which stands for no event changes
nothing is the model's choice (notes/assumptions/2.md).That a context in WINDOW keeps its reply sequence is the model's
inference (notes/assumptions/33.md). -/
def Obligations.WarmResetClearsServicing : Prop :=
  ∀ s : State, ∃ w : State,
    w = { s with
      requests := [], writeJob := none, notices := [], contexts := w.contexts, meters := w.meters } ∧
    (∀ i, ((s.context i).mode = .closed → w.context i = s.context i) ∧
      ((s.context i).mode = .refresh → (w.context i).mode = .closed) ∧
      ((s.context i).mode = .window →
        w.context i =
          { mode := .window, expected := 0, declaredLength := none, declaredCount := none, assembly := [],
            rejects := 0, extensions := 0, pending := some ⟨.first, s.clock + s.chassis.firstTimeout⟩,
            whole := some (s.clock + max s.chassis.wholeTimeout s.chassis.firstTimeout), replyAddr := none,
            replySeq := (s.context i).replySeq })) ∧
    (∀ i, w.meter i = { s.meter i with tokens := 1024 * (s.map i).depth }) ∧
    (s.warmHeld = true → exec .warmResetInputAsserted s = .next s) ∧
    (s.warmHeld = false → exec .warmResetInputAsserted s = .next { w with warmHeld := true }) ∧
    (s.warmHeld = false → exec .warmResetInputDeasserted s = .next s) ∧
    (s.warmHeld = true →
      exec .warmResetInputDeasserted s = .next (State.raise { s with warmHeld := false } .warmResetDone)) ∧
    ∀ (r : Request) (rest : List Request), s.headIs (.command .controllerReset) r rest → s.checkRequest r = none →
      exec .controllerReset s = .next (State.raise { w with sent := (s.answered r rest .ok []).sent } .warmResetDone)

/-! ### Notices -/

/-- Events, send attempts and SPACING_TIMER_EXPIRY (R180 to R182): with notices disabled an event is lost; with a notice
pending for its source it is folded into it in its place; otherwise it joins the tail as a notice of its own and a send
is attempted. A send attempt sends the head, with the next sequence number and the snapshot taken then, exactly where
notices are enabled, the egress port's link is up and the spacing timer stands expired; otherwise it changes nothing.
That a send is attempted at every notice that joins is the model's inference (notes/assumptions/27.md).That
SPACING_TIMER_EXPIRY attempts a send whether or not the timer runs, and that a spacing of 0 lets one send attempt send
one notice, are the model's choice (notes/assumptions/14.md). -/
def Obligations.EventsBecomeNotices : Prop :=
  (∀ (s : State) (e : Event),
    (s.noticeCfg.enable = false → s.raise e = s) ∧
    (s.noticeCfg.enable = true → (∃ n ∈ s.notices, n.source = e.source) →
      s.raise e =
        { s with notices := s.notices.map fun n =>
            if n.source = e.source then
              { n with events := n.events ||| 1#16 <<< e.bit, reason := e.reasonAfter n.reason }
            else n }) ∧
    (s.noticeCfg.enable = true → (∀ n ∈ s.notices, n.source ≠ e.source) →
      s.raise e =
        State.attemptSend { s with notices := s.notices ++ [⟨e.source, 1#16 <<< e.bit, e.reasonAfter 0⟩] })) ∧
  (∀ s : State,
    (s.notices = [] ∨ s.noticeCfg.enable = false ∨ s.link s.noticeCfg.egress = false ∨ s.spacing ≠ none →
      s.attemptSend = s) ∧
    (∀ n rest, s.notices = n :: rest → s.noticeCfg.enable = true → s.link s.noticeCfg.egress = true →
      s.spacing = none →
      s.attemptSend =
        { s with
          notices := rest,
          noticeSeq := if s.noticeSeq < 65535 then s.noticeSeq + 1 else 0,
          spacing := if s.noticeCfg.spacing = 0 then none else s.timer s.noticeCfg.spacing,
          sent := s.sent ++ [⟨s.noticeCfg.egress, .notice,
            s.serviceFrame s.noticeCfg.dst kindNotice (if s.noticeSeq < 65535 then s.noticeSeq + 1 else 0)
              ([byte1 n.source.code] ++ be16 n.events.toNat ++ [byte1 n.reason] ++
                be16 (s.snapshot n.source).length ++ s.snapshot n.source)⟩] }) ∧
    exec .spacingTimerExpiry s = .next (State.attemptSend { s with spacing := none }))

/-! ### Invariants -/

/-- Every step keeps the rails lawful: main enable and discharge enable never stand asserted together, neither while the
dead interval runs, and no main enable while the interlock is asserted (R28, R35, R39). -/
def Obligations.StepKeepsRailsLawful : Prop :=
  ∀ s t : State, s.railsLawful → step s = .next t → t.railsLawful

/-- Every step keeps the sum of the grants not marked releasing at or below C_avail (R77). -/
def Obligations.StepKeepsBudget : Prop :=
  ∀ s t : State, s.budgetHeld → step s = .next t → t.budgetHeld

/-- Every step keeps each power-cap line, and the capped mark, asserted exactly where the grant is below the target or
the thermal cap is set (R38, R76). -/
def Obligations.StepKeepsCapLines : Prop :=
  ∀ s t : State, s.capLinesLawful → step s = .next t → t.capLinesLawful

/-- Every step keeps what State.lifecycleLawful says of each slot: when its grant is releasing and its drain's next
state recorded (R1, R93), the bounds of its grant and target, which are 0 without slot power (R75), the target as the
declared power in HELD_ONLINE and ONLINE (R75), a BOOT entry exactly in POWER_WAIT and an UPGRADE entry exactly where
one is due, one entry at most (R79), the assembly context in WINDOW exactly in ANNOUNCING and in REFRESH only in ONLINE
(R45, R65), and the policies' ranges (R78). -/
def Obligations.StepKeepsLifecycle : Prop :=
  ∀ s t : State, s.lifecycleLawful → step s = .next t → t.lifecycleLawful

/-- Every step keeps each address at most once in the Station Table (R157); and every step keeps the uplinks and the
active lists lawful: a usable uplink has its link up and its hold-down timer stopped, and every active list is the list
of the usable members in order (R146, R148, R150). -/
def Obligations.StepKeepsFramePathTables : Prop :=
  (∀ s t : State, s.stationsDistinct → step s = .next t → t.stationsDistinct) ∧
  (∀ s t : State, s.uplinksLawful → step s = .next t → t.uplinksLawful)

/-- Every step keeps each bucket at or below its depth (R161); every step keeps the service input queue within its four
places (R169); and every step keeps at most one notice for each source (R181). -/
def Obligations.StepKeepsQueuesBounded : Prop :=
  (∀ s t : State, s.tokensHeld → step s = .next t → t.tokensHeld) ∧
  (∀ s t : State, s.requestsHeld → step s = .next t → t.requestsHeld) ∧
  (∀ s t : State, s.noticesHeld → step s = .next t → t.noticesHeld)

/-- The state after reset meets every invariant the steps keep. That every sampled level is deasserted in that state is
the model's choice (notes/assumptions/6.md). -/
def Obligations.ResetMeetsInvariants : Prop :=
  State.reset.railsLawful ∧ State.reset.budgetHeld ∧ State.reset.capLinesLawful ∧ State.reset.lifecycleLawful ∧
  State.reset.stationsDistinct ∧ State.reset.uplinksLawful ∧ State.reset.tokensHeld ∧ State.reset.requestsHeld ∧
  State.reset.noticesHeld
end

