-- ==== Sys2Proof/Laws/Deadlines.lean ====
section
/-!
SUPPORT. When a deadline of an assembly context is due, and what its expiry then hands on.
-/

namespace Sys2Proof.Machine

/-- A context is overdue exactly where its pending deadline or its whole deadline has been reached (R55). -/
theorem Context.overdue_iff (c : Context) (now : Nat) :
    c.overdue now = true ↔
      (∃ d, c.pending = some d ∧ d.due ≤ now) ∨ ∃ w, c.whole = some w ∧ w ≤ now := by
  unfold Context.overdue reached
  cases c.pending <;> cases c.whole <;> simp

/-- A context with no deadline is never overdue. -/
theorem Context.overdue_of_none (c : Context) (now : Nat) (h : c.pending = none) (k : c.whole = none) :
    c.overdue now = false := by
  simp [Context.overdue, reached, h, k]

end Sys2Proof.Machine
end

