-- ==== Sys2Proof/Laws/State.lean ====
section
/-!
SUPPORT. The small lemmas of the tables and of State: reading a table after a write, and for every update one lemma per
field, each true by rfl.
-/

namespace Sys2Proof

/-! ### Tables -/

@[simp] theorem Tab.get_put_self {α : Type} {n : Nat} (t : Vector α n) (i : Fin n) (x : α) :
    Tab.get (Tab.put t i x) i = x := by simp [Tab.get, Tab.put]

theorem Tab.get_put_ne {α : Type} {n : Nat} (t : Vector α n) {i j : Fin n} (x : α) (h : j ≠ i) :
    Tab.get (Tab.put t i x) j = Tab.get t j := by
  have hv : i.val ≠ j.val := fun e => h (Fin.ext e.symm)
  simp [Tab.get, Tab.put, hv]

theorem Tab.get_put {α : Type} {n : Nat} (t : Vector α n) (i j : Fin n) (x : α) :
    Tab.get (Tab.put t i x) j = if j = i then x else Tab.get t j := by
  by_cases h : j = i
  · simp [h]
  · simp [h, Tab.get_put_ne]

@[simp] theorem Tab.get_upd_self {α : Type} {n : Nat} (t : Vector α n) (i : Fin n) (f : α → α) :
    Tab.get (Tab.upd t i f) i = f (Tab.get t i) := by simp [Tab.upd]

theorem Tab.get_upd_ne {α : Type} {n : Nat} (t : Vector α n) {i j : Fin n} (f : α → α) (h : j ≠ i) :
    Tab.get (Tab.upd t i f) j = Tab.get t j := by simp [Tab.upd, Tab.get_put_ne _ _ h]

theorem Tab.get_upd {α : Type} {n : Nat} (t : Vector α n) (i j : Fin n) (f : α → α) :
    Tab.get (Tab.upd t i f) j = if j = i then f (Tab.get t i) else Tab.get t j := by
  simp [Tab.upd, Tab.get_put]

@[simp] theorem Tab.get_make {α : Type} {n : Nat} (f : Fin n → α) (i : Fin n) : Tab.get (Tab.make f) i = f i := by
  simp [Tab.get, Tab.make]

@[simp] theorem Tab.get_each {α : Type} {n : Nat} (f : Fin n → α → α) (t : Vector α n) (i : Fin n) :
    Tab.get (Tab.each f t) i = f i (Tab.get t i) := by simp [Tab.each]

/-- Two tables that read the same everywhere are the same table. -/
theorem Tab.ext_get {α : Type} {n : Nat} {t u : Vector α n} (h : ∀ i, Tab.get t i = Tab.get u i) : t = u := by
  ext k hk
  exact h ⟨k, hk⟩

namespace Machine

/-! ### Every update leaves every other field -/

section updSlot

variable (s : State) (i : SlotId) (f : Slot → Slot)

@[simp] theorem State.updSlot_clock : (s.updSlot i f).clock = s.clock := rfl
@[simp] theorem State.updSlot_slots : (s.updSlot i f).slots = Tab.upd s.slots i f := rfl
@[simp] theorem State.updSlot_policies : (s.updSlot i f).policies = s.policies := rfl
@[simp] theorem State.updSlot_chassis : (s.updSlot i f).chassis = s.chassis := rfl
@[simp] theorem State.updSlot_interlock : (s.updSlot i f).interlock = s.interlock := rfl
@[simp] theorem State.updSlot_rails : (s.updSlot i f).rails = s.rails := rfl
@[simp] theorem State.updSlot_contexts : (s.updSlot i f).contexts = s.contexts := rfl
@[simp] theorem State.updSlot_inventory : (s.updSlot i f).inventory = s.inventory := rfl
@[simp] theorem State.updSlot_psus : (s.updSlot i f).psus = s.psus := rfl
@[simp] theorem State.updSlot_grants : (s.updSlot i f).grants = s.grants := rfl
@[simp] theorem State.updSlot_powerQueue : (s.updSlot i f).powerQueue = s.powerQueue := rfl
@[simp] theorem State.updSlot_queueCounter : (s.updSlot i f).queueCounter = s.queueCounter := rfl
@[simp] theorem State.updSlot_admissionCounter : (s.updSlot i f).admissionCounter = s.admissionCounter := rfl
@[simp] theorem State.updSlot_thermal : (s.updSlot i f).thermal = s.thermal := rfl
@[simp] theorem State.updSlot_zones : (s.updSlot i f).zones = s.zones := rfl
@[simp] theorem State.updSlot_fans : (s.updSlot i f).fans = s.fans := rfl
@[simp] theorem State.updSlot_links : (s.updSlot i f).links = s.links := rfl
@[simp] theorem State.updSlot_portRole : (s.updSlot i f).portRole = s.portRole := rfl
@[simp] theorem State.updSlot_gateDrops : (s.updSlot i f).gateDrops = s.gateDrops := rfl
@[simp] theorem State.updSlot_classify : (s.updSlot i f).classify = s.classify := rfl
@[simp] theorem State.updSlot_uplinks : (s.updSlot i f).uplinks = s.uplinks := rfl
@[simp] theorem State.updSlot_groups : (s.updSlot i f).groups = s.groups := rfl
@[simp] theorem State.updSlot_uplinkMap : (s.updSlot i f).uplinkMap = s.uplinkMap := rfl
@[simp] theorem State.updSlot_stations : (s.updSlot i f).stations = s.stations := rfl
@[simp] theorem State.updSlot_meters : (s.updSlot i f).meters = s.meters := rfl
@[simp] theorem State.updSlot_chassisNumber : (s.updSlot i f).chassisNumber = s.chassisNumber := rfl
@[simp] theorem State.updSlot_identities : (s.updSlot i f).identities = s.identities := rfl
@[simp] theorem State.updSlot_requests : (s.updSlot i f).requests = s.requests := rfl
@[simp] theorem State.updSlot_writeJob : (s.updSlot i f).writeJob = s.writeJob := rfl
@[simp] theorem State.updSlot_warmHeld : (s.updSlot i f).warmHeld = s.warmHeld := rfl
@[simp] theorem State.updSlot_notices : (s.updSlot i f).notices = s.notices := rfl
@[simp] theorem State.updSlot_noticeCfg : (s.updSlot i f).noticeCfg = s.noticeCfg := rfl
@[simp] theorem State.updSlot_spacing : (s.updSlot i f).spacing = s.spacing := rfl
@[simp] theorem State.updSlot_noticeSeq : (s.updSlot i f).noticeSeq = s.noticeSeq := rfl
@[simp] theorem State.updSlot_sent : (s.updSlot i f).sent = s.sent := rfl
@[simp] theorem State.updSlot_pending : (s.updSlot i f).pending = s.pending := rfl
@[simp] theorem State.updSlot_slot_self : (s.updSlot i f).slot i = f (s.slot i) := by
  simp [State.slot]
theorem State.updSlot_slot_ne {i j : SlotId} (h : j ≠ i) : (s.updSlot i f).slot j = s.slot j := by
  simp [State.slot, Tab.get_upd_ne _ _ h]
theorem State.updSlot_slot (j : SlotId) :
    (s.updSlot i f).slot j = if j = i then f (s.slot i) else s.slot j := by
  simp [State.slot, Tab.get_upd]
@[simp] theorem State.updSlot_policy (j : SlotId) : (s.updSlot i f).policy j = s.policy j := rfl
@[simp] theorem State.updSlot_rail (j : SlotId) : (s.updSlot i f).rail j = s.rail j := rfl
@[simp] theorem State.updSlot_context (j : SlotId) : (s.updSlot i f).context j = s.context j := rfl
@[simp] theorem State.updSlot_inv (j : SlotId) : (s.updSlot i f).inv j = s.inv j := rfl
@[simp] theorem State.updSlot_psu (j : PsuId) : (s.updSlot i f).psu j = s.psu j := rfl
@[simp] theorem State.updSlot_grantOf (j : SlotId) : (s.updSlot i f).grantOf j = s.grantOf j := rfl
@[simp] theorem State.updSlot_thermalOf (j : SlotId) : (s.updSlot i f).thermalOf j = s.thermalOf j := rfl
@[simp] theorem State.updSlot_zone (j : ZoneId) : (s.updSlot i f).zone j = s.zone j := rfl
@[simp] theorem State.updSlot_fan (j : FanId) : (s.updSlot i f).fan j = s.fan j := rfl
@[simp] theorem State.updSlot_link (j : PortId) : (s.updSlot i f).link j = s.link j := rfl
@[simp] theorem State.updSlot_gateDrop (j : SlotId) : (s.updSlot i f).gateDrop j = s.gateDrop j := rfl
@[simp] theorem State.updSlot_classEntry (j : (Fin 64)) : (s.updSlot i f).classEntry j = s.classEntry j := rfl
@[simp] theorem State.updSlot_uplink (j : UplinkId) : (s.updSlot i f).uplink j = s.uplink j := rfl
@[simp] theorem State.updSlot_group (j : GroupId) : (s.updSlot i f).group j = s.group j := rfl
@[simp] theorem State.updSlot_map (j : SlotId) : (s.updSlot i f).map j = s.map j := rfl
@[simp] theorem State.updSlot_station (j : (Fin 64)) : (s.updSlot i f).station j = s.station j := rfl
@[simp] theorem State.updSlot_meter (j : SlotId) : (s.updSlot i f).meter j = s.meter j := rfl
@[simp] theorem State.updSlot_identity (j : IdentityId) : (s.updSlot i f).identity j = s.identity j := rfl

end updSlot

section updPolicy

variable (s : State) (i : SlotId) (f : SlotPolicy → SlotPolicy)

@[simp] theorem State.updPolicy_clock : (s.updPolicy i f).clock = s.clock := rfl
@[simp] theorem State.updPolicy_slots : (s.updPolicy i f).slots = s.slots := rfl
@[simp] theorem State.updPolicy_policies : (s.updPolicy i f).policies = Tab.upd s.policies i f := rfl
@[simp] theorem State.updPolicy_chassis : (s.updPolicy i f).chassis = s.chassis := rfl
@[simp] theorem State.updPolicy_interlock : (s.updPolicy i f).interlock = s.interlock := rfl
@[simp] theorem State.updPolicy_rails : (s.updPolicy i f).rails = s.rails := rfl
@[simp] theorem State.updPolicy_contexts : (s.updPolicy i f).contexts = s.contexts := rfl
@[simp] theorem State.updPolicy_inventory : (s.updPolicy i f).inventory = s.inventory := rfl
@[simp] theorem State.updPolicy_psus : (s.updPolicy i f).psus = s.psus := rfl
@[simp] theorem State.updPolicy_grants : (s.updPolicy i f).grants = s.grants := rfl
@[simp] theorem State.updPolicy_powerQueue : (s.updPolicy i f).powerQueue = s.powerQueue := rfl
@[simp] theorem State.updPolicy_queueCounter : (s.updPolicy i f).queueCounter = s.queueCounter := rfl
@[simp] theorem State.updPolicy_admissionCounter : (s.updPolicy i f).admissionCounter = s.admissionCounter := rfl
@[simp] theorem State.updPolicy_thermal : (s.updPolicy i f).thermal = s.thermal := rfl
@[simp] theorem State.updPolicy_zones : (s.updPolicy i f).zones = s.zones := rfl
@[simp] theorem State.updPolicy_fans : (s.updPolicy i f).fans = s.fans := rfl
@[simp] theorem State.updPolicy_links : (s.updPolicy i f).links = s.links := rfl
@[simp] theorem State.updPolicy_portRole : (s.updPolicy i f).portRole = s.portRole := rfl
@[simp] theorem State.updPolicy_gateDrops : (s.updPolicy i f).gateDrops = s.gateDrops := rfl
@[simp] theorem State.updPolicy_classify : (s.updPolicy i f).classify = s.classify := rfl
@[simp] theorem State.updPolicy_uplinks : (s.updPolicy i f).uplinks = s.uplinks := rfl
@[simp] theorem State.updPolicy_groups : (s.updPolicy i f).groups = s.groups := rfl
@[simp] theorem State.updPolicy_uplinkMap : (s.updPolicy i f).uplinkMap = s.uplinkMap := rfl
@[simp] theorem State.updPolicy_stations : (s.updPolicy i f).stations = s.stations := rfl
@[simp] theorem State.updPolicy_meters : (s.updPolicy i f).meters = s.meters := rfl
@[simp] theorem State.updPolicy_chassisNumber : (s.updPolicy i f).chassisNumber = s.chassisNumber := rfl
@[simp] theorem State.updPolicy_identities : (s.updPolicy i f).identities = s.identities := rfl
@[simp] theorem State.updPolicy_requests : (s.updPolicy i f).requests = s.requests := rfl
@[simp] theorem State.updPolicy_writeJob : (s.updPolicy i f).writeJob = s.writeJob := rfl
@[simp] theorem State.updPolicy_warmHeld : (s.updPolicy i f).warmHeld = s.warmHeld := rfl
@[simp] theorem State.updPolicy_notices : (s.updPolicy i f).notices = s.notices := rfl
@[simp] theorem State.updPolicy_noticeCfg : (s.updPolicy i f).noticeCfg = s.noticeCfg := rfl
@[simp] theorem State.updPolicy_spacing : (s.updPolicy i f).spacing = s.spacing := rfl
@[simp] theorem State.updPolicy_noticeSeq : (s.updPolicy i f).noticeSeq = s.noticeSeq := rfl
@[simp] theorem State.updPolicy_sent : (s.updPolicy i f).sent = s.sent := rfl
@[simp] theorem State.updPolicy_pending : (s.updPolicy i f).pending = s.pending := rfl
@[simp] theorem State.updPolicy_slot (j : SlotId) : (s.updPolicy i f).slot j = s.slot j := rfl
@[simp] theorem State.updPolicy_policy_self : (s.updPolicy i f).policy i = f (s.policy i) := by
  simp [State.policy]
theorem State.updPolicy_policy_ne {i j : SlotId} (h : j ≠ i) : (s.updPolicy i f).policy j = s.policy j := by
  simp [State.policy, Tab.get_upd_ne _ _ h]
theorem State.updPolicy_policy (j : SlotId) :
    (s.updPolicy i f).policy j = if j = i then f (s.policy i) else s.policy j := by
  simp [State.policy, Tab.get_upd]
@[simp] theorem State.updPolicy_rail (j : SlotId) : (s.updPolicy i f).rail j = s.rail j := rfl
@[simp] theorem State.updPolicy_context (j : SlotId) : (s.updPolicy i f).context j = s.context j := rfl
@[simp] theorem State.updPolicy_inv (j : SlotId) : (s.updPolicy i f).inv j = s.inv j := rfl
@[simp] theorem State.updPolicy_psu (j : PsuId) : (s.updPolicy i f).psu j = s.psu j := rfl
@[simp] theorem State.updPolicy_grantOf (j : SlotId) : (s.updPolicy i f).grantOf j = s.grantOf j := rfl
@[simp] theorem State.updPolicy_thermalOf (j : SlotId) : (s.updPolicy i f).thermalOf j = s.thermalOf j := rfl
@[simp] theorem State.updPolicy_zone (j : ZoneId) : (s.updPolicy i f).zone j = s.zone j := rfl
@[simp] theorem State.updPolicy_fan (j : FanId) : (s.updPolicy i f).fan j = s.fan j := rfl
@[simp] theorem State.updPolicy_link (j : PortId) : (s.updPolicy i f).link j = s.link j := rfl
@[simp] theorem State.updPolicy_gateDrop (j : SlotId) : (s.updPolicy i f).gateDrop j = s.gateDrop j := rfl
@[simp] theorem State.updPolicy_classEntry (j : (Fin 64)) : (s.updPolicy i f).classEntry j = s.classEntry j := rfl
@[simp] theorem State.updPolicy_uplink (j : UplinkId) : (s.updPolicy i f).uplink j = s.uplink j := rfl
@[simp] theorem State.updPolicy_group (j : GroupId) : (s.updPolicy i f).group j = s.group j := rfl
@[simp] theorem State.updPolicy_map (j : SlotId) : (s.updPolicy i f).map j = s.map j := rfl
@[simp] theorem State.updPolicy_station (j : (Fin 64)) : (s.updPolicy i f).station j = s.station j := rfl
@[simp] theorem State.updPolicy_meter (j : SlotId) : (s.updPolicy i f).meter j = s.meter j := rfl
@[simp] theorem State.updPolicy_identity (j : IdentityId) : (s.updPolicy i f).identity j = s.identity j := rfl

end updPolicy

section updRail

variable (s : State) (i : SlotId) (f : Rail → Rail)

@[simp] theorem State.updRail_clock : (s.updRail i f).clock = s.clock := rfl
@[simp] theorem State.updRail_slots : (s.updRail i f).slots = s.slots := rfl
@[simp] theorem State.updRail_policies : (s.updRail i f).policies = s.policies := rfl
@[simp] theorem State.updRail_chassis : (s.updRail i f).chassis = s.chassis := rfl
@[simp] theorem State.updRail_interlock : (s.updRail i f).interlock = s.interlock := rfl
@[simp] theorem State.updRail_rails : (s.updRail i f).rails = Tab.upd s.rails i f := rfl
@[simp] theorem State.updRail_contexts : (s.updRail i f).contexts = s.contexts := rfl
@[simp] theorem State.updRail_inventory : (s.updRail i f).inventory = s.inventory := rfl
@[simp] theorem State.updRail_psus : (s.updRail i f).psus = s.psus := rfl
@[simp] theorem State.updRail_grants : (s.updRail i f).grants = s.grants := rfl
@[simp] theorem State.updRail_powerQueue : (s.updRail i f).powerQueue = s.powerQueue := rfl
@[simp] theorem State.updRail_queueCounter : (s.updRail i f).queueCounter = s.queueCounter := rfl
@[simp] theorem State.updRail_admissionCounter : (s.updRail i f).admissionCounter = s.admissionCounter := rfl
@[simp] theorem State.updRail_thermal : (s.updRail i f).thermal = s.thermal := rfl
@[simp] theorem State.updRail_zones : (s.updRail i f).zones = s.zones := rfl
@[simp] theorem State.updRail_fans : (s.updRail i f).fans = s.fans := rfl
@[simp] theorem State.updRail_links : (s.updRail i f).links = s.links := rfl
@[simp] theorem State.updRail_portRole : (s.updRail i f).portRole = s.portRole := rfl
@[simp] theorem State.updRail_gateDrops : (s.updRail i f).gateDrops = s.gateDrops := rfl
@[simp] theorem State.updRail_classify : (s.updRail i f).classify = s.classify := rfl
@[simp] theorem State.updRail_uplinks : (s.updRail i f).uplinks = s.uplinks := rfl
@[simp] theorem State.updRail_groups : (s.updRail i f).groups = s.groups := rfl
@[simp] theorem State.updRail_uplinkMap : (s.updRail i f).uplinkMap = s.uplinkMap := rfl
@[simp] theorem State.updRail_stations : (s.updRail i f).stations = s.stations := rfl
@[simp] theorem State.updRail_meters : (s.updRail i f).meters = s.meters := rfl
@[simp] theorem State.updRail_chassisNumber : (s.updRail i f).chassisNumber = s.chassisNumber := rfl
@[simp] theorem State.updRail_identities : (s.updRail i f).identities = s.identities := rfl
@[simp] theorem State.updRail_requests : (s.updRail i f).requests = s.requests := rfl
@[simp] theorem State.updRail_writeJob : (s.updRail i f).writeJob = s.writeJob := rfl
@[simp] theorem State.updRail_warmHeld : (s.updRail i f).warmHeld = s.warmHeld := rfl
@[simp] theorem State.updRail_notices : (s.updRail i f).notices = s.notices := rfl
@[simp] theorem State.updRail_noticeCfg : (s.updRail i f).noticeCfg = s.noticeCfg := rfl
@[simp] theorem State.updRail_spacing : (s.updRail i f).spacing = s.spacing := rfl
@[simp] theorem State.updRail_noticeSeq : (s.updRail i f).noticeSeq = s.noticeSeq := rfl
@[simp] theorem State.updRail_sent : (s.updRail i f).sent = s.sent := rfl
@[simp] theorem State.updRail_pending : (s.updRail i f).pending = s.pending := rfl
@[simp] theorem State.updRail_slot (j : SlotId) : (s.updRail i f).slot j = s.slot j := rfl
@[simp] theorem State.updRail_policy (j : SlotId) : (s.updRail i f).policy j = s.policy j := rfl
@[simp] theorem State.updRail_rail_self : (s.updRail i f).rail i = f (s.rail i) := by
  simp [State.rail]
theorem State.updRail_rail_ne {i j : SlotId} (h : j ≠ i) : (s.updRail i f).rail j = s.rail j := by
  simp [State.rail, Tab.get_upd_ne _ _ h]
theorem State.updRail_rail (j : SlotId) :
    (s.updRail i f).rail j = if j = i then f (s.rail i) else s.rail j := by
  simp [State.rail, Tab.get_upd]
@[simp] theorem State.updRail_context (j : SlotId) : (s.updRail i f).context j = s.context j := rfl
@[simp] theorem State.updRail_inv (j : SlotId) : (s.updRail i f).inv j = s.inv j := rfl
@[simp] theorem State.updRail_psu (j : PsuId) : (s.updRail i f).psu j = s.psu j := rfl
@[simp] theorem State.updRail_grantOf (j : SlotId) : (s.updRail i f).grantOf j = s.grantOf j := rfl
@[simp] theorem State.updRail_thermalOf (j : SlotId) : (s.updRail i f).thermalOf j = s.thermalOf j := rfl
@[simp] theorem State.updRail_zone (j : ZoneId) : (s.updRail i f).zone j = s.zone j := rfl
@[simp] theorem State.updRail_fan (j : FanId) : (s.updRail i f).fan j = s.fan j := rfl
@[simp] theorem State.updRail_link (j : PortId) : (s.updRail i f).link j = s.link j := rfl
@[simp] theorem State.updRail_gateDrop (j : SlotId) : (s.updRail i f).gateDrop j = s.gateDrop j := rfl
@[simp] theorem State.updRail_classEntry (j : (Fin 64)) : (s.updRail i f).classEntry j = s.classEntry j := rfl
@[simp] theorem State.updRail_uplink (j : UplinkId) : (s.updRail i f).uplink j = s.uplink j := rfl
@[simp] theorem State.updRail_group (j : GroupId) : (s.updRail i f).group j = s.group j := rfl
@[simp] theorem State.updRail_map (j : SlotId) : (s.updRail i f).map j = s.map j := rfl
@[simp] theorem State.updRail_station (j : (Fin 64)) : (s.updRail i f).station j = s.station j := rfl
@[simp] theorem State.updRail_meter (j : SlotId) : (s.updRail i f).meter j = s.meter j := rfl
@[simp] theorem State.updRail_identity (j : IdentityId) : (s.updRail i f).identity j = s.identity j := rfl

end updRail

section updContext

variable (s : State) (i : SlotId) (f : Context → Context)

@[simp] theorem State.updContext_clock : (s.updContext i f).clock = s.clock := rfl
@[simp] theorem State.updContext_slots : (s.updContext i f).slots = s.slots := rfl
@[simp] theorem State.updContext_policies : (s.updContext i f).policies = s.policies := rfl
@[simp] theorem State.updContext_chassis : (s.updContext i f).chassis = s.chassis := rfl
@[simp] theorem State.updContext_interlock : (s.updContext i f).interlock = s.interlock := rfl
@[simp] theorem State.updContext_rails : (s.updContext i f).rails = s.rails := rfl
@[simp] theorem State.updContext_contexts : (s.updContext i f).contexts = Tab.upd s.contexts i f := rfl
@[simp] theorem State.updContext_inventory : (s.updContext i f).inventory = s.inventory := rfl
@[simp] theorem State.updContext_psus : (s.updContext i f).psus = s.psus := rfl
@[simp] theorem State.updContext_grants : (s.updContext i f).grants = s.grants := rfl
@[simp] theorem State.updContext_powerQueue : (s.updContext i f).powerQueue = s.powerQueue := rfl
@[simp] theorem State.updContext_queueCounter : (s.updContext i f).queueCounter = s.queueCounter := rfl
@[simp] theorem State.updContext_admissionCounter : (s.updContext i f).admissionCounter = s.admissionCounter := rfl
@[simp] theorem State.updContext_thermal : (s.updContext i f).thermal = s.thermal := rfl
@[simp] theorem State.updContext_zones : (s.updContext i f).zones = s.zones := rfl
@[simp] theorem State.updContext_fans : (s.updContext i f).fans = s.fans := rfl
@[simp] theorem State.updContext_links : (s.updContext i f).links = s.links := rfl
@[simp] theorem State.updContext_portRole : (s.updContext i f).portRole = s.portRole := rfl
@[simp] theorem State.updContext_gateDrops : (s.updContext i f).gateDrops = s.gateDrops := rfl
@[simp] theorem State.updContext_classify : (s.updContext i f).classify = s.classify := rfl
@[simp] theorem State.updContext_uplinks : (s.updContext i f).uplinks = s.uplinks := rfl
@[simp] theorem State.updContext_groups : (s.updContext i f).groups = s.groups := rfl
@[simp] theorem State.updContext_uplinkMap : (s.updContext i f).uplinkMap = s.uplinkMap := rfl
@[simp] theorem State.updContext_stations : (s.updContext i f).stations = s.stations := rfl
@[simp] theorem State.updContext_meters : (s.updContext i f).meters = s.meters := rfl
@[simp] theorem State.updContext_chassisNumber : (s.updContext i f).chassisNumber = s.chassisNumber := rfl
@[simp] theorem State.updContext_identities : (s.updContext i f).identities = s.identities := rfl
@[simp] theorem State.updContext_requests : (s.updContext i f).requests = s.requests := rfl
@[simp] theorem State.updContext_writeJob : (s.updContext i f).writeJob = s.writeJob := rfl
@[simp] theorem State.updContext_warmHeld : (s.updContext i f).warmHeld = s.warmHeld := rfl
@[simp] theorem State.updContext_notices : (s.updContext i f).notices = s.notices := rfl
@[simp] theorem State.updContext_noticeCfg : (s.updContext i f).noticeCfg = s.noticeCfg := rfl
@[simp] theorem State.updContext_spacing : (s.updContext i f).spacing = s.spacing := rfl
@[simp] theorem State.updContext_noticeSeq : (s.updContext i f).noticeSeq = s.noticeSeq := rfl
@[simp] theorem State.updContext_sent : (s.updContext i f).sent = s.sent := rfl
@[simp] theorem State.updContext_pending : (s.updContext i f).pending = s.pending := rfl
@[simp] theorem State.updContext_slot (j : SlotId) : (s.updContext i f).slot j = s.slot j := rfl
@[simp] theorem State.updContext_policy (j : SlotId) : (s.updContext i f).policy j = s.policy j := rfl
@[simp] theorem State.updContext_rail (j : SlotId) : (s.updContext i f).rail j = s.rail j := rfl
@[simp] theorem State.updContext_context_self : (s.updContext i f).context i = f (s.context i) := by
  simp [State.context]
theorem State.updContext_context_ne {i j : SlotId} (h : j ≠ i) : (s.updContext i f).context j = s.context j := by
  simp [State.context, Tab.get_upd_ne _ _ h]
theorem State.updContext_context (j : SlotId) :
    (s.updContext i f).context j = if j = i then f (s.context i) else s.context j := by
  simp [State.context, Tab.get_upd]
@[simp] theorem State.updContext_inv (j : SlotId) : (s.updContext i f).inv j = s.inv j := rfl
@[simp] theorem State.updContext_psu (j : PsuId) : (s.updContext i f).psu j = s.psu j := rfl
@[simp] theorem State.updContext_grantOf (j : SlotId) : (s.updContext i f).grantOf j = s.grantOf j := rfl
@[simp] theorem State.updContext_thermalOf (j : SlotId) : (s.updContext i f).thermalOf j = s.thermalOf j := rfl
@[simp] theorem State.updContext_zone (j : ZoneId) : (s.updContext i f).zone j = s.zone j := rfl
@[simp] theorem State.updContext_fan (j : FanId) : (s.updContext i f).fan j = s.fan j := rfl
@[simp] theorem State.updContext_link (j : PortId) : (s.updContext i f).link j = s.link j := rfl
@[simp] theorem State.updContext_gateDrop (j : SlotId) : (s.updContext i f).gateDrop j = s.gateDrop j := rfl
@[simp] theorem State.updContext_classEntry (j : (Fin 64)) : (s.updContext i f).classEntry j = s.classEntry j := rfl
@[simp] theorem State.updContext_uplink (j : UplinkId) : (s.updContext i f).uplink j = s.uplink j := rfl
@[simp] theorem State.updContext_group (j : GroupId) : (s.updContext i f).group j = s.group j := rfl
@[simp] theorem State.updContext_map (j : SlotId) : (s.updContext i f).map j = s.map j := rfl
@[simp] theorem State.updContext_station (j : (Fin 64)) : (s.updContext i f).station j = s.station j := rfl
@[simp] theorem State.updContext_meter (j : SlotId) : (s.updContext i f).meter j = s.meter j := rfl
@[simp] theorem State.updContext_identity (j : IdentityId) : (s.updContext i f).identity j = s.identity j := rfl

end updContext

section updInv

variable (s : State) (i : SlotId) (f : Inventory → Inventory)

@[simp] theorem State.updInv_clock : (s.updInv i f).clock = s.clock := rfl
@[simp] theorem State.updInv_slots : (s.updInv i f).slots = s.slots := rfl
@[simp] theorem State.updInv_policies : (s.updInv i f).policies = s.policies := rfl
@[simp] theorem State.updInv_chassis : (s.updInv i f).chassis = s.chassis := rfl
@[simp] theorem State.updInv_interlock : (s.updInv i f).interlock = s.interlock := rfl
@[simp] theorem State.updInv_rails : (s.updInv i f).rails = s.rails := rfl
@[simp] theorem State.updInv_contexts : (s.updInv i f).contexts = s.contexts := rfl
@[simp] theorem State.updInv_inventory : (s.updInv i f).inventory = Tab.upd s.inventory i f := rfl
@[simp] theorem State.updInv_psus : (s.updInv i f).psus = s.psus := rfl
@[simp] theorem State.updInv_grants : (s.updInv i f).grants = s.grants := rfl
@[simp] theorem State.updInv_powerQueue : (s.updInv i f).powerQueue = s.powerQueue := rfl
@[simp] theorem State.updInv_queueCounter : (s.updInv i f).queueCounter = s.queueCounter := rfl
@[simp] theorem State.updInv_admissionCounter : (s.updInv i f).admissionCounter = s.admissionCounter := rfl
@[simp] theorem State.updInv_thermal : (s.updInv i f).thermal = s.thermal := rfl
@[simp] theorem State.updInv_zones : (s.updInv i f).zones = s.zones := rfl
@[simp] theorem State.updInv_fans : (s.updInv i f).fans = s.fans := rfl
@[simp] theorem State.updInv_links : (s.updInv i f).links = s.links := rfl
@[simp] theorem State.updInv_portRole : (s.updInv i f).portRole = s.portRole := rfl
@[simp] theorem State.updInv_gateDrops : (s.updInv i f).gateDrops = s.gateDrops := rfl
@[simp] theorem State.updInv_classify : (s.updInv i f).classify = s.classify := rfl
@[simp] theorem State.updInv_uplinks : (s.updInv i f).uplinks = s.uplinks := rfl
@[simp] theorem State.updInv_groups : (s.updInv i f).groups = s.groups := rfl
@[simp] theorem State.updInv_uplinkMap : (s.updInv i f).uplinkMap = s.uplinkMap := rfl
@[simp] theorem State.updInv_stations : (s.updInv i f).stations = s.stations := rfl
@[simp] theorem State.updInv_meters : (s.updInv i f).meters = s.meters := rfl
@[simp] theorem State.updInv_chassisNumber : (s.updInv i f).chassisNumber = s.chassisNumber := rfl
@[simp] theorem State.updInv_identities : (s.updInv i f).identities = s.identities := rfl
@[simp] theorem State.updInv_requests : (s.updInv i f).requests = s.requests := rfl
@[simp] theorem State.updInv_writeJob : (s.updInv i f).writeJob = s.writeJob := rfl
@[simp] theorem State.updInv_warmHeld : (s.updInv i f).warmHeld = s.warmHeld := rfl
@[simp] theorem State.updInv_notices : (s.updInv i f).notices = s.notices := rfl
@[simp] theorem State.updInv_noticeCfg : (s.updInv i f).noticeCfg = s.noticeCfg := rfl
@[simp] theorem State.updInv_spacing : (s.updInv i f).spacing = s.spacing := rfl
@[simp] theorem State.updInv_noticeSeq : (s.updInv i f).noticeSeq = s.noticeSeq := rfl
@[simp] theorem State.updInv_sent : (s.updInv i f).sent = s.sent := rfl
@[simp] theorem State.updInv_pending : (s.updInv i f).pending = s.pending := rfl
@[simp] theorem State.updInv_slot (j : SlotId) : (s.updInv i f).slot j = s.slot j := rfl
@[simp] theorem State.updInv_policy (j : SlotId) : (s.updInv i f).policy j = s.policy j := rfl
@[simp] theorem State.updInv_rail (j : SlotId) : (s.updInv i f).rail j = s.rail j := rfl
@[simp] theorem State.updInv_context (j : SlotId) : (s.updInv i f).context j = s.context j := rfl
@[simp] theorem State.updInv_inv_self : (s.updInv i f).inv i = f (s.inv i) := by
  simp [State.inv]
theorem State.updInv_inv_ne {i j : SlotId} (h : j ≠ i) : (s.updInv i f).inv j = s.inv j := by
  simp [State.inv, Tab.get_upd_ne _ _ h]
theorem State.updInv_inv (j : SlotId) :
    (s.updInv i f).inv j = if j = i then f (s.inv i) else s.inv j := by
  simp [State.inv, Tab.get_upd]
@[simp] theorem State.updInv_psu (j : PsuId) : (s.updInv i f).psu j = s.psu j := rfl
@[simp] theorem State.updInv_grantOf (j : SlotId) : (s.updInv i f).grantOf j = s.grantOf j := rfl
@[simp] theorem State.updInv_thermalOf (j : SlotId) : (s.updInv i f).thermalOf j = s.thermalOf j := rfl
@[simp] theorem State.updInv_zone (j : ZoneId) : (s.updInv i f).zone j = s.zone j := rfl
@[simp] theorem State.updInv_fan (j : FanId) : (s.updInv i f).fan j = s.fan j := rfl
@[simp] theorem State.updInv_link (j : PortId) : (s.updInv i f).link j = s.link j := rfl
@[simp] theorem State.updInv_gateDrop (j : SlotId) : (s.updInv i f).gateDrop j = s.gateDrop j := rfl
@[simp] theorem State.updInv_classEntry (j : (Fin 64)) : (s.updInv i f).classEntry j = s.classEntry j := rfl
@[simp] theorem State.updInv_uplink (j : UplinkId) : (s.updInv i f).uplink j = s.uplink j := rfl
@[simp] theorem State.updInv_group (j : GroupId) : (s.updInv i f).group j = s.group j := rfl
@[simp] theorem State.updInv_map (j : SlotId) : (s.updInv i f).map j = s.map j := rfl
@[simp] theorem State.updInv_station (j : (Fin 64)) : (s.updInv i f).station j = s.station j := rfl
@[simp] theorem State.updInv_meter (j : SlotId) : (s.updInv i f).meter j = s.meter j := rfl
@[simp] theorem State.updInv_identity (j : IdentityId) : (s.updInv i f).identity j = s.identity j := rfl

end updInv

section updPsu

variable (s : State) (i : PsuId) (f : Psu → Psu)

@[simp] theorem State.updPsu_clock : (s.updPsu i f).clock = s.clock := rfl
@[simp] theorem State.updPsu_slots : (s.updPsu i f).slots = s.slots := rfl
@[simp] theorem State.updPsu_policies : (s.updPsu i f).policies = s.policies := rfl
@[simp] theorem State.updPsu_chassis : (s.updPsu i f).chassis = s.chassis := rfl
@[simp] theorem State.updPsu_interlock : (s.updPsu i f).interlock = s.interlock := rfl
@[simp] theorem State.updPsu_rails : (s.updPsu i f).rails = s.rails := rfl
@[simp] theorem State.updPsu_contexts : (s.updPsu i f).contexts = s.contexts := rfl
@[simp] theorem State.updPsu_inventory : (s.updPsu i f).inventory = s.inventory := rfl
@[simp] theorem State.updPsu_psus : (s.updPsu i f).psus = Tab.upd s.psus i f := rfl
@[simp] theorem State.updPsu_grants : (s.updPsu i f).grants = s.grants := rfl
@[simp] theorem State.updPsu_powerQueue : (s.updPsu i f).powerQueue = s.powerQueue := rfl
@[simp] theorem State.updPsu_queueCounter : (s.updPsu i f).queueCounter = s.queueCounter := rfl
@[simp] theorem State.updPsu_admissionCounter : (s.updPsu i f).admissionCounter = s.admissionCounter := rfl
@[simp] theorem State.updPsu_thermal : (s.updPsu i f).thermal = s.thermal := rfl
@[simp] theorem State.updPsu_zones : (s.updPsu i f).zones = s.zones := rfl
@[simp] theorem State.updPsu_fans : (s.updPsu i f).fans = s.fans := rfl
@[simp] theorem State.updPsu_links : (s.updPsu i f).links = s.links := rfl
@[simp] theorem State.updPsu_portRole : (s.updPsu i f).portRole = s.portRole := rfl
@[simp] theorem State.updPsu_gateDrops : (s.updPsu i f).gateDrops = s.gateDrops := rfl
@[simp] theorem State.updPsu_classify : (s.updPsu i f).classify = s.classify := rfl
@[simp] theorem State.updPsu_uplinks : (s.updPsu i f).uplinks = s.uplinks := rfl
@[simp] theorem State.updPsu_groups : (s.updPsu i f).groups = s.groups := rfl
@[simp] theorem State.updPsu_uplinkMap : (s.updPsu i f).uplinkMap = s.uplinkMap := rfl
@[simp] theorem State.updPsu_stations : (s.updPsu i f).stations = s.stations := rfl
@[simp] theorem State.updPsu_meters : (s.updPsu i f).meters = s.meters := rfl
@[simp] theorem State.updPsu_chassisNumber : (s.updPsu i f).chassisNumber = s.chassisNumber := rfl
@[simp] theorem State.updPsu_identities : (s.updPsu i f).identities = s.identities := rfl
@[simp] theorem State.updPsu_requests : (s.updPsu i f).requests = s.requests := rfl
@[simp] theorem State.updPsu_writeJob : (s.updPsu i f).writeJob = s.writeJob := rfl
@[simp] theorem State.updPsu_warmHeld : (s.updPsu i f).warmHeld = s.warmHeld := rfl
@[simp] theorem State.updPsu_notices : (s.updPsu i f).notices = s.notices := rfl
@[simp] theorem State.updPsu_noticeCfg : (s.updPsu i f).noticeCfg = s.noticeCfg := rfl
@[simp] theorem State.updPsu_spacing : (s.updPsu i f).spacing = s.spacing := rfl
@[simp] theorem State.updPsu_noticeSeq : (s.updPsu i f).noticeSeq = s.noticeSeq := rfl
@[simp] theorem State.updPsu_sent : (s.updPsu i f).sent = s.sent := rfl
@[simp] theorem State.updPsu_pending : (s.updPsu i f).pending = s.pending := rfl
@[simp] theorem State.updPsu_slot (j : SlotId) : (s.updPsu i f).slot j = s.slot j := rfl
@[simp] theorem State.updPsu_policy (j : SlotId) : (s.updPsu i f).policy j = s.policy j := rfl
@[simp] theorem State.updPsu_rail (j : SlotId) : (s.updPsu i f).rail j = s.rail j := rfl
@[simp] theorem State.updPsu_context (j : SlotId) : (s.updPsu i f).context j = s.context j := rfl
@[simp] theorem State.updPsu_inv (j : SlotId) : (s.updPsu i f).inv j = s.inv j := rfl
@[simp] theorem State.updPsu_psu_self : (s.updPsu i f).psu i = f (s.psu i) := by
  simp [State.psu]
theorem State.updPsu_psu_ne {i j : PsuId} (h : j ≠ i) : (s.updPsu i f).psu j = s.psu j := by
  simp [State.psu, Tab.get_upd_ne _ _ h]
theorem State.updPsu_psu (j : PsuId) :
    (s.updPsu i f).psu j = if j = i then f (s.psu i) else s.psu j := by
  simp [State.psu, Tab.get_upd]
@[simp] theorem State.updPsu_grantOf (j : SlotId) : (s.updPsu i f).grantOf j = s.grantOf j := rfl
@[simp] theorem State.updPsu_thermalOf (j : SlotId) : (s.updPsu i f).thermalOf j = s.thermalOf j := rfl
@[simp] theorem State.updPsu_zone (j : ZoneId) : (s.updPsu i f).zone j = s.zone j := rfl
@[simp] theorem State.updPsu_fan (j : FanId) : (s.updPsu i f).fan j = s.fan j := rfl
@[simp] theorem State.updPsu_link (j : PortId) : (s.updPsu i f).link j = s.link j := rfl
@[simp] theorem State.updPsu_gateDrop (j : SlotId) : (s.updPsu i f).gateDrop j = s.gateDrop j := rfl
@[simp] theorem State.updPsu_classEntry (j : (Fin 64)) : (s.updPsu i f).classEntry j = s.classEntry j := rfl
@[simp] theorem State.updPsu_uplink (j : UplinkId) : (s.updPsu i f).uplink j = s.uplink j := rfl
@[simp] theorem State.updPsu_group (j : GroupId) : (s.updPsu i f).group j = s.group j := rfl
@[simp] theorem State.updPsu_map (j : SlotId) : (s.updPsu i f).map j = s.map j := rfl
@[simp] theorem State.updPsu_station (j : (Fin 64)) : (s.updPsu i f).station j = s.station j := rfl
@[simp] theorem State.updPsu_meter (j : SlotId) : (s.updPsu i f).meter j = s.meter j := rfl
@[simp] theorem State.updPsu_identity (j : IdentityId) : (s.updPsu i f).identity j = s.identity j := rfl

end updPsu

section updGrant

variable (s : State) (i : SlotId) (f : Grant → Grant)

@[simp] theorem State.updGrant_clock : (s.updGrant i f).clock = s.clock := rfl
@[simp] theorem State.updGrant_slots : (s.updGrant i f).slots = s.slots := rfl
@[simp] theorem State.updGrant_policies : (s.updGrant i f).policies = s.policies := rfl
@[simp] theorem State.updGrant_chassis : (s.updGrant i f).chassis = s.chassis := rfl
@[simp] theorem State.updGrant_interlock : (s.updGrant i f).interlock = s.interlock := rfl
@[simp] theorem State.updGrant_rails : (s.updGrant i f).rails = s.rails := rfl
@[simp] theorem State.updGrant_contexts : (s.updGrant i f).contexts = s.contexts := rfl
@[simp] theorem State.updGrant_inventory : (s.updGrant i f).inventory = s.inventory := rfl
@[simp] theorem State.updGrant_psus : (s.updGrant i f).psus = s.psus := rfl
@[simp] theorem State.updGrant_grants : (s.updGrant i f).grants = Tab.upd s.grants i f := rfl
@[simp] theorem State.updGrant_powerQueue : (s.updGrant i f).powerQueue = s.powerQueue := rfl
@[simp] theorem State.updGrant_queueCounter : (s.updGrant i f).queueCounter = s.queueCounter := rfl
@[simp] theorem State.updGrant_admissionCounter : (s.updGrant i f).admissionCounter = s.admissionCounter := rfl
@[simp] theorem State.updGrant_thermal : (s.updGrant i f).thermal = s.thermal := rfl
@[simp] theorem State.updGrant_zones : (s.updGrant i f).zones = s.zones := rfl
@[simp] theorem State.updGrant_fans : (s.updGrant i f).fans = s.fans := rfl
@[simp] theorem State.updGrant_links : (s.updGrant i f).links = s.links := rfl
@[simp] theorem State.updGrant_portRole : (s.updGrant i f).portRole = s.portRole := rfl
@[simp] theorem State.updGrant_gateDrops : (s.updGrant i f).gateDrops = s.gateDrops := rfl
@[simp] theorem State.updGrant_classify : (s.updGrant i f).classify = s.classify := rfl
@[simp] theorem State.updGrant_uplinks : (s.updGrant i f).uplinks = s.uplinks := rfl
@[simp] theorem State.updGrant_groups : (s.updGrant i f).groups = s.groups := rfl
@[simp] theorem State.updGrant_uplinkMap : (s.updGrant i f).uplinkMap = s.uplinkMap := rfl
@[simp] theorem State.updGrant_stations : (s.updGrant i f).stations = s.stations := rfl
@[simp] theorem State.updGrant_meters : (s.updGrant i f).meters = s.meters := rfl
@[simp] theorem State.updGrant_chassisNumber : (s.updGrant i f).chassisNumber = s.chassisNumber := rfl
@[simp] theorem State.updGrant_identities : (s.updGrant i f).identities = s.identities := rfl
@[simp] theorem State.updGrant_requests : (s.updGrant i f).requests = s.requests := rfl
@[simp] theorem State.updGrant_writeJob : (s.updGrant i f).writeJob = s.writeJob := rfl
@[simp] theorem State.updGrant_warmHeld : (s.updGrant i f).warmHeld = s.warmHeld := rfl
@[simp] theorem State.updGrant_notices : (s.updGrant i f).notices = s.notices := rfl
@[simp] theorem State.updGrant_noticeCfg : (s.updGrant i f).noticeCfg = s.noticeCfg := rfl
@[simp] theorem State.updGrant_spacing : (s.updGrant i f).spacing = s.spacing := rfl
@[simp] theorem State.updGrant_noticeSeq : (s.updGrant i f).noticeSeq = s.noticeSeq := rfl
@[simp] theorem State.updGrant_sent : (s.updGrant i f).sent = s.sent := rfl
@[simp] theorem State.updGrant_pending : (s.updGrant i f).pending = s.pending := rfl
@[simp] theorem State.updGrant_slot (j : SlotId) : (s.updGrant i f).slot j = s.slot j := rfl
@[simp] theorem State.updGrant_policy (j : SlotId) : (s.updGrant i f).policy j = s.policy j := rfl
@[simp] theorem State.updGrant_rail (j : SlotId) : (s.updGrant i f).rail j = s.rail j := rfl
@[simp] theorem State.updGrant_context (j : SlotId) : (s.updGrant i f).context j = s.context j := rfl
@[simp] theorem State.updGrant_inv (j : SlotId) : (s.updGrant i f).inv j = s.inv j := rfl
@[simp] theorem State.updGrant_psu (j : PsuId) : (s.updGrant i f).psu j = s.psu j := rfl
@[simp] theorem State.updGrant_grantOf_self : (s.updGrant i f).grantOf i = f (s.grantOf i) := by
  simp [State.grantOf]
theorem State.updGrant_grantOf_ne {i j : SlotId} (h : j ≠ i) : (s.updGrant i f).grantOf j = s.grantOf j := by
  simp [State.grantOf, Tab.get_upd_ne _ _ h]
theorem State.updGrant_grantOf (j : SlotId) :
    (s.updGrant i f).grantOf j = if j = i then f (s.grantOf i) else s.grantOf j := by
  simp [State.grantOf, Tab.get_upd]
@[simp] theorem State.updGrant_thermalOf (j : SlotId) : (s.updGrant i f).thermalOf j = s.thermalOf j := rfl
@[simp] theorem State.updGrant_zone (j : ZoneId) : (s.updGrant i f).zone j = s.zone j := rfl
@[simp] theorem State.updGrant_fan (j : FanId) : (s.updGrant i f).fan j = s.fan j := rfl
@[simp] theorem State.updGrant_link (j : PortId) : (s.updGrant i f).link j = s.link j := rfl
@[simp] theorem State.updGrant_gateDrop (j : SlotId) : (s.updGrant i f).gateDrop j = s.gateDrop j := rfl
@[simp] theorem State.updGrant_classEntry (j : (Fin 64)) : (s.updGrant i f).classEntry j = s.classEntry j := rfl
@[simp] theorem State.updGrant_uplink (j : UplinkId) : (s.updGrant i f).uplink j = s.uplink j := rfl
@[simp] theorem State.updGrant_group (j : GroupId) : (s.updGrant i f).group j = s.group j := rfl
@[simp] theorem State.updGrant_map (j : SlotId) : (s.updGrant i f).map j = s.map j := rfl
@[simp] theorem State.updGrant_station (j : (Fin 64)) : (s.updGrant i f).station j = s.station j := rfl
@[simp] theorem State.updGrant_meter (j : SlotId) : (s.updGrant i f).meter j = s.meter j := rfl
@[simp] theorem State.updGrant_identity (j : IdentityId) : (s.updGrant i f).identity j = s.identity j := rfl

end updGrant

section updThermal

variable (s : State) (i : SlotId) (f : ThermalRecord → ThermalRecord)

@[simp] theorem State.updThermal_clock : (s.updThermal i f).clock = s.clock := rfl
@[simp] theorem State.updThermal_slots : (s.updThermal i f).slots = s.slots := rfl
@[simp] theorem State.updThermal_policies : (s.updThermal i f).policies = s.policies := rfl
@[simp] theorem State.updThermal_chassis : (s.updThermal i f).chassis = s.chassis := rfl
@[simp] theorem State.updThermal_interlock : (s.updThermal i f).interlock = s.interlock := rfl
@[simp] theorem State.updThermal_rails : (s.updThermal i f).rails = s.rails := rfl
@[simp] theorem State.updThermal_contexts : (s.updThermal i f).contexts = s.contexts := rfl
@[simp] theorem State.updThermal_inventory : (s.updThermal i f).inventory = s.inventory := rfl
@[simp] theorem State.updThermal_psus : (s.updThermal i f).psus = s.psus := rfl
@[simp] theorem State.updThermal_grants : (s.updThermal i f).grants = s.grants := rfl
@[simp] theorem State.updThermal_powerQueue : (s.updThermal i f).powerQueue = s.powerQueue := rfl
@[simp] theorem State.updThermal_queueCounter : (s.updThermal i f).queueCounter = s.queueCounter := rfl
@[simp] theorem State.updThermal_admissionCounter : (s.updThermal i f).admissionCounter = s.admissionCounter := rfl
@[simp] theorem State.updThermal_thermal : (s.updThermal i f).thermal = Tab.upd s.thermal i f := rfl
@[simp] theorem State.updThermal_zones : (s.updThermal i f).zones = s.zones := rfl
@[simp] theorem State.updThermal_fans : (s.updThermal i f).fans = s.fans := rfl
@[simp] theorem State.updThermal_links : (s.updThermal i f).links = s.links := rfl
@[simp] theorem State.updThermal_portRole : (s.updThermal i f).portRole = s.portRole := rfl
@[simp] theorem State.updThermal_gateDrops : (s.updThermal i f).gateDrops = s.gateDrops := rfl
@[simp] theorem State.updThermal_classify : (s.updThermal i f).classify = s.classify := rfl
@[simp] theorem State.updThermal_uplinks : (s.updThermal i f).uplinks = s.uplinks := rfl
@[simp] theorem State.updThermal_groups : (s.updThermal i f).groups = s.groups := rfl
@[simp] theorem State.updThermal_uplinkMap : (s.updThermal i f).uplinkMap = s.uplinkMap := rfl
@[simp] theorem State.updThermal_stations : (s.updThermal i f).stations = s.stations := rfl
@[simp] theorem State.updThermal_meters : (s.updThermal i f).meters = s.meters := rfl
@[simp] theorem State.updThermal_chassisNumber : (s.updThermal i f).chassisNumber = s.chassisNumber := rfl
@[simp] theorem State.updThermal_identities : (s.updThermal i f).identities = s.identities := rfl
@[simp] theorem State.updThermal_requests : (s.updThermal i f).requests = s.requests := rfl
@[simp] theorem State.updThermal_writeJob : (s.updThermal i f).writeJob = s.writeJob := rfl
@[simp] theorem State.updThermal_warmHeld : (s.updThermal i f).warmHeld = s.warmHeld := rfl
@[simp] theorem State.updThermal_notices : (s.updThermal i f).notices = s.notices := rfl
@[simp] theorem State.updThermal_noticeCfg : (s.updThermal i f).noticeCfg = s.noticeCfg := rfl
@[simp] theorem State.updThermal_spacing : (s.updThermal i f).spacing = s.spacing := rfl
@[simp] theorem State.updThermal_noticeSeq : (s.updThermal i f).noticeSeq = s.noticeSeq := rfl
@[simp] theorem State.updThermal_sent : (s.updThermal i f).sent = s.sent := rfl
@[simp] theorem State.updThermal_pending : (s.updThermal i f).pending = s.pending := rfl
@[simp] theorem State.updThermal_slot (j : SlotId) : (s.updThermal i f).slot j = s.slot j := rfl
@[simp] theorem State.updThermal_policy (j : SlotId) : (s.updThermal i f).policy j = s.policy j := rfl
@[simp] theorem State.updThermal_rail (j : SlotId) : (s.updThermal i f).rail j = s.rail j := rfl
@[simp] theorem State.updThermal_context (j : SlotId) : (s.updThermal i f).context j = s.context j := rfl
@[simp] theorem State.updThermal_inv (j : SlotId) : (s.updThermal i f).inv j = s.inv j := rfl
@[simp] theorem State.updThermal_psu (j : PsuId) : (s.updThermal i f).psu j = s.psu j := rfl
@[simp] theorem State.updThermal_grantOf (j : SlotId) : (s.updThermal i f).grantOf j = s.grantOf j := rfl
@[simp] theorem State.updThermal_thermalOf_self : (s.updThermal i f).thermalOf i = f (s.thermalOf i) := by
  simp [State.thermalOf]
theorem State.updThermal_thermalOf_ne {i j : SlotId} (h : j ≠ i) : (s.updThermal i f).thermalOf j = s.thermalOf j := by
  simp [State.thermalOf, Tab.get_upd_ne _ _ h]
theorem State.updThermal_thermalOf (j : SlotId) :
    (s.updThermal i f).thermalOf j = if j = i then f (s.thermalOf i) else s.thermalOf j := by
  simp [State.thermalOf, Tab.get_upd]
@[simp] theorem State.updThermal_zone (j : ZoneId) : (s.updThermal i f).zone j = s.zone j := rfl
@[simp] theorem State.updThermal_fan (j : FanId) : (s.updThermal i f).fan j = s.fan j := rfl
@[simp] theorem State.updThermal_link (j : PortId) : (s.updThermal i f).link j = s.link j := rfl
@[simp] theorem State.updThermal_gateDrop (j : SlotId) : (s.updThermal i f).gateDrop j = s.gateDrop j := rfl
@[simp] theorem State.updThermal_classEntry (j : (Fin 64)) : (s.updThermal i f).classEntry j = s.classEntry j := rfl
@[simp] theorem State.updThermal_uplink (j : UplinkId) : (s.updThermal i f).uplink j = s.uplink j := rfl
@[simp] theorem State.updThermal_group (j : GroupId) : (s.updThermal i f).group j = s.group j := rfl
@[simp] theorem State.updThermal_map (j : SlotId) : (s.updThermal i f).map j = s.map j := rfl
@[simp] theorem State.updThermal_station (j : (Fin 64)) : (s.updThermal i f).station j = s.station j := rfl
@[simp] theorem State.updThermal_meter (j : SlotId) : (s.updThermal i f).meter j = s.meter j := rfl
@[simp] theorem State.updThermal_identity (j : IdentityId) : (s.updThermal i f).identity j = s.identity j := rfl

end updThermal

section updZone

variable (s : State) (i : ZoneId) (f : Zone → Zone)

@[simp] theorem State.updZone_clock : (s.updZone i f).clock = s.clock := rfl
@[simp] theorem State.updZone_slots : (s.updZone i f).slots = s.slots := rfl
@[simp] theorem State.updZone_policies : (s.updZone i f).policies = s.policies := rfl
@[simp] theorem State.updZone_chassis : (s.updZone i f).chassis = s.chassis := rfl
@[simp] theorem State.updZone_interlock : (s.updZone i f).interlock = s.interlock := rfl
@[simp] theorem State.updZone_rails : (s.updZone i f).rails = s.rails := rfl
@[simp] theorem State.updZone_contexts : (s.updZone i f).contexts = s.contexts := rfl
@[simp] theorem State.updZone_inventory : (s.updZone i f).inventory = s.inventory := rfl
@[simp] theorem State.updZone_psus : (s.updZone i f).psus = s.psus := rfl
@[simp] theorem State.updZone_grants : (s.updZone i f).grants = s.grants := rfl
@[simp] theorem State.updZone_powerQueue : (s.updZone i f).powerQueue = s.powerQueue := rfl
@[simp] theorem State.updZone_queueCounter : (s.updZone i f).queueCounter = s.queueCounter := rfl
@[simp] theorem State.updZone_admissionCounter : (s.updZone i f).admissionCounter = s.admissionCounter := rfl
@[simp] theorem State.updZone_thermal : (s.updZone i f).thermal = s.thermal := rfl
@[simp] theorem State.updZone_zones : (s.updZone i f).zones = Tab.upd s.zones i f := rfl
@[simp] theorem State.updZone_fans : (s.updZone i f).fans = s.fans := rfl
@[simp] theorem State.updZone_links : (s.updZone i f).links = s.links := rfl
@[simp] theorem State.updZone_portRole : (s.updZone i f).portRole = s.portRole := rfl
@[simp] theorem State.updZone_gateDrops : (s.updZone i f).gateDrops = s.gateDrops := rfl
@[simp] theorem State.updZone_classify : (s.updZone i f).classify = s.classify := rfl
@[simp] theorem State.updZone_uplinks : (s.updZone i f).uplinks = s.uplinks := rfl
@[simp] theorem State.updZone_groups : (s.updZone i f).groups = s.groups := rfl
@[simp] theorem State.updZone_uplinkMap : (s.updZone i f).uplinkMap = s.uplinkMap := rfl
@[simp] theorem State.updZone_stations : (s.updZone i f).stations = s.stations := rfl
@[simp] theorem State.updZone_meters : (s.updZone i f).meters = s.meters := rfl
@[simp] theorem State.updZone_chassisNumber : (s.updZone i f).chassisNumber = s.chassisNumber := rfl
@[simp] theorem State.updZone_identities : (s.updZone i f).identities = s.identities := rfl
@[simp] theorem State.updZone_requests : (s.updZone i f).requests = s.requests := rfl
@[simp] theorem State.updZone_writeJob : (s.updZone i f).writeJob = s.writeJob := rfl
@[simp] theorem State.updZone_warmHeld : (s.updZone i f).warmHeld = s.warmHeld := rfl
@[simp] theorem State.updZone_notices : (s.updZone i f).notices = s.notices := rfl
@[simp] theorem State.updZone_noticeCfg : (s.updZone i f).noticeCfg = s.noticeCfg := rfl
@[simp] theorem State.updZone_spacing : (s.updZone i f).spacing = s.spacing := rfl
@[simp] theorem State.updZone_noticeSeq : (s.updZone i f).noticeSeq = s.noticeSeq := rfl
@[simp] theorem State.updZone_sent : (s.updZone i f).sent = s.sent := rfl
@[simp] theorem State.updZone_pending : (s.updZone i f).pending = s.pending := rfl
@[simp] theorem State.updZone_slot (j : SlotId) : (s.updZone i f).slot j = s.slot j := rfl
@[simp] theorem State.updZone_policy (j : SlotId) : (s.updZone i f).policy j = s.policy j := rfl
@[simp] theorem State.updZone_rail (j : SlotId) : (s.updZone i f).rail j = s.rail j := rfl
@[simp] theorem State.updZone_context (j : SlotId) : (s.updZone i f).context j = s.context j := rfl
@[simp] theorem State.updZone_inv (j : SlotId) : (s.updZone i f).inv j = s.inv j := rfl
@[simp] theorem State.updZone_psu (j : PsuId) : (s.updZone i f).psu j = s.psu j := rfl
@[simp] theorem State.updZone_grantOf (j : SlotId) : (s.updZone i f).grantOf j = s.grantOf j := rfl
@[simp] theorem State.updZone_thermalOf (j : SlotId) : (s.updZone i f).thermalOf j = s.thermalOf j := rfl
@[simp] theorem State.updZone_zone_self : (s.updZone i f).zone i = f (s.zone i) := by
  simp [State.zone]
theorem State.updZone_zone_ne {i j : ZoneId} (h : j ≠ i) : (s.updZone i f).zone j = s.zone j := by
  simp [State.zone, Tab.get_upd_ne _ _ h]
theorem State.updZone_zone (j : ZoneId) :
    (s.updZone i f).zone j = if j = i then f (s.zone i) else s.zone j := by
  simp [State.zone, Tab.get_upd]
@[simp] theorem State.updZone_fan (j : FanId) : (s.updZone i f).fan j = s.fan j := rfl
@[simp] theorem State.updZone_link (j : PortId) : (s.updZone i f).link j = s.link j := rfl
@[simp] theorem State.updZone_gateDrop (j : SlotId) : (s.updZone i f).gateDrop j = s.gateDrop j := rfl
@[simp] theorem State.updZone_classEntry (j : (Fin 64)) : (s.updZone i f).classEntry j = s.classEntry j := rfl
@[simp] theorem State.updZone_uplink (j : UplinkId) : (s.updZone i f).uplink j = s.uplink j := rfl
@[simp] theorem State.updZone_group (j : GroupId) : (s.updZone i f).group j = s.group j := rfl
@[simp] theorem State.updZone_map (j : SlotId) : (s.updZone i f).map j = s.map j := rfl
@[simp] theorem State.updZone_station (j : (Fin 64)) : (s.updZone i f).station j = s.station j := rfl
@[simp] theorem State.updZone_meter (j : SlotId) : (s.updZone i f).meter j = s.meter j := rfl
@[simp] theorem State.updZone_identity (j : IdentityId) : (s.updZone i f).identity j = s.identity j := rfl

end updZone

section updFan

variable (s : State) (i : FanId) (f : Fan → Fan)

@[simp] theorem State.updFan_clock : (s.updFan i f).clock = s.clock := rfl
@[simp] theorem State.updFan_slots : (s.updFan i f).slots = s.slots := rfl
@[simp] theorem State.updFan_policies : (s.updFan i f).policies = s.policies := rfl
@[simp] theorem State.updFan_chassis : (s.updFan i f).chassis = s.chassis := rfl
@[simp] theorem State.updFan_interlock : (s.updFan i f).interlock = s.interlock := rfl
@[simp] theorem State.updFan_rails : (s.updFan i f).rails = s.rails := rfl
@[simp] theorem State.updFan_contexts : (s.updFan i f).contexts = s.contexts := rfl
@[simp] theorem State.updFan_inventory : (s.updFan i f).inventory = s.inventory := rfl
@[simp] theorem State.updFan_psus : (s.updFan i f).psus = s.psus := rfl
@[simp] theorem State.updFan_grants : (s.updFan i f).grants = s.grants := rfl
@[simp] theorem State.updFan_powerQueue : (s.updFan i f).powerQueue = s.powerQueue := rfl
@[simp] theorem State.updFan_queueCounter : (s.updFan i f).queueCounter = s.queueCounter := rfl
@[simp] theorem State.updFan_admissionCounter : (s.updFan i f).admissionCounter = s.admissionCounter := rfl
@[simp] theorem State.updFan_thermal : (s.updFan i f).thermal = s.thermal := rfl
@[simp] theorem State.updFan_zones : (s.updFan i f).zones = s.zones := rfl
@[simp] theorem State.updFan_fans : (s.updFan i f).fans = Tab.upd s.fans i f := rfl
@[simp] theorem State.updFan_links : (s.updFan i f).links = s.links := rfl
@[simp] theorem State.updFan_portRole : (s.updFan i f).portRole = s.portRole := rfl
@[simp] theorem State.updFan_gateDrops : (s.updFan i f).gateDrops = s.gateDrops := rfl
@[simp] theorem State.updFan_classify : (s.updFan i f).classify = s.classify := rfl
@[simp] theorem State.updFan_uplinks : (s.updFan i f).uplinks = s.uplinks := rfl
@[simp] theorem State.updFan_groups : (s.updFan i f).groups = s.groups := rfl
@[simp] theorem State.updFan_uplinkMap : (s.updFan i f).uplinkMap = s.uplinkMap := rfl
@[simp] theorem State.updFan_stations : (s.updFan i f).stations = s.stations := rfl
@[simp] theorem State.updFan_meters : (s.updFan i f).meters = s.meters := rfl
@[simp] theorem State.updFan_chassisNumber : (s.updFan i f).chassisNumber = s.chassisNumber := rfl
@[simp] theorem State.updFan_identities : (s.updFan i f).identities = s.identities := rfl
@[simp] theorem State.updFan_requests : (s.updFan i f).requests = s.requests := rfl
@[simp] theorem State.updFan_writeJob : (s.updFan i f).writeJob = s.writeJob := rfl
@[simp] theorem State.updFan_warmHeld : (s.updFan i f).warmHeld = s.warmHeld := rfl
@[simp] theorem State.updFan_notices : (s.updFan i f).notices = s.notices := rfl
@[simp] theorem State.updFan_noticeCfg : (s.updFan i f).noticeCfg = s.noticeCfg := rfl
@[simp] theorem State.updFan_spacing : (s.updFan i f).spacing = s.spacing := rfl
@[simp] theorem State.updFan_noticeSeq : (s.updFan i f).noticeSeq = s.noticeSeq := rfl
@[simp] theorem State.updFan_sent : (s.updFan i f).sent = s.sent := rfl
@[simp] theorem State.updFan_pending : (s.updFan i f).pending = s.pending := rfl
@[simp] theorem State.updFan_slot (j : SlotId) : (s.updFan i f).slot j = s.slot j := rfl
@[simp] theorem State.updFan_policy (j : SlotId) : (s.updFan i f).policy j = s.policy j := rfl
@[simp] theorem State.updFan_rail (j : SlotId) : (s.updFan i f).rail j = s.rail j := rfl
@[simp] theorem State.updFan_context (j : SlotId) : (s.updFan i f).context j = s.context j := rfl
@[simp] theorem State.updFan_inv (j : SlotId) : (s.updFan i f).inv j = s.inv j := rfl
@[simp] theorem State.updFan_psu (j : PsuId) : (s.updFan i f).psu j = s.psu j := rfl
@[simp] theorem State.updFan_grantOf (j : SlotId) : (s.updFan i f).grantOf j = s.grantOf j := rfl
@[simp] theorem State.updFan_thermalOf (j : SlotId) : (s.updFan i f).thermalOf j = s.thermalOf j := rfl
@[simp] theorem State.updFan_zone (j : ZoneId) : (s.updFan i f).zone j = s.zone j := rfl
@[simp] theorem State.updFan_fan_self : (s.updFan i f).fan i = f (s.fan i) := by
  simp [State.fan]
theorem State.updFan_fan_ne {i j : FanId} (h : j ≠ i) : (s.updFan i f).fan j = s.fan j := by
  simp [State.fan, Tab.get_upd_ne _ _ h]
theorem State.updFan_fan (j : FanId) :
    (s.updFan i f).fan j = if j = i then f (s.fan i) else s.fan j := by
  simp [State.fan, Tab.get_upd]
@[simp] theorem State.updFan_link (j : PortId) : (s.updFan i f).link j = s.link j := rfl
@[simp] theorem State.updFan_gateDrop (j : SlotId) : (s.updFan i f).gateDrop j = s.gateDrop j := rfl
@[simp] theorem State.updFan_classEntry (j : (Fin 64)) : (s.updFan i f).classEntry j = s.classEntry j := rfl
@[simp] theorem State.updFan_uplink (j : UplinkId) : (s.updFan i f).uplink j = s.uplink j := rfl
@[simp] theorem State.updFan_group (j : GroupId) : (s.updFan i f).group j = s.group j := rfl
@[simp] theorem State.updFan_map (j : SlotId) : (s.updFan i f).map j = s.map j := rfl
@[simp] theorem State.updFan_station (j : (Fin 64)) : (s.updFan i f).station j = s.station j := rfl
@[simp] theorem State.updFan_meter (j : SlotId) : (s.updFan i f).meter j = s.meter j := rfl
@[simp] theorem State.updFan_identity (j : IdentityId) : (s.updFan i f).identity j = s.identity j := rfl

end updFan

section updLink

variable (s : State) (i : PortId) (f : Bool → Bool)

@[simp] theorem State.updLink_clock : (s.updLink i f).clock = s.clock := rfl
@[simp] theorem State.updLink_slots : (s.updLink i f).slots = s.slots := rfl
@[simp] theorem State.updLink_policies : (s.updLink i f).policies = s.policies := rfl
@[simp] theorem State.updLink_chassis : (s.updLink i f).chassis = s.chassis := rfl
@[simp] theorem State.updLink_interlock : (s.updLink i f).interlock = s.interlock := rfl
@[simp] theorem State.updLink_rails : (s.updLink i f).rails = s.rails := rfl
@[simp] theorem State.updLink_contexts : (s.updLink i f).contexts = s.contexts := rfl
@[simp] theorem State.updLink_inventory : (s.updLink i f).inventory = s.inventory := rfl
@[simp] theorem State.updLink_psus : (s.updLink i f).psus = s.psus := rfl
@[simp] theorem State.updLink_grants : (s.updLink i f).grants = s.grants := rfl
@[simp] theorem State.updLink_powerQueue : (s.updLink i f).powerQueue = s.powerQueue := rfl
@[simp] theorem State.updLink_queueCounter : (s.updLink i f).queueCounter = s.queueCounter := rfl
@[simp] theorem State.updLink_admissionCounter : (s.updLink i f).admissionCounter = s.admissionCounter := rfl
@[simp] theorem State.updLink_thermal : (s.updLink i f).thermal = s.thermal := rfl
@[simp] theorem State.updLink_zones : (s.updLink i f).zones = s.zones := rfl
@[simp] theorem State.updLink_fans : (s.updLink i f).fans = s.fans := rfl
@[simp] theorem State.updLink_links : (s.updLink i f).links = Tab.upd s.links i f := rfl
@[simp] theorem State.updLink_portRole : (s.updLink i f).portRole = s.portRole := rfl
@[simp] theorem State.updLink_gateDrops : (s.updLink i f).gateDrops = s.gateDrops := rfl
@[simp] theorem State.updLink_classify : (s.updLink i f).classify = s.classify := rfl
@[simp] theorem State.updLink_uplinks : (s.updLink i f).uplinks = s.uplinks := rfl
@[simp] theorem State.updLink_groups : (s.updLink i f).groups = s.groups := rfl
@[simp] theorem State.updLink_uplinkMap : (s.updLink i f).uplinkMap = s.uplinkMap := rfl
@[simp] theorem State.updLink_stations : (s.updLink i f).stations = s.stations := rfl
@[simp] theorem State.updLink_meters : (s.updLink i f).meters = s.meters := rfl
@[simp] theorem State.updLink_chassisNumber : (s.updLink i f).chassisNumber = s.chassisNumber := rfl
@[simp] theorem State.updLink_identities : (s.updLink i f).identities = s.identities := rfl
@[simp] theorem State.updLink_requests : (s.updLink i f).requests = s.requests := rfl
@[simp] theorem State.updLink_writeJob : (s.updLink i f).writeJob = s.writeJob := rfl
@[simp] theorem State.updLink_warmHeld : (s.updLink i f).warmHeld = s.warmHeld := rfl
@[simp] theorem State.updLink_notices : (s.updLink i f).notices = s.notices := rfl
@[simp] theorem State.updLink_noticeCfg : (s.updLink i f).noticeCfg = s.noticeCfg := rfl
@[simp] theorem State.updLink_spacing : (s.updLink i f).spacing = s.spacing := rfl
@[simp] theorem State.updLink_noticeSeq : (s.updLink i f).noticeSeq = s.noticeSeq := rfl
@[simp] theorem State.updLink_sent : (s.updLink i f).sent = s.sent := rfl
@[simp] theorem State.updLink_pending : (s.updLink i f).pending = s.pending := rfl
@[simp] theorem State.updLink_slot (j : SlotId) : (s.updLink i f).slot j = s.slot j := rfl
@[simp] theorem State.updLink_policy (j : SlotId) : (s.updLink i f).policy j = s.policy j := rfl
@[simp] theorem State.updLink_rail (j : SlotId) : (s.updLink i f).rail j = s.rail j := rfl
@[simp] theorem State.updLink_context (j : SlotId) : (s.updLink i f).context j = s.context j := rfl
@[simp] theorem State.updLink_inv (j : SlotId) : (s.updLink i f).inv j = s.inv j := rfl
@[simp] theorem State.updLink_psu (j : PsuId) : (s.updLink i f).psu j = s.psu j := rfl
@[simp] theorem State.updLink_grantOf (j : SlotId) : (s.updLink i f).grantOf j = s.grantOf j := rfl
@[simp] theorem State.updLink_thermalOf (j : SlotId) : (s.updLink i f).thermalOf j = s.thermalOf j := rfl
@[simp] theorem State.updLink_zone (j : ZoneId) : (s.updLink i f).zone j = s.zone j := rfl
@[simp] theorem State.updLink_fan (j : FanId) : (s.updLink i f).fan j = s.fan j := rfl
@[simp] theorem State.updLink_link_self : (s.updLink i f).link i = f (s.link i) := by
  simp [State.link]
theorem State.updLink_link_ne {i j : PortId} (h : j ≠ i) : (s.updLink i f).link j = s.link j := by
  simp [State.link, Tab.get_upd_ne _ _ h]
theorem State.updLink_link (j : PortId) :
    (s.updLink i f).link j = if j = i then f (s.link i) else s.link j := by
  simp [State.link, Tab.get_upd]
@[simp] theorem State.updLink_gateDrop (j : SlotId) : (s.updLink i f).gateDrop j = s.gateDrop j := rfl
@[simp] theorem State.updLink_classEntry (j : (Fin 64)) : (s.updLink i f).classEntry j = s.classEntry j := rfl
@[simp] theorem State.updLink_uplink (j : UplinkId) : (s.updLink i f).uplink j = s.uplink j := rfl
@[simp] theorem State.updLink_group (j : GroupId) : (s.updLink i f).group j = s.group j := rfl
@[simp] theorem State.updLink_map (j : SlotId) : (s.updLink i f).map j = s.map j := rfl
@[simp] theorem State.updLink_station (j : (Fin 64)) : (s.updLink i f).station j = s.station j := rfl
@[simp] theorem State.updLink_meter (j : SlotId) : (s.updLink i f).meter j = s.meter j := rfl
@[simp] theorem State.updLink_identity (j : IdentityId) : (s.updLink i f).identity j = s.identity j := rfl

end updLink

section updGateDrop

variable (s : State) (i : SlotId) (f : Nat → Nat)

@[simp] theorem State.updGateDrop_clock : (s.updGateDrop i f).clock = s.clock := rfl
@[simp] theorem State.updGateDrop_slots : (s.updGateDrop i f).slots = s.slots := rfl
@[simp] theorem State.updGateDrop_policies : (s.updGateDrop i f).policies = s.policies := rfl
@[simp] theorem State.updGateDrop_chassis : (s.updGateDrop i f).chassis = s.chassis := rfl
@[simp] theorem State.updGateDrop_interlock : (s.updGateDrop i f).interlock = s.interlock := rfl
@[simp] theorem State.updGateDrop_rails : (s.updGateDrop i f).rails = s.rails := rfl
@[simp] theorem State.updGateDrop_contexts : (s.updGateDrop i f).contexts = s.contexts := rfl
@[simp] theorem State.updGateDrop_inventory : (s.updGateDrop i f).inventory = s.inventory := rfl
@[simp] theorem State.updGateDrop_psus : (s.updGateDrop i f).psus = s.psus := rfl
@[simp] theorem State.updGateDrop_grants : (s.updGateDrop i f).grants = s.grants := rfl
@[simp] theorem State.updGateDrop_powerQueue : (s.updGateDrop i f).powerQueue = s.powerQueue := rfl
@[simp] theorem State.updGateDrop_queueCounter : (s.updGateDrop i f).queueCounter = s.queueCounter := rfl
@[simp] theorem State.updGateDrop_admissionCounter : (s.updGateDrop i f).admissionCounter = s.admissionCounter := rfl
@[simp] theorem State.updGateDrop_thermal : (s.updGateDrop i f).thermal = s.thermal := rfl
@[simp] theorem State.updGateDrop_zones : (s.updGateDrop i f).zones = s.zones := rfl
@[simp] theorem State.updGateDrop_fans : (s.updGateDrop i f).fans = s.fans := rfl
@[simp] theorem State.updGateDrop_links : (s.updGateDrop i f).links = s.links := rfl
@[simp] theorem State.updGateDrop_portRole : (s.updGateDrop i f).portRole = s.portRole := rfl
@[simp] theorem State.updGateDrop_gateDrops : (s.updGateDrop i f).gateDrops = Tab.upd s.gateDrops i f := rfl
@[simp] theorem State.updGateDrop_classify : (s.updGateDrop i f).classify = s.classify := rfl
@[simp] theorem State.updGateDrop_uplinks : (s.updGateDrop i f).uplinks = s.uplinks := rfl
@[simp] theorem State.updGateDrop_groups : (s.updGateDrop i f).groups = s.groups := rfl
@[simp] theorem State.updGateDrop_uplinkMap : (s.updGateDrop i f).uplinkMap = s.uplinkMap := rfl
@[simp] theorem State.updGateDrop_stations : (s.updGateDrop i f).stations = s.stations := rfl
@[simp] theorem State.updGateDrop_meters : (s.updGateDrop i f).meters = s.meters := rfl
@[simp] theorem State.updGateDrop_chassisNumber : (s.updGateDrop i f).chassisNumber = s.chassisNumber := rfl
@[simp] theorem State.updGateDrop_identities : (s.updGateDrop i f).identities = s.identities := rfl
@[simp] theorem State.updGateDrop_requests : (s.updGateDrop i f).requests = s.requests := rfl
@[simp] theorem State.updGateDrop_writeJob : (s.updGateDrop i f).writeJob = s.writeJob := rfl
@[simp] theorem State.updGateDrop_warmHeld : (s.updGateDrop i f).warmHeld = s.warmHeld := rfl
@[simp] theorem State.updGateDrop_notices : (s.updGateDrop i f).notices = s.notices := rfl
@[simp] theorem State.updGateDrop_noticeCfg : (s.updGateDrop i f).noticeCfg = s.noticeCfg := rfl
@[simp] theorem State.updGateDrop_spacing : (s.updGateDrop i f).spacing = s.spacing := rfl
@[simp] theorem State.updGateDrop_noticeSeq : (s.updGateDrop i f).noticeSeq = s.noticeSeq := rfl
@[simp] theorem State.updGateDrop_sent : (s.updGateDrop i f).sent = s.sent := rfl
@[simp] theorem State.updGateDrop_pending : (s.updGateDrop i f).pending = s.pending := rfl
@[simp] theorem State.updGateDrop_slot (j : SlotId) : (s.updGateDrop i f).slot j = s.slot j := rfl
@[simp] theorem State.updGateDrop_policy (j : SlotId) : (s.updGateDrop i f).policy j = s.policy j := rfl
@[simp] theorem State.updGateDrop_rail (j : SlotId) : (s.updGateDrop i f).rail j = s.rail j := rfl
@[simp] theorem State.updGateDrop_context (j : SlotId) : (s.updGateDrop i f).context j = s.context j := rfl
@[simp] theorem State.updGateDrop_inv (j : SlotId) : (s.updGateDrop i f).inv j = s.inv j := rfl
@[simp] theorem State.updGateDrop_psu (j : PsuId) : (s.updGateDrop i f).psu j = s.psu j := rfl
@[simp] theorem State.updGateDrop_grantOf (j : SlotId) : (s.updGateDrop i f).grantOf j = s.grantOf j := rfl
@[simp] theorem State.updGateDrop_thermalOf (j : SlotId) : (s.updGateDrop i f).thermalOf j = s.thermalOf j := rfl
@[simp] theorem State.updGateDrop_zone (j : ZoneId) : (s.updGateDrop i f).zone j = s.zone j := rfl
@[simp] theorem State.updGateDrop_fan (j : FanId) : (s.updGateDrop i f).fan j = s.fan j := rfl
@[simp] theorem State.updGateDrop_link (j : PortId) : (s.updGateDrop i f).link j = s.link j := rfl
@[simp] theorem State.updGateDrop_gateDrop_self : (s.updGateDrop i f).gateDrop i = f (s.gateDrop i) := by
  simp [State.gateDrop]
theorem State.updGateDrop_gateDrop_ne {i j : SlotId} (h : j ≠ i) : (s.updGateDrop i f).gateDrop j = s.gateDrop j := by
  simp [State.gateDrop, Tab.get_upd_ne _ _ h]
theorem State.updGateDrop_gateDrop (j : SlotId) :
    (s.updGateDrop i f).gateDrop j = if j = i then f (s.gateDrop i) else s.gateDrop j := by
  simp [State.gateDrop, Tab.get_upd]
@[simp] theorem State.updGateDrop_classEntry (j : (Fin 64)) : (s.updGateDrop i f).classEntry j = s.classEntry j := rfl
@[simp] theorem State.updGateDrop_uplink (j : UplinkId) : (s.updGateDrop i f).uplink j = s.uplink j := rfl
@[simp] theorem State.updGateDrop_group (j : GroupId) : (s.updGateDrop i f).group j = s.group j := rfl
@[simp] theorem State.updGateDrop_map (j : SlotId) : (s.updGateDrop i f).map j = s.map j := rfl
@[simp] theorem State.updGateDrop_station (j : (Fin 64)) : (s.updGateDrop i f).station j = s.station j := rfl
@[simp] theorem State.updGateDrop_meter (j : SlotId) : (s.updGateDrop i f).meter j = s.meter j := rfl
@[simp] theorem State.updGateDrop_identity (j : IdentityId) : (s.updGateDrop i f).identity j = s.identity j := rfl

end updGateDrop

section updClassEntry

variable (s : State) (i : (Fin 64)) (f : ClassEntry → ClassEntry)

@[simp] theorem State.updClassEntry_clock : (s.updClassEntry i f).clock = s.clock := rfl
@[simp] theorem State.updClassEntry_slots : (s.updClassEntry i f).slots = s.slots := rfl
@[simp] theorem State.updClassEntry_policies : (s.updClassEntry i f).policies = s.policies := rfl
@[simp] theorem State.updClassEntry_chassis : (s.updClassEntry i f).chassis = s.chassis := rfl
@[simp] theorem State.updClassEntry_interlock : (s.updClassEntry i f).interlock = s.interlock := rfl
@[simp] theorem State.updClassEntry_rails : (s.updClassEntry i f).rails = s.rails := rfl
@[simp] theorem State.updClassEntry_contexts : (s.updClassEntry i f).contexts = s.contexts := rfl
@[simp] theorem State.updClassEntry_inventory : (s.updClassEntry i f).inventory = s.inventory := rfl
@[simp] theorem State.updClassEntry_psus : (s.updClassEntry i f).psus = s.psus := rfl
@[simp] theorem State.updClassEntry_grants : (s.updClassEntry i f).grants = s.grants := rfl
@[simp] theorem State.updClassEntry_powerQueue : (s.updClassEntry i f).powerQueue = s.powerQueue := rfl
@[simp] theorem State.updClassEntry_queueCounter : (s.updClassEntry i f).queueCounter = s.queueCounter := rfl
@[simp] theorem State.updClassEntry_admissionCounter : (s.updClassEntry i f).admissionCounter = s.admissionCounter := rfl
@[simp] theorem State.updClassEntry_thermal : (s.updClassEntry i f).thermal = s.thermal := rfl
@[simp] theorem State.updClassEntry_zones : (s.updClassEntry i f).zones = s.zones := rfl
@[simp] theorem State.updClassEntry_fans : (s.updClassEntry i f).fans = s.fans := rfl
@[simp] theorem State.updClassEntry_links : (s.updClassEntry i f).links = s.links := rfl
@[simp] theorem State.updClassEntry_portRole : (s.updClassEntry i f).portRole = s.portRole := rfl
@[simp] theorem State.updClassEntry_gateDrops : (s.updClassEntry i f).gateDrops = s.gateDrops := rfl
@[simp] theorem State.updClassEntry_classify : (s.updClassEntry i f).classify = Tab.upd s.classify i f := rfl
@[simp] theorem State.updClassEntry_uplinks : (s.updClassEntry i f).uplinks = s.uplinks := rfl
@[simp] theorem State.updClassEntry_groups : (s.updClassEntry i f).groups = s.groups := rfl
@[simp] theorem State.updClassEntry_uplinkMap : (s.updClassEntry i f).uplinkMap = s.uplinkMap := rfl
@[simp] theorem State.updClassEntry_stations : (s.updClassEntry i f).stations = s.stations := rfl
@[simp] theorem State.updClassEntry_meters : (s.updClassEntry i f).meters = s.meters := rfl
@[simp] theorem State.updClassEntry_chassisNumber : (s.updClassEntry i f).chassisNumber = s.chassisNumber := rfl
@[simp] theorem State.updClassEntry_identities : (s.updClassEntry i f).identities = s.identities := rfl
@[simp] theorem State.updClassEntry_requests : (s.updClassEntry i f).requests = s.requests := rfl
@[simp] theorem State.updClassEntry_writeJob : (s.updClassEntry i f).writeJob = s.writeJob := rfl
@[simp] theorem State.updClassEntry_warmHeld : (s.updClassEntry i f).warmHeld = s.warmHeld := rfl
@[simp] theorem State.updClassEntry_notices : (s.updClassEntry i f).notices = s.notices := rfl
@[simp] theorem State.updClassEntry_noticeCfg : (s.updClassEntry i f).noticeCfg = s.noticeCfg := rfl
@[simp] theorem State.updClassEntry_spacing : (s.updClassEntry i f).spacing = s.spacing := rfl
@[simp] theorem State.updClassEntry_noticeSeq : (s.updClassEntry i f).noticeSeq = s.noticeSeq := rfl
@[simp] theorem State.updClassEntry_sent : (s.updClassEntry i f).sent = s.sent := rfl
@[simp] theorem State.updClassEntry_pending : (s.updClassEntry i f).pending = s.pending := rfl
@[simp] theorem State.updClassEntry_slot (j : SlotId) : (s.updClassEntry i f).slot j = s.slot j := rfl
@[simp] theorem State.updClassEntry_policy (j : SlotId) : (s.updClassEntry i f).policy j = s.policy j := rfl
@[simp] theorem State.updClassEntry_rail (j : SlotId) : (s.updClassEntry i f).rail j = s.rail j := rfl
@[simp] theorem State.updClassEntry_context (j : SlotId) : (s.updClassEntry i f).context j = s.context j := rfl
@[simp] theorem State.updClassEntry_inv (j : SlotId) : (s.updClassEntry i f).inv j = s.inv j := rfl
@[simp] theorem State.updClassEntry_psu (j : PsuId) : (s.updClassEntry i f).psu j = s.psu j := rfl
@[simp] theorem State.updClassEntry_grantOf (j : SlotId) : (s.updClassEntry i f).grantOf j = s.grantOf j := rfl
@[simp] theorem State.updClassEntry_thermalOf (j : SlotId) : (s.updClassEntry i f).thermalOf j = s.thermalOf j := rfl
@[simp] theorem State.updClassEntry_zone (j : ZoneId) : (s.updClassEntry i f).zone j = s.zone j := rfl
@[simp] theorem State.updClassEntry_fan (j : FanId) : (s.updClassEntry i f).fan j = s.fan j := rfl
@[simp] theorem State.updClassEntry_link (j : PortId) : (s.updClassEntry i f).link j = s.link j := rfl
@[simp] theorem State.updClassEntry_gateDrop (j : SlotId) : (s.updClassEntry i f).gateDrop j = s.gateDrop j := rfl
@[simp] theorem State.updClassEntry_classEntry_self : (s.updClassEntry i f).classEntry i = f (s.classEntry i) := by
  simp [State.classEntry]
theorem State.updClassEntry_classEntry_ne {i j : (Fin 64)} (h : j ≠ i) : (s.updClassEntry i f).classEntry j = s.classEntry j := by
  simp [State.classEntry, Tab.get_upd_ne _ _ h]
theorem State.updClassEntry_classEntry (j : (Fin 64)) :
    (s.updClassEntry i f).classEntry j = if j = i then f (s.classEntry i) else s.classEntry j := by
  simp [State.classEntry, Tab.get_upd]
@[simp] theorem State.updClassEntry_uplink (j : UplinkId) : (s.updClassEntry i f).uplink j = s.uplink j := rfl
@[simp] theorem State.updClassEntry_group (j : GroupId) : (s.updClassEntry i f).group j = s.group j := rfl
@[simp] theorem State.updClassEntry_map (j : SlotId) : (s.updClassEntry i f).map j = s.map j := rfl
@[simp] theorem State.updClassEntry_station (j : (Fin 64)) : (s.updClassEntry i f).station j = s.station j := rfl
@[simp] theorem State.updClassEntry_meter (j : SlotId) : (s.updClassEntry i f).meter j = s.meter j := rfl
@[simp] theorem State.updClassEntry_identity (j : IdentityId) : (s.updClassEntry i f).identity j = s.identity j := rfl

end updClassEntry

section updUplink

variable (s : State) (i : UplinkId) (f : Uplink → Uplink)

@[simp] theorem State.updUplink_clock : (s.updUplink i f).clock = s.clock := rfl
@[simp] theorem State.updUplink_slots : (s.updUplink i f).slots = s.slots := rfl
@[simp] theorem State.updUplink_policies : (s.updUplink i f).policies = s.policies := rfl
@[simp] theorem State.updUplink_chassis : (s.updUplink i f).chassis = s.chassis := rfl
@[simp] theorem State.updUplink_interlock : (s.updUplink i f).interlock = s.interlock := rfl
@[simp] theorem State.updUplink_rails : (s.updUplink i f).rails = s.rails := rfl
@[simp] theorem State.updUplink_contexts : (s.updUplink i f).contexts = s.contexts := rfl
@[simp] theorem State.updUplink_inventory : (s.updUplink i f).inventory = s.inventory := rfl
@[simp] theorem State.updUplink_psus : (s.updUplink i f).psus = s.psus := rfl
@[simp] theorem State.updUplink_grants : (s.updUplink i f).grants = s.grants := rfl
@[simp] theorem State.updUplink_powerQueue : (s.updUplink i f).powerQueue = s.powerQueue := rfl
@[simp] theorem State.updUplink_queueCounter : (s.updUplink i f).queueCounter = s.queueCounter := rfl
@[simp] theorem State.updUplink_admissionCounter : (s.updUplink i f).admissionCounter = s.admissionCounter := rfl
@[simp] theorem State.updUplink_thermal : (s.updUplink i f).thermal = s.thermal := rfl
@[simp] theorem State.updUplink_zones : (s.updUplink i f).zones = s.zones := rfl
@[simp] theorem State.updUplink_fans : (s.updUplink i f).fans = s.fans := rfl
@[simp] theorem State.updUplink_links : (s.updUplink i f).links = s.links := rfl
@[simp] theorem State.updUplink_portRole : (s.updUplink i f).portRole = s.portRole := rfl
@[simp] theorem State.updUplink_gateDrops : (s.updUplink i f).gateDrops = s.gateDrops := rfl
@[simp] theorem State.updUplink_classify : (s.updUplink i f).classify = s.classify := rfl
@[simp] theorem State.updUplink_uplinks : (s.updUplink i f).uplinks = Tab.upd s.uplinks i f := rfl
@[simp] theorem State.updUplink_groups : (s.updUplink i f).groups = s.groups := rfl
@[simp] theorem State.updUplink_uplinkMap : (s.updUplink i f).uplinkMap = s.uplinkMap := rfl
@[simp] theorem State.updUplink_stations : (s.updUplink i f).stations = s.stations := rfl
@[simp] theorem State.updUplink_meters : (s.updUplink i f).meters = s.meters := rfl
@[simp] theorem State.updUplink_chassisNumber : (s.updUplink i f).chassisNumber = s.chassisNumber := rfl
@[simp] theorem State.updUplink_identities : (s.updUplink i f).identities = s.identities := rfl
@[simp] theorem State.updUplink_requests : (s.updUplink i f).requests = s.requests := rfl
@[simp] theorem State.updUplink_writeJob : (s.updUplink i f).writeJob = s.writeJob := rfl
@[simp] theorem State.updUplink_warmHeld : (s.updUplink i f).warmHeld = s.warmHeld := rfl
@[simp] theorem State.updUplink_notices : (s.updUplink i f).notices = s.notices := rfl
@[simp] theorem State.updUplink_noticeCfg : (s.updUplink i f).noticeCfg = s.noticeCfg := rfl
@[simp] theorem State.updUplink_spacing : (s.updUplink i f).spacing = s.spacing := rfl
@[simp] theorem State.updUplink_noticeSeq : (s.updUplink i f).noticeSeq = s.noticeSeq := rfl
@[simp] theorem State.updUplink_sent : (s.updUplink i f).sent = s.sent := rfl
@[simp] theorem State.updUplink_pending : (s.updUplink i f).pending = s.pending := rfl
@[simp] theorem State.updUplink_slot (j : SlotId) : (s.updUplink i f).slot j = s.slot j := rfl
@[simp] theorem State.updUplink_policy (j : SlotId) : (s.updUplink i f).policy j = s.policy j := rfl
@[simp] theorem State.updUplink_rail (j : SlotId) : (s.updUplink i f).rail j = s.rail j := rfl
@[simp] theorem State.updUplink_context (j : SlotId) : (s.updUplink i f).context j = s.context j := rfl
@[simp] theorem State.updUplink_inv (j : SlotId) : (s.updUplink i f).inv j = s.inv j := rfl
@[simp] theorem State.updUplink_psu (j : PsuId) : (s.updUplink i f).psu j = s.psu j := rfl
@[simp] theorem State.updUplink_grantOf (j : SlotId) : (s.updUplink i f).grantOf j = s.grantOf j := rfl
@[simp] theorem State.updUplink_thermalOf (j : SlotId) : (s.updUplink i f).thermalOf j = s.thermalOf j := rfl
@[simp] theorem State.updUplink_zone (j : ZoneId) : (s.updUplink i f).zone j = s.zone j := rfl
@[simp] theorem State.updUplink_fan (j : FanId) : (s.updUplink i f).fan j = s.fan j := rfl
@[simp] theorem State.updUplink_link (j : PortId) : (s.updUplink i f).link j = s.link j := rfl
@[simp] theorem State.updUplink_gateDrop (j : SlotId) : (s.updUplink i f).gateDrop j = s.gateDrop j := rfl
@[simp] theorem State.updUplink_classEntry (j : (Fin 64)) : (s.updUplink i f).classEntry j = s.classEntry j := rfl
@[simp] theorem State.updUplink_uplink_self : (s.updUplink i f).uplink i = f (s.uplink i) := by
  simp [State.uplink]
theorem State.updUplink_uplink_ne {i j : UplinkId} (h : j ≠ i) : (s.updUplink i f).uplink j = s.uplink j := by
  simp [State.uplink, Tab.get_upd_ne _ _ h]
theorem State.updUplink_uplink (j : UplinkId) :
    (s.updUplink i f).uplink j = if j = i then f (s.uplink i) else s.uplink j := by
  simp [State.uplink, Tab.get_upd]
@[simp] theorem State.updUplink_group (j : GroupId) : (s.updUplink i f).group j = s.group j := rfl
@[simp] theorem State.updUplink_map (j : SlotId) : (s.updUplink i f).map j = s.map j := rfl
@[simp] theorem State.updUplink_station (j : (Fin 64)) : (s.updUplink i f).station j = s.station j := rfl
@[simp] theorem State.updUplink_meter (j : SlotId) : (s.updUplink i f).meter j = s.meter j := rfl
@[simp] theorem State.updUplink_identity (j : IdentityId) : (s.updUplink i f).identity j = s.identity j := rfl

end updUplink

section updGroup

variable (s : State) (i : GroupId) (f : Group → Group)

@[simp] theorem State.updGroup_clock : (s.updGroup i f).clock = s.clock := rfl
@[simp] theorem State.updGroup_slots : (s.updGroup i f).slots = s.slots := rfl
@[simp] theorem State.updGroup_policies : (s.updGroup i f).policies = s.policies := rfl
@[simp] theorem State.updGroup_chassis : (s.updGroup i f).chassis = s.chassis := rfl
@[simp] theorem State.updGroup_interlock : (s.updGroup i f).interlock = s.interlock := rfl
@[simp] theorem State.updGroup_rails : (s.updGroup i f).rails = s.rails := rfl
@[simp] theorem State.updGroup_contexts : (s.updGroup i f).contexts = s.contexts := rfl
@[simp] theorem State.updGroup_inventory : (s.updGroup i f).inventory = s.inventory := rfl
@[simp] theorem State.updGroup_psus : (s.updGroup i f).psus = s.psus := rfl
@[simp] theorem State.updGroup_grants : (s.updGroup i f).grants = s.grants := rfl
@[simp] theorem State.updGroup_powerQueue : (s.updGroup i f).powerQueue = s.powerQueue := rfl
@[simp] theorem State.updGroup_queueCounter : (s.updGroup i f).queueCounter = s.queueCounter := rfl
@[simp] theorem State.updGroup_admissionCounter : (s.updGroup i f).admissionCounter = s.admissionCounter := rfl
@[simp] theorem State.updGroup_thermal : (s.updGroup i f).thermal = s.thermal := rfl
@[simp] theorem State.updGroup_zones : (s.updGroup i f).zones = s.zones := rfl
@[simp] theorem State.updGroup_fans : (s.updGroup i f).fans = s.fans := rfl
@[simp] theorem State.updGroup_links : (s.updGroup i f).links = s.links := rfl
@[simp] theorem State.updGroup_portRole : (s.updGroup i f).portRole = s.portRole := rfl
@[simp] theorem State.updGroup_gateDrops : (s.updGroup i f).gateDrops = s.gateDrops := rfl
@[simp] theorem State.updGroup_classify : (s.updGroup i f).classify = s.classify := rfl
@[simp] theorem State.updGroup_uplinks : (s.updGroup i f).uplinks = s.uplinks := rfl
@[simp] theorem State.updGroup_groups : (s.updGroup i f).groups = Tab.upd s.groups i f := rfl
@[simp] theorem State.updGroup_uplinkMap : (s.updGroup i f).uplinkMap = s.uplinkMap := rfl
@[simp] theorem State.updGroup_stations : (s.updGroup i f).stations = s.stations := rfl
@[simp] theorem State.updGroup_meters : (s.updGroup i f).meters = s.meters := rfl
@[simp] theorem State.updGroup_chassisNumber : (s.updGroup i f).chassisNumber = s.chassisNumber := rfl
@[simp] theorem State.updGroup_identities : (s.updGroup i f).identities = s.identities := rfl
@[simp] theorem State.updGroup_requests : (s.updGroup i f).requests = s.requests := rfl
@[simp] theorem State.updGroup_writeJob : (s.updGroup i f).writeJob = s.writeJob := rfl
@[simp] theorem State.updGroup_warmHeld : (s.updGroup i f).warmHeld = s.warmHeld := rfl
@[simp] theorem State.updGroup_notices : (s.updGroup i f).notices = s.notices := rfl
@[simp] theorem State.updGroup_noticeCfg : (s.updGroup i f).noticeCfg = s.noticeCfg := rfl
@[simp] theorem State.updGroup_spacing : (s.updGroup i f).spacing = s.spacing := rfl
@[simp] theorem State.updGroup_noticeSeq : (s.updGroup i f).noticeSeq = s.noticeSeq := rfl
@[simp] theorem State.updGroup_sent : (s.updGroup i f).sent = s.sent := rfl
@[simp] theorem State.updGroup_pending : (s.updGroup i f).pending = s.pending := rfl
@[simp] theorem State.updGroup_slot (j : SlotId) : (s.updGroup i f).slot j = s.slot j := rfl
@[simp] theorem State.updGroup_policy (j : SlotId) : (s.updGroup i f).policy j = s.policy j := rfl
@[simp] theorem State.updGroup_rail (j : SlotId) : (s.updGroup i f).rail j = s.rail j := rfl
@[simp] theorem State.updGroup_context (j : SlotId) : (s.updGroup i f).context j = s.context j := rfl
@[simp] theorem State.updGroup_inv (j : SlotId) : (s.updGroup i f).inv j = s.inv j := rfl
@[simp] theorem State.updGroup_psu (j : PsuId) : (s.updGroup i f).psu j = s.psu j := rfl
@[simp] theorem State.updGroup_grantOf (j : SlotId) : (s.updGroup i f).grantOf j = s.grantOf j := rfl
@[simp] theorem State.updGroup_thermalOf (j : SlotId) : (s.updGroup i f).thermalOf j = s.thermalOf j := rfl
@[simp] theorem State.updGroup_zone (j : ZoneId) : (s.updGroup i f).zone j = s.zone j := rfl
@[simp] theorem State.updGroup_fan (j : FanId) : (s.updGroup i f).fan j = s.fan j := rfl
@[simp] theorem State.updGroup_link (j : PortId) : (s.updGroup i f).link j = s.link j := rfl
@[simp] theorem State.updGroup_gateDrop (j : SlotId) : (s.updGroup i f).gateDrop j = s.gateDrop j := rfl
@[simp] theorem State.updGroup_classEntry (j : (Fin 64)) : (s.updGroup i f).classEntry j = s.classEntry j := rfl
@[simp] theorem State.updGroup_uplink (j : UplinkId) : (s.updGroup i f).uplink j = s.uplink j := rfl
@[simp] theorem State.updGroup_group_self : (s.updGroup i f).group i = f (s.group i) := by
  simp [State.group]
theorem State.updGroup_group_ne {i j : GroupId} (h : j ≠ i) : (s.updGroup i f).group j = s.group j := by
  simp [State.group, Tab.get_upd_ne _ _ h]
theorem State.updGroup_group (j : GroupId) :
    (s.updGroup i f).group j = if j = i then f (s.group i) else s.group j := by
  simp [State.group, Tab.get_upd]
@[simp] theorem State.updGroup_map (j : SlotId) : (s.updGroup i f).map j = s.map j := rfl
@[simp] theorem State.updGroup_station (j : (Fin 64)) : (s.updGroup i f).station j = s.station j := rfl
@[simp] theorem State.updGroup_meter (j : SlotId) : (s.updGroup i f).meter j = s.meter j := rfl
@[simp] theorem State.updGroup_identity (j : IdentityId) : (s.updGroup i f).identity j = s.identity j := rfl

end updGroup

section updMap

variable (s : State) (i : SlotId) (f : UplinkMap → UplinkMap)

@[simp] theorem State.updMap_clock : (s.updMap i f).clock = s.clock := rfl
@[simp] theorem State.updMap_slots : (s.updMap i f).slots = s.slots := rfl
@[simp] theorem State.updMap_policies : (s.updMap i f).policies = s.policies := rfl
@[simp] theorem State.updMap_chassis : (s.updMap i f).chassis = s.chassis := rfl
@[simp] theorem State.updMap_interlock : (s.updMap i f).interlock = s.interlock := rfl
@[simp] theorem State.updMap_rails : (s.updMap i f).rails = s.rails := rfl
@[simp] theorem State.updMap_contexts : (s.updMap i f).contexts = s.contexts := rfl
@[simp] theorem State.updMap_inventory : (s.updMap i f).inventory = s.inventory := rfl
@[simp] theorem State.updMap_psus : (s.updMap i f).psus = s.psus := rfl
@[simp] theorem State.updMap_grants : (s.updMap i f).grants = s.grants := rfl
@[simp] theorem State.updMap_powerQueue : (s.updMap i f).powerQueue = s.powerQueue := rfl
@[simp] theorem State.updMap_queueCounter : (s.updMap i f).queueCounter = s.queueCounter := rfl
@[simp] theorem State.updMap_admissionCounter : (s.updMap i f).admissionCounter = s.admissionCounter := rfl
@[simp] theorem State.updMap_thermal : (s.updMap i f).thermal = s.thermal := rfl
@[simp] theorem State.updMap_zones : (s.updMap i f).zones = s.zones := rfl
@[simp] theorem State.updMap_fans : (s.updMap i f).fans = s.fans := rfl
@[simp] theorem State.updMap_links : (s.updMap i f).links = s.links := rfl
@[simp] theorem State.updMap_portRole : (s.updMap i f).portRole = s.portRole := rfl
@[simp] theorem State.updMap_gateDrops : (s.updMap i f).gateDrops = s.gateDrops := rfl
@[simp] theorem State.updMap_classify : (s.updMap i f).classify = s.classify := rfl
@[simp] theorem State.updMap_uplinks : (s.updMap i f).uplinks = s.uplinks := rfl
@[simp] theorem State.updMap_groups : (s.updMap i f).groups = s.groups := rfl
@[simp] theorem State.updMap_uplinkMap : (s.updMap i f).uplinkMap = Tab.upd s.uplinkMap i f := rfl
@[simp] theorem State.updMap_stations : (s.updMap i f).stations = s.stations := rfl
@[simp] theorem State.updMap_meters : (s.updMap i f).meters = s.meters := rfl
@[simp] theorem State.updMap_chassisNumber : (s.updMap i f).chassisNumber = s.chassisNumber := rfl
@[simp] theorem State.updMap_identities : (s.updMap i f).identities = s.identities := rfl
@[simp] theorem State.updMap_requests : (s.updMap i f).requests = s.requests := rfl
@[simp] theorem State.updMap_writeJob : (s.updMap i f).writeJob = s.writeJob := rfl
@[simp] theorem State.updMap_warmHeld : (s.updMap i f).warmHeld = s.warmHeld := rfl
@[simp] theorem State.updMap_notices : (s.updMap i f).notices = s.notices := rfl
@[simp] theorem State.updMap_noticeCfg : (s.updMap i f).noticeCfg = s.noticeCfg := rfl
@[simp] theorem State.updMap_spacing : (s.updMap i f).spacing = s.spacing := rfl
@[simp] theorem State.updMap_noticeSeq : (s.updMap i f).noticeSeq = s.noticeSeq := rfl
@[simp] theorem State.updMap_sent : (s.updMap i f).sent = s.sent := rfl
@[simp] theorem State.updMap_pending : (s.updMap i f).pending = s.pending := rfl
@[simp] theorem State.updMap_slot (j : SlotId) : (s.updMap i f).slot j = s.slot j := rfl
@[simp] theorem State.updMap_policy (j : SlotId) : (s.updMap i f).policy j = s.policy j := rfl
@[simp] theorem State.updMap_rail (j : SlotId) : (s.updMap i f).rail j = s.rail j := rfl
@[simp] theorem State.updMap_context (j : SlotId) : (s.updMap i f).context j = s.context j := rfl
@[simp] theorem State.updMap_inv (j : SlotId) : (s.updMap i f).inv j = s.inv j := rfl
@[simp] theorem State.updMap_psu (j : PsuId) : (s.updMap i f).psu j = s.psu j := rfl
@[simp] theorem State.updMap_grantOf (j : SlotId) : (s.updMap i f).grantOf j = s.grantOf j := rfl
@[simp] theorem State.updMap_thermalOf (j : SlotId) : (s.updMap i f).thermalOf j = s.thermalOf j := rfl
@[simp] theorem State.updMap_zone (j : ZoneId) : (s.updMap i f).zone j = s.zone j := rfl
@[simp] theorem State.updMap_fan (j : FanId) : (s.updMap i f).fan j = s.fan j := rfl
@[simp] theorem State.updMap_link (j : PortId) : (s.updMap i f).link j = s.link j := rfl
@[simp] theorem State.updMap_gateDrop (j : SlotId) : (s.updMap i f).gateDrop j = s.gateDrop j := rfl
@[simp] theorem State.updMap_classEntry (j : (Fin 64)) : (s.updMap i f).classEntry j = s.classEntry j := rfl
@[simp] theorem State.updMap_uplink (j : UplinkId) : (s.updMap i f).uplink j = s.uplink j := rfl
@[simp] theorem State.updMap_group (j : GroupId) : (s.updMap i f).group j = s.group j := rfl
@[simp] theorem State.updMap_map_self : (s.updMap i f).map i = f (s.map i) := by
  simp [State.map]
theorem State.updMap_map_ne {i j : SlotId} (h : j ≠ i) : (s.updMap i f).map j = s.map j := by
  simp [State.map, Tab.get_upd_ne _ _ h]
theorem State.updMap_map (j : SlotId) :
    (s.updMap i f).map j = if j = i then f (s.map i) else s.map j := by
  simp [State.map, Tab.get_upd]
@[simp] theorem State.updMap_station (j : (Fin 64)) : (s.updMap i f).station j = s.station j := rfl
@[simp] theorem State.updMap_meter (j : SlotId) : (s.updMap i f).meter j = s.meter j := rfl
@[simp] theorem State.updMap_identity (j : IdentityId) : (s.updMap i f).identity j = s.identity j := rfl

end updMap

section updStation

variable (s : State) (i : (Fin 64)) (f : (Option Station) → (Option Station))

@[simp] theorem State.updStation_clock : (s.updStation i f).clock = s.clock := rfl
@[simp] theorem State.updStation_slots : (s.updStation i f).slots = s.slots := rfl
@[simp] theorem State.updStation_policies : (s.updStation i f).policies = s.policies := rfl
@[simp] theorem State.updStation_chassis : (s.updStation i f).chassis = s.chassis := rfl
@[simp] theorem State.updStation_interlock : (s.updStation i f).interlock = s.interlock := rfl
@[simp] theorem State.updStation_rails : (s.updStation i f).rails = s.rails := rfl
@[simp] theorem State.updStation_contexts : (s.updStation i f).contexts = s.contexts := rfl
@[simp] theorem State.updStation_inventory : (s.updStation i f).inventory = s.inventory := rfl
@[simp] theorem State.updStation_psus : (s.updStation i f).psus = s.psus := rfl
@[simp] theorem State.updStation_grants : (s.updStation i f).grants = s.grants := rfl
@[simp] theorem State.updStation_powerQueue : (s.updStation i f).powerQueue = s.powerQueue := rfl
@[simp] theorem State.updStation_queueCounter : (s.updStation i f).queueCounter = s.queueCounter := rfl
@[simp] theorem State.updStation_admissionCounter : (s.updStation i f).admissionCounter = s.admissionCounter := rfl
@[simp] theorem State.updStation_thermal : (s.updStation i f).thermal = s.thermal := rfl
@[simp] theorem State.updStation_zones : (s.updStation i f).zones = s.zones := rfl
@[simp] theorem State.updStation_fans : (s.updStation i f).fans = s.fans := rfl
@[simp] theorem State.updStation_links : (s.updStation i f).links = s.links := rfl
@[simp] theorem State.updStation_portRole : (s.updStation i f).portRole = s.portRole := rfl
@[simp] theorem State.updStation_gateDrops : (s.updStation i f).gateDrops = s.gateDrops := rfl
@[simp] theorem State.updStation_classify : (s.updStation i f).classify = s.classify := rfl
@[simp] theorem State.updStation_uplinks : (s.updStation i f).uplinks = s.uplinks := rfl
@[simp] theorem State.updStation_groups : (s.updStation i f).groups = s.groups := rfl
@[simp] theorem State.updStation_uplinkMap : (s.updStation i f).uplinkMap = s.uplinkMap := rfl
@[simp] theorem State.updStation_stations : (s.updStation i f).stations = Tab.upd s.stations i f := rfl
@[simp] theorem State.updStation_meters : (s.updStation i f).meters = s.meters := rfl
@[simp] theorem State.updStation_chassisNumber : (s.updStation i f).chassisNumber = s.chassisNumber := rfl
@[simp] theorem State.updStation_identities : (s.updStation i f).identities = s.identities := rfl
@[simp] theorem State.updStation_requests : (s.updStation i f).requests = s.requests := rfl
@[simp] theorem State.updStation_writeJob : (s.updStation i f).writeJob = s.writeJob := rfl
@[simp] theorem State.updStation_warmHeld : (s.updStation i f).warmHeld = s.warmHeld := rfl
@[simp] theorem State.updStation_notices : (s.updStation i f).notices = s.notices := rfl
@[simp] theorem State.updStation_noticeCfg : (s.updStation i f).noticeCfg = s.noticeCfg := rfl
@[simp] theorem State.updStation_spacing : (s.updStation i f).spacing = s.spacing := rfl
@[simp] theorem State.updStation_noticeSeq : (s.updStation i f).noticeSeq = s.noticeSeq := rfl
@[simp] theorem State.updStation_sent : (s.updStation i f).sent = s.sent := rfl
@[simp] theorem State.updStation_pending : (s.updStation i f).pending = s.pending := rfl
@[simp] theorem State.updStation_slot (j : SlotId) : (s.updStation i f).slot j = s.slot j := rfl
@[simp] theorem State.updStation_policy (j : SlotId) : (s.updStation i f).policy j = s.policy j := rfl
@[simp] theorem State.updStation_rail (j : SlotId) : (s.updStation i f).rail j = s.rail j := rfl
@[simp] theorem State.updStation_context (j : SlotId) : (s.updStation i f).context j = s.context j := rfl
@[simp] theorem State.updStation_inv (j : SlotId) : (s.updStation i f).inv j = s.inv j := rfl
@[simp] theorem State.updStation_psu (j : PsuId) : (s.updStation i f).psu j = s.psu j := rfl
@[simp] theorem State.updStation_grantOf (j : SlotId) : (s.updStation i f).grantOf j = s.grantOf j := rfl
@[simp] theorem State.updStation_thermalOf (j : SlotId) : (s.updStation i f).thermalOf j = s.thermalOf j := rfl
@[simp] theorem State.updStation_zone (j : ZoneId) : (s.updStation i f).zone j = s.zone j := rfl
@[simp] theorem State.updStation_fan (j : FanId) : (s.updStation i f).fan j = s.fan j := rfl
@[simp] theorem State.updStation_link (j : PortId) : (s.updStation i f).link j = s.link j := rfl
@[simp] theorem State.updStation_gateDrop (j : SlotId) : (s.updStation i f).gateDrop j = s.gateDrop j := rfl
@[simp] theorem State.updStation_classEntry (j : (Fin 64)) : (s.updStation i f).classEntry j = s.classEntry j := rfl
@[simp] theorem State.updStation_uplink (j : UplinkId) : (s.updStation i f).uplink j = s.uplink j := rfl
@[simp] theorem State.updStation_group (j : GroupId) : (s.updStation i f).group j = s.group j := rfl
@[simp] theorem State.updStation_map (j : SlotId) : (s.updStation i f).map j = s.map j := rfl
@[simp] theorem State.updStation_station_self : (s.updStation i f).station i = f (s.station i) := by
  simp [State.station]
theorem State.updStation_station_ne {i j : (Fin 64)} (h : j ≠ i) : (s.updStation i f).station j = s.station j := by
  simp [State.station, Tab.get_upd_ne _ _ h]
theorem State.updStation_station (j : (Fin 64)) :
    (s.updStation i f).station j = if j = i then f (s.station i) else s.station j := by
  simp [State.station, Tab.get_upd]
@[simp] theorem State.updStation_meter (j : SlotId) : (s.updStation i f).meter j = s.meter j := rfl
@[simp] theorem State.updStation_identity (j : IdentityId) : (s.updStation i f).identity j = s.identity j := rfl

end updStation

section updMeter

variable (s : State) (i : SlotId) (f : Meter → Meter)

@[simp] theorem State.updMeter_clock : (s.updMeter i f).clock = s.clock := rfl
@[simp] theorem State.updMeter_slots : (s.updMeter i f).slots = s.slots := rfl
@[simp] theorem State.updMeter_policies : (s.updMeter i f).policies = s.policies := rfl
@[simp] theorem State.updMeter_chassis : (s.updMeter i f).chassis = s.chassis := rfl
@[simp] theorem State.updMeter_interlock : (s.updMeter i f).interlock = s.interlock := rfl
@[simp] theorem State.updMeter_rails : (s.updMeter i f).rails = s.rails := rfl
@[simp] theorem State.updMeter_contexts : (s.updMeter i f).contexts = s.contexts := rfl
@[simp] theorem State.updMeter_inventory : (s.updMeter i f).inventory = s.inventory := rfl
@[simp] theorem State.updMeter_psus : (s.updMeter i f).psus = s.psus := rfl
@[simp] theorem State.updMeter_grants : (s.updMeter i f).grants = s.grants := rfl
@[simp] theorem State.updMeter_powerQueue : (s.updMeter i f).powerQueue = s.powerQueue := rfl
@[simp] theorem State.updMeter_queueCounter : (s.updMeter i f).queueCounter = s.queueCounter := rfl
@[simp] theorem State.updMeter_admissionCounter : (s.updMeter i f).admissionCounter = s.admissionCounter := rfl
@[simp] theorem State.updMeter_thermal : (s.updMeter i f).thermal = s.thermal := rfl
@[simp] theorem State.updMeter_zones : (s.updMeter i f).zones = s.zones := rfl
@[simp] theorem State.updMeter_fans : (s.updMeter i f).fans = s.fans := rfl
@[simp] theorem State.updMeter_links : (s.updMeter i f).links = s.links := rfl
@[simp] theorem State.updMeter_portRole : (s.updMeter i f).portRole = s.portRole := rfl
@[simp] theorem State.updMeter_gateDrops : (s.updMeter i f).gateDrops = s.gateDrops := rfl
@[simp] theorem State.updMeter_classify : (s.updMeter i f).classify = s.classify := rfl
@[simp] theorem State.updMeter_uplinks : (s.updMeter i f).uplinks = s.uplinks := rfl
@[simp] theorem State.updMeter_groups : (s.updMeter i f).groups = s.groups := rfl
@[simp] theorem State.updMeter_uplinkMap : (s.updMeter i f).uplinkMap = s.uplinkMap := rfl
@[simp] theorem State.updMeter_stations : (s.updMeter i f).stations = s.stations := rfl
@[simp] theorem State.updMeter_meters : (s.updMeter i f).meters = Tab.upd s.meters i f := rfl
@[simp] theorem State.updMeter_chassisNumber : (s.updMeter i f).chassisNumber = s.chassisNumber := rfl
@[simp] theorem State.updMeter_identities : (s.updMeter i f).identities = s.identities := rfl
@[simp] theorem State.updMeter_requests : (s.updMeter i f).requests = s.requests := rfl
@[simp] theorem State.updMeter_writeJob : (s.updMeter i f).writeJob = s.writeJob := rfl
@[simp] theorem State.updMeter_warmHeld : (s.updMeter i f).warmHeld = s.warmHeld := rfl
@[simp] theorem State.updMeter_notices : (s.updMeter i f).notices = s.notices := rfl
@[simp] theorem State.updMeter_noticeCfg : (s.updMeter i f).noticeCfg = s.noticeCfg := rfl
@[simp] theorem State.updMeter_spacing : (s.updMeter i f).spacing = s.spacing := rfl
@[simp] theorem State.updMeter_noticeSeq : (s.updMeter i f).noticeSeq = s.noticeSeq := rfl
@[simp] theorem State.updMeter_sent : (s.updMeter i f).sent = s.sent := rfl
@[simp] theorem State.updMeter_pending : (s.updMeter i f).pending = s.pending := rfl
@[simp] theorem State.updMeter_slot (j : SlotId) : (s.updMeter i f).slot j = s.slot j := rfl
@[simp] theorem State.updMeter_policy (j : SlotId) : (s.updMeter i f).policy j = s.policy j := rfl
@[simp] theorem State.updMeter_rail (j : SlotId) : (s.updMeter i f).rail j = s.rail j := rfl
@[simp] theorem State.updMeter_context (j : SlotId) : (s.updMeter i f).context j = s.context j := rfl
@[simp] theorem State.updMeter_inv (j : SlotId) : (s.updMeter i f).inv j = s.inv j := rfl
@[simp] theorem State.updMeter_psu (j : PsuId) : (s.updMeter i f).psu j = s.psu j := rfl
@[simp] theorem State.updMeter_grantOf (j : SlotId) : (s.updMeter i f).grantOf j = s.grantOf j := rfl
@[simp] theorem State.updMeter_thermalOf (j : SlotId) : (s.updMeter i f).thermalOf j = s.thermalOf j := rfl
@[simp] theorem State.updMeter_zone (j : ZoneId) : (s.updMeter i f).zone j = s.zone j := rfl
@[simp] theorem State.updMeter_fan (j : FanId) : (s.updMeter i f).fan j = s.fan j := rfl
@[simp] theorem State.updMeter_link (j : PortId) : (s.updMeter i f).link j = s.link j := rfl
@[simp] theorem State.updMeter_gateDrop (j : SlotId) : (s.updMeter i f).gateDrop j = s.gateDrop j := rfl
@[simp] theorem State.updMeter_classEntry (j : (Fin 64)) : (s.updMeter i f).classEntry j = s.classEntry j := rfl
@[simp] theorem State.updMeter_uplink (j : UplinkId) : (s.updMeter i f).uplink j = s.uplink j := rfl
@[simp] theorem State.updMeter_group (j : GroupId) : (s.updMeter i f).group j = s.group j := rfl
@[simp] theorem State.updMeter_map (j : SlotId) : (s.updMeter i f).map j = s.map j := rfl
@[simp] theorem State.updMeter_station (j : (Fin 64)) : (s.updMeter i f).station j = s.station j := rfl
@[simp] theorem State.updMeter_meter_self : (s.updMeter i f).meter i = f (s.meter i) := by
  simp [State.meter]
theorem State.updMeter_meter_ne {i j : SlotId} (h : j ≠ i) : (s.updMeter i f).meter j = s.meter j := by
  simp [State.meter, Tab.get_upd_ne _ _ h]
theorem State.updMeter_meter (j : SlotId) :
    (s.updMeter i f).meter j = if j = i then f (s.meter i) else s.meter j := by
  simp [State.meter, Tab.get_upd]
@[simp] theorem State.updMeter_identity (j : IdentityId) : (s.updMeter i f).identity j = s.identity j := rfl

end updMeter

section updIdentity

variable (s : State) (i : IdentityId) (f : Identity → Identity)

@[simp] theorem State.updIdentity_clock : (s.updIdentity i f).clock = s.clock := rfl
@[simp] theorem State.updIdentity_slots : (s.updIdentity i f).slots = s.slots := rfl
@[simp] theorem State.updIdentity_policies : (s.updIdentity i f).policies = s.policies := rfl
@[simp] theorem State.updIdentity_chassis : (s.updIdentity i f).chassis = s.chassis := rfl
@[simp] theorem State.updIdentity_interlock : (s.updIdentity i f).interlock = s.interlock := rfl
@[simp] theorem State.updIdentity_rails : (s.updIdentity i f).rails = s.rails := rfl
@[simp] theorem State.updIdentity_contexts : (s.updIdentity i f).contexts = s.contexts := rfl
@[simp] theorem State.updIdentity_inventory : (s.updIdentity i f).inventory = s.inventory := rfl
@[simp] theorem State.updIdentity_psus : (s.updIdentity i f).psus = s.psus := rfl
@[simp] theorem State.updIdentity_grants : (s.updIdentity i f).grants = s.grants := rfl
@[simp] theorem State.updIdentity_powerQueue : (s.updIdentity i f).powerQueue = s.powerQueue := rfl
@[simp] theorem State.updIdentity_queueCounter : (s.updIdentity i f).queueCounter = s.queueCounter := rfl
@[simp] theorem State.updIdentity_admissionCounter : (s.updIdentity i f).admissionCounter = s.admissionCounter := rfl
@[simp] theorem State.updIdentity_thermal : (s.updIdentity i f).thermal = s.thermal := rfl
@[simp] theorem State.updIdentity_zones : (s.updIdentity i f).zones = s.zones := rfl
@[simp] theorem State.updIdentity_fans : (s.updIdentity i f).fans = s.fans := rfl
@[simp] theorem State.updIdentity_links : (s.updIdentity i f).links = s.links := rfl
@[simp] theorem State.updIdentity_portRole : (s.updIdentity i f).portRole = s.portRole := rfl
@[simp] theorem State.updIdentity_gateDrops : (s.updIdentity i f).gateDrops = s.gateDrops := rfl
@[simp] theorem State.updIdentity_classify : (s.updIdentity i f).classify = s.classify := rfl
@[simp] theorem State.updIdentity_uplinks : (s.updIdentity i f).uplinks = s.uplinks := rfl
@[simp] theorem State.updIdentity_groups : (s.updIdentity i f).groups = s.groups := rfl
@[simp] theorem State.updIdentity_uplinkMap : (s.updIdentity i f).uplinkMap = s.uplinkMap := rfl
@[simp] theorem State.updIdentity_stations : (s.updIdentity i f).stations = s.stations := rfl
@[simp] theorem State.updIdentity_meters : (s.updIdentity i f).meters = s.meters := rfl
@[simp] theorem State.updIdentity_chassisNumber : (s.updIdentity i f).chassisNumber = s.chassisNumber := rfl
@[simp] theorem State.updIdentity_identities : (s.updIdentity i f).identities = Tab.upd s.identities i f := rfl
@[simp] theorem State.updIdentity_requests : (s.updIdentity i f).requests = s.requests := rfl
@[simp] theorem State.updIdentity_writeJob : (s.updIdentity i f).writeJob = s.writeJob := rfl
@[simp] theorem State.updIdentity_warmHeld : (s.updIdentity i f).warmHeld = s.warmHeld := rfl
@[simp] theorem State.updIdentity_notices : (s.updIdentity i f).notices = s.notices := rfl
@[simp] theorem State.updIdentity_noticeCfg : (s.updIdentity i f).noticeCfg = s.noticeCfg := rfl
@[simp] theorem State.updIdentity_spacing : (s.updIdentity i f).spacing = s.spacing := rfl
@[simp] theorem State.updIdentity_noticeSeq : (s.updIdentity i f).noticeSeq = s.noticeSeq := rfl
@[simp] theorem State.updIdentity_sent : (s.updIdentity i f).sent = s.sent := rfl
@[simp] theorem State.updIdentity_pending : (s.updIdentity i f).pending = s.pending := rfl
@[simp] theorem State.updIdentity_slot (j : SlotId) : (s.updIdentity i f).slot j = s.slot j := rfl
@[simp] theorem State.updIdentity_policy (j : SlotId) : (s.updIdentity i f).policy j = s.policy j := rfl
@[simp] theorem State.updIdentity_rail (j : SlotId) : (s.updIdentity i f).rail j = s.rail j := rfl
@[simp] theorem State.updIdentity_context (j : SlotId) : (s.updIdentity i f).context j = s.context j := rfl
@[simp] theorem State.updIdentity_inv (j : SlotId) : (s.updIdentity i f).inv j = s.inv j := rfl
@[simp] theorem State.updIdentity_psu (j : PsuId) : (s.updIdentity i f).psu j = s.psu j := rfl
@[simp] theorem State.updIdentity_grantOf (j : SlotId) : (s.updIdentity i f).grantOf j = s.grantOf j := rfl
@[simp] theorem State.updIdentity_thermalOf (j : SlotId) : (s.updIdentity i f).thermalOf j = s.thermalOf j := rfl
@[simp] theorem State.updIdentity_zone (j : ZoneId) : (s.updIdentity i f).zone j = s.zone j := rfl
@[simp] theorem State.updIdentity_fan (j : FanId) : (s.updIdentity i f).fan j = s.fan j := rfl
@[simp] theorem State.updIdentity_link (j : PortId) : (s.updIdentity i f).link j = s.link j := rfl
@[simp] theorem State.updIdentity_gateDrop (j : SlotId) : (s.updIdentity i f).gateDrop j = s.gateDrop j := rfl
@[simp] theorem State.updIdentity_classEntry (j : (Fin 64)) : (s.updIdentity i f).classEntry j = s.classEntry j := rfl
@[simp] theorem State.updIdentity_uplink (j : UplinkId) : (s.updIdentity i f).uplink j = s.uplink j := rfl
@[simp] theorem State.updIdentity_group (j : GroupId) : (s.updIdentity i f).group j = s.group j := rfl
@[simp] theorem State.updIdentity_map (j : SlotId) : (s.updIdentity i f).map j = s.map j := rfl
@[simp] theorem State.updIdentity_station (j : (Fin 64)) : (s.updIdentity i f).station j = s.station j := rfl
@[simp] theorem State.updIdentity_meter (j : SlotId) : (s.updIdentity i f).meter j = s.meter j := rfl
@[simp] theorem State.updIdentity_identity_self : (s.updIdentity i f).identity i = f (s.identity i) := by
  simp [State.identity]
theorem State.updIdentity_identity_ne {i j : IdentityId} (h : j ≠ i) : (s.updIdentity i f).identity j = s.identity j := by
  simp [State.identity, Tab.get_upd_ne _ _ h]
theorem State.updIdentity_identity (j : IdentityId) :
    (s.updIdentity i f).identity j = if j = i then f (s.identity i) else s.identity j := by
  simp [State.identity, Tab.get_upd]

end updIdentity

end Machine

end Sys2Proof
end

