-- ==== Sys2Proof/Laws/Notices.lean ====
section
/-!
SUPPORT. What the notice side can change: transmit, a send, a send attempt and the raising of an event change the notices,
the spacing timer, the notice sequence and the frames sent, and nothing else. One lemma per operation, then one per field.
-/

namespace Sys2Proof.Machine

/-- The state s with the notice side of t. -/
def State.noticeSideOf (s t : State) : State :=
  { s with notices := t.notices, spacing := t.spacing, noticeSeq := t.noticeSeq, sent := t.sent }

theorem State.transmit_frame (s : State) (p : PortId) (k : SentKind) (l : List Byte) :
    s.transmit p k l = { s with sent := if s.link p then s.sent ++ [⟨p, k, l⟩] else s.sent } := by
  unfold State.transmit
  split <;> rfl

theorem State.transmit_side (s : State) (p : PortId) (k : SentKind) (l : List Byte) :
    s.transmit p k l = s.noticeSideOf (s.transmit p k l) := by
  rw [State.transmit_frame]
  rfl

theorem State.sendNotice_side (s : State) (n : Notice) (rest : List Notice) :
    s.sendNotice n rest = s.noticeSideOf (s.sendNotice n rest) := by
  unfold State.sendNotice
  rw [State.transmit_frame]
  rfl

theorem State.attemptSend_side (s : State) : s.attemptSend = s.noticeSideOf s.attemptSend := by
  unfold State.attemptSend
  split
  · rfl
  · split
    · exact State.sendNotice_side s _ _
    · rfl

theorem State.raise_side (s : State) (e : Event) : s.raise e = s.noticeSideOf (s.raise e) := by
  unfold State.raise
  split
  · split
    · rfl
    · rw [State.attemptSend_side]
      rfl
  · rfl

theorem State.noticeSideOf_trans {s t u : State} (h : t = s.noticeSideOf t) (k : u = t.noticeSideOf u) :
    u = s.noticeSideOf u :=
  calc
    u = t.noticeSideOf u := k
    _ = (s.noticeSideOf t).noticeSideOf u := congrArg (fun x => State.noticeSideOf x u) h
    _ = s.noticeSideOf u := rfl

theorem State.raiseAll_side (s : State) (es : List Event) : s.raiseAll es = s.noticeSideOf (s.raiseAll es) := by
  induction es generalizing s with
  | nil => rfl
  | cons e es ih => exact State.noticeSideOf_trans (State.raise_side s e) (ih (s.raise e))

section transmit

variable (s : State) (p : PortId) (k : SentKind) (l : List Byte)

@[simp] theorem State.transmit_clock : (s.transmit p k l).clock = s.clock := by
  rw [State.transmit_side]; rfl
@[simp] theorem State.transmit_slots : (s.transmit p k l).slots = s.slots := by
  rw [State.transmit_side]; rfl
@[simp] theorem State.transmit_policies : (s.transmit p k l).policies = s.policies := by
  rw [State.transmit_side]; rfl
@[simp] theorem State.transmit_chassis : (s.transmit p k l).chassis = s.chassis := by
  rw [State.transmit_side]; rfl
@[simp] theorem State.transmit_interlock : (s.transmit p k l).interlock = s.interlock := by
  rw [State.transmit_side]; rfl
@[simp] theorem State.transmit_rails : (s.transmit p k l).rails = s.rails := by
  rw [State.transmit_side]; rfl
@[simp] theorem State.transmit_contexts : (s.transmit p k l).contexts = s.contexts := by
  rw [State.transmit_side]; rfl
@[simp] theorem State.transmit_inventory : (s.transmit p k l).inventory = s.inventory := by
  rw [State.transmit_side]; rfl
@[simp] theorem State.transmit_psus : (s.transmit p k l).psus = s.psus := by
  rw [State.transmit_side]; rfl
@[simp] theorem State.transmit_grants : (s.transmit p k l).grants = s.grants := by
  rw [State.transmit_side]; rfl
@[simp] theorem State.transmit_powerQueue : (s.transmit p k l).powerQueue = s.powerQueue := by
  rw [State.transmit_side]; rfl
@[simp] theorem State.transmit_queueCounter : (s.transmit p k l).queueCounter = s.queueCounter := by
  rw [State.transmit_side]; rfl
@[simp] theorem State.transmit_admissionCounter : (s.transmit p k l).admissionCounter = s.admissionCounter := by
  rw [State.transmit_side]; rfl
@[simp] theorem State.transmit_thermal : (s.transmit p k l).thermal = s.thermal := by
  rw [State.transmit_side]; rfl
@[simp] theorem State.transmit_zones : (s.transmit p k l).zones = s.zones := by
  rw [State.transmit_side]; rfl
@[simp] theorem State.transmit_fans : (s.transmit p k l).fans = s.fans := by
  rw [State.transmit_side]; rfl
@[simp] theorem State.transmit_links : (s.transmit p k l).links = s.links := by
  rw [State.transmit_side]; rfl
@[simp] theorem State.transmit_portRole : (s.transmit p k l).portRole = s.portRole := by
  rw [State.transmit_side]; rfl
@[simp] theorem State.transmit_gateDrops : (s.transmit p k l).gateDrops = s.gateDrops := by
  rw [State.transmit_side]; rfl
@[simp] theorem State.transmit_classify : (s.transmit p k l).classify = s.classify := by
  rw [State.transmit_side]; rfl
@[simp] theorem State.transmit_uplinks : (s.transmit p k l).uplinks = s.uplinks := by
  rw [State.transmit_side]; rfl
@[simp] theorem State.transmit_groups : (s.transmit p k l).groups = s.groups := by
  rw [State.transmit_side]; rfl
@[simp] theorem State.transmit_uplinkMap : (s.transmit p k l).uplinkMap = s.uplinkMap := by
  rw [State.transmit_side]; rfl
@[simp] theorem State.transmit_stations : (s.transmit p k l).stations = s.stations := by
  rw [State.transmit_side]; rfl
@[simp] theorem State.transmit_meters : (s.transmit p k l).meters = s.meters := by
  rw [State.transmit_side]; rfl
@[simp] theorem State.transmit_chassisNumber : (s.transmit p k l).chassisNumber = s.chassisNumber := by
  rw [State.transmit_side]; rfl
@[simp] theorem State.transmit_identities : (s.transmit p k l).identities = s.identities := by
  rw [State.transmit_side]; rfl
@[simp] theorem State.transmit_requests : (s.transmit p k l).requests = s.requests := by
  rw [State.transmit_side]; rfl
@[simp] theorem State.transmit_writeJob : (s.transmit p k l).writeJob = s.writeJob := by
  rw [State.transmit_side]; rfl
@[simp] theorem State.transmit_warmHeld : (s.transmit p k l).warmHeld = s.warmHeld := by
  rw [State.transmit_side]; rfl
@[simp] theorem State.transmit_noticeCfg : (s.transmit p k l).noticeCfg = s.noticeCfg := by
  rw [State.transmit_side]; rfl
@[simp] theorem State.transmit_pending : (s.transmit p k l).pending = s.pending := by
  rw [State.transmit_side]; rfl
@[simp] theorem State.transmit_slot (j : SlotId) : (s.transmit p k l).slot j = s.slot j := by
  simp [State.slot]
@[simp] theorem State.transmit_policy (j : SlotId) : (s.transmit p k l).policy j = s.policy j := by
  simp [State.policy]
@[simp] theorem State.transmit_rail (j : SlotId) : (s.transmit p k l).rail j = s.rail j := by
  simp [State.rail]
@[simp] theorem State.transmit_context (j : SlotId) : (s.transmit p k l).context j = s.context j := by
  simp [State.context]
@[simp] theorem State.transmit_inv (j : SlotId) : (s.transmit p k l).inv j = s.inv j := by
  simp [State.inv]
@[simp] theorem State.transmit_psu (j : PsuId) : (s.transmit p k l).psu j = s.psu j := by
  simp [State.psu]
@[simp] theorem State.transmit_grantOf (j : SlotId) : (s.transmit p k l).grantOf j = s.grantOf j := by
  simp [State.grantOf]
@[simp] theorem State.transmit_thermalOf (j : SlotId) : (s.transmit p k l).thermalOf j = s.thermalOf j := by
  simp [State.thermalOf]
@[simp] theorem State.transmit_zone (j : ZoneId) : (s.transmit p k l).zone j = s.zone j := by
  simp [State.zone]
@[simp] theorem State.transmit_fan (j : FanId) : (s.transmit p k l).fan j = s.fan j := by
  simp [State.fan]
@[simp] theorem State.transmit_link (j : PortId) : (s.transmit p k l).link j = s.link j := by
  simp [State.link]
@[simp] theorem State.transmit_gateDrop (j : SlotId) : (s.transmit p k l).gateDrop j = s.gateDrop j := by
  simp [State.gateDrop]
@[simp] theorem State.transmit_classEntry (j : (Fin 64)) : (s.transmit p k l).classEntry j = s.classEntry j := by
  simp [State.classEntry]
@[simp] theorem State.transmit_uplink (j : UplinkId) : (s.transmit p k l).uplink j = s.uplink j := by
  simp [State.uplink]
@[simp] theorem State.transmit_group (j : GroupId) : (s.transmit p k l).group j = s.group j := by
  simp [State.group]
@[simp] theorem State.transmit_map (j : SlotId) : (s.transmit p k l).map j = s.map j := by
  simp [State.map]
@[simp] theorem State.transmit_station (j : (Fin 64)) : (s.transmit p k l).station j = s.station j := by
  simp [State.station]
@[simp] theorem State.transmit_meter (j : SlotId) : (s.transmit p k l).meter j = s.meter j := by
  simp [State.meter]
@[simp] theorem State.transmit_identity (j : IdentityId) : (s.transmit p k l).identity j = s.identity j := by
  simp [State.identity]

end transmit

section sendNotice

variable (s : State) (n : Notice) (rest : List Notice)

@[simp] theorem State.sendNotice_clock : (s.sendNotice n rest).clock = s.clock := by
  rw [State.sendNotice_side]; rfl
@[simp] theorem State.sendNotice_slots : (s.sendNotice n rest).slots = s.slots := by
  rw [State.sendNotice_side]; rfl
@[simp] theorem State.sendNotice_policies : (s.sendNotice n rest).policies = s.policies := by
  rw [State.sendNotice_side]; rfl
@[simp] theorem State.sendNotice_chassis : (s.sendNotice n rest).chassis = s.chassis := by
  rw [State.sendNotice_side]; rfl
@[simp] theorem State.sendNotice_interlock : (s.sendNotice n rest).interlock = s.interlock := by
  rw [State.sendNotice_side]; rfl
@[simp] theorem State.sendNotice_rails : (s.sendNotice n rest).rails = s.rails := by
  rw [State.sendNotice_side]; rfl
@[simp] theorem State.sendNotice_contexts : (s.sendNotice n rest).contexts = s.contexts := by
  rw [State.sendNotice_side]; rfl
@[simp] theorem State.sendNotice_inventory : (s.sendNotice n rest).inventory = s.inventory := by
  rw [State.sendNotice_side]; rfl
@[simp] theorem State.sendNotice_psus : (s.sendNotice n rest).psus = s.psus := by
  rw [State.sendNotice_side]; rfl
@[simp] theorem State.sendNotice_grants : (s.sendNotice n rest).grants = s.grants := by
  rw [State.sendNotice_side]; rfl
@[simp] theorem State.sendNotice_powerQueue : (s.sendNotice n rest).powerQueue = s.powerQueue := by
  rw [State.sendNotice_side]; rfl
@[simp] theorem State.sendNotice_queueCounter : (s.sendNotice n rest).queueCounter = s.queueCounter := by
  rw [State.sendNotice_side]; rfl
@[simp] theorem State.sendNotice_admissionCounter : (s.sendNotice n rest).admissionCounter = s.admissionCounter := by
  rw [State.sendNotice_side]; rfl
@[simp] theorem State.sendNotice_thermal : (s.sendNotice n rest).thermal = s.thermal := by
  rw [State.sendNotice_side]; rfl
@[simp] theorem State.sendNotice_zones : (s.sendNotice n rest).zones = s.zones := by
  rw [State.sendNotice_side]; rfl
@[simp] theorem State.sendNotice_fans : (s.sendNotice n rest).fans = s.fans := by
  rw [State.sendNotice_side]; rfl
@[simp] theorem State.sendNotice_links : (s.sendNotice n rest).links = s.links := by
  rw [State.sendNotice_side]; rfl
@[simp] theorem State.sendNotice_portRole : (s.sendNotice n rest).portRole = s.portRole := by
  rw [State.sendNotice_side]; rfl
@[simp] theorem State.sendNotice_gateDrops : (s.sendNotice n rest).gateDrops = s.gateDrops := by
  rw [State.sendNotice_side]; rfl
@[simp] theorem State.sendNotice_classify : (s.sendNotice n rest).classify = s.classify := by
  rw [State.sendNotice_side]; rfl
@[simp] theorem State.sendNotice_uplinks : (s.sendNotice n rest).uplinks = s.uplinks := by
  rw [State.sendNotice_side]; rfl
@[simp] theorem State.sendNotice_groups : (s.sendNotice n rest).groups = s.groups := by
  rw [State.sendNotice_side]; rfl
@[simp] theorem State.sendNotice_uplinkMap : (s.sendNotice n rest).uplinkMap = s.uplinkMap := by
  rw [State.sendNotice_side]; rfl
@[simp] theorem State.sendNotice_stations : (s.sendNotice n rest).stations = s.stations := by
  rw [State.sendNotice_side]; rfl
@[simp] theorem State.sendNotice_meters : (s.sendNotice n rest).meters = s.meters := by
  rw [State.sendNotice_side]; rfl
@[simp] theorem State.sendNotice_chassisNumber : (s.sendNotice n rest).chassisNumber = s.chassisNumber := by
  rw [State.sendNotice_side]; rfl
@[simp] theorem State.sendNotice_identities : (s.sendNotice n rest).identities = s.identities := by
  rw [State.sendNotice_side]; rfl
@[simp] theorem State.sendNotice_requests : (s.sendNotice n rest).requests = s.requests := by
  rw [State.sendNotice_side]; rfl
@[simp] theorem State.sendNotice_writeJob : (s.sendNotice n rest).writeJob = s.writeJob := by
  rw [State.sendNotice_side]; rfl
@[simp] theorem State.sendNotice_warmHeld : (s.sendNotice n rest).warmHeld = s.warmHeld := by
  rw [State.sendNotice_side]; rfl
@[simp] theorem State.sendNotice_noticeCfg : (s.sendNotice n rest).noticeCfg = s.noticeCfg := by
  rw [State.sendNotice_side]; rfl
@[simp] theorem State.sendNotice_pending : (s.sendNotice n rest).pending = s.pending := by
  rw [State.sendNotice_side]; rfl
@[simp] theorem State.sendNotice_slot (j : SlotId) : (s.sendNotice n rest).slot j = s.slot j := by
  simp [State.slot]
@[simp] theorem State.sendNotice_policy (j : SlotId) : (s.sendNotice n rest).policy j = s.policy j := by
  simp [State.policy]
@[simp] theorem State.sendNotice_rail (j : SlotId) : (s.sendNotice n rest).rail j = s.rail j := by
  simp [State.rail]
@[simp] theorem State.sendNotice_context (j : SlotId) : (s.sendNotice n rest).context j = s.context j := by
  simp [State.context]
@[simp] theorem State.sendNotice_inv (j : SlotId) : (s.sendNotice n rest).inv j = s.inv j := by
  simp [State.inv]
@[simp] theorem State.sendNotice_psu (j : PsuId) : (s.sendNotice n rest).psu j = s.psu j := by
  simp [State.psu]
@[simp] theorem State.sendNotice_grantOf (j : SlotId) : (s.sendNotice n rest).grantOf j = s.grantOf j := by
  simp [State.grantOf]
@[simp] theorem State.sendNotice_thermalOf (j : SlotId) : (s.sendNotice n rest).thermalOf j = s.thermalOf j := by
  simp [State.thermalOf]
@[simp] theorem State.sendNotice_zone (j : ZoneId) : (s.sendNotice n rest).zone j = s.zone j := by
  simp [State.zone]
@[simp] theorem State.sendNotice_fan (j : FanId) : (s.sendNotice n rest).fan j = s.fan j := by
  simp [State.fan]
@[simp] theorem State.sendNotice_link (j : PortId) : (s.sendNotice n rest).link j = s.link j := by
  simp [State.link]
@[simp] theorem State.sendNotice_gateDrop (j : SlotId) : (s.sendNotice n rest).gateDrop j = s.gateDrop j := by
  simp [State.gateDrop]
@[simp] theorem State.sendNotice_classEntry (j : (Fin 64)) : (s.sendNotice n rest).classEntry j = s.classEntry j := by
  simp [State.classEntry]
@[simp] theorem State.sendNotice_uplink (j : UplinkId) : (s.sendNotice n rest).uplink j = s.uplink j := by
  simp [State.uplink]
@[simp] theorem State.sendNotice_group (j : GroupId) : (s.sendNotice n rest).group j = s.group j := by
  simp [State.group]
@[simp] theorem State.sendNotice_map (j : SlotId) : (s.sendNotice n rest).map j = s.map j := by
  simp [State.map]
@[simp] theorem State.sendNotice_station (j : (Fin 64)) : (s.sendNotice n rest).station j = s.station j := by
  simp [State.station]
@[simp] theorem State.sendNotice_meter (j : SlotId) : (s.sendNotice n rest).meter j = s.meter j := by
  simp [State.meter]
@[simp] theorem State.sendNotice_identity (j : IdentityId) : (s.sendNotice n rest).identity j = s.identity j := by
  simp [State.identity]

end sendNotice

section attemptSend

variable (s : State) 

@[simp] theorem State.attemptSend_clock : s.attemptSend.clock = s.clock := by
  rw [State.attemptSend_side]; rfl
@[simp] theorem State.attemptSend_slots : s.attemptSend.slots = s.slots := by
  rw [State.attemptSend_side]; rfl
@[simp] theorem State.attemptSend_policies : s.attemptSend.policies = s.policies := by
  rw [State.attemptSend_side]; rfl
@[simp] theorem State.attemptSend_chassis : s.attemptSend.chassis = s.chassis := by
  rw [State.attemptSend_side]; rfl
@[simp] theorem State.attemptSend_interlock : s.attemptSend.interlock = s.interlock := by
  rw [State.attemptSend_side]; rfl
@[simp] theorem State.attemptSend_rails : s.attemptSend.rails = s.rails := by
  rw [State.attemptSend_side]; rfl
@[simp] theorem State.attemptSend_contexts : s.attemptSend.contexts = s.contexts := by
  rw [State.attemptSend_side]; rfl
@[simp] theorem State.attemptSend_inventory : s.attemptSend.inventory = s.inventory := by
  rw [State.attemptSend_side]; rfl
@[simp] theorem State.attemptSend_psus : s.attemptSend.psus = s.psus := by
  rw [State.attemptSend_side]; rfl
@[simp] theorem State.attemptSend_grants : s.attemptSend.grants = s.grants := by
  rw [State.attemptSend_side]; rfl
@[simp] theorem State.attemptSend_powerQueue : s.attemptSend.powerQueue = s.powerQueue := by
  rw [State.attemptSend_side]; rfl
@[simp] theorem State.attemptSend_queueCounter : s.attemptSend.queueCounter = s.queueCounter := by
  rw [State.attemptSend_side]; rfl
@[simp] theorem State.attemptSend_admissionCounter : s.attemptSend.admissionCounter = s.admissionCounter := by
  rw [State.attemptSend_side]; rfl
@[simp] theorem State.attemptSend_thermal : s.attemptSend.thermal = s.thermal := by
  rw [State.attemptSend_side]; rfl
@[simp] theorem State.attemptSend_zones : s.attemptSend.zones = s.zones := by
  rw [State.attemptSend_side]; rfl
@[simp] theorem State.attemptSend_fans : s.attemptSend.fans = s.fans := by
  rw [State.attemptSend_side]; rfl
@[simp] theorem State.attemptSend_links : s.attemptSend.links = s.links := by
  rw [State.attemptSend_side]; rfl
@[simp] theorem State.attemptSend_portRole : s.attemptSend.portRole = s.portRole := by
  rw [State.attemptSend_side]; rfl
@[simp] theorem State.attemptSend_gateDrops : s.attemptSend.gateDrops = s.gateDrops := by
  rw [State.attemptSend_side]; rfl
@[simp] theorem State.attemptSend_classify : s.attemptSend.classify = s.classify := by
  rw [State.attemptSend_side]; rfl
@[simp] theorem State.attemptSend_uplinks : s.attemptSend.uplinks = s.uplinks := by
  rw [State.attemptSend_side]; rfl
@[simp] theorem State.attemptSend_groups : s.attemptSend.groups = s.groups := by
  rw [State.attemptSend_side]; rfl
@[simp] theorem State.attemptSend_uplinkMap : s.attemptSend.uplinkMap = s.uplinkMap := by
  rw [State.attemptSend_side]; rfl
@[simp] theorem State.attemptSend_stations : s.attemptSend.stations = s.stations := by
  rw [State.attemptSend_side]; rfl
@[simp] theorem State.attemptSend_meters : s.attemptSend.meters = s.meters := by
  rw [State.attemptSend_side]; rfl
@[simp] theorem State.attemptSend_chassisNumber : s.attemptSend.chassisNumber = s.chassisNumber := by
  rw [State.attemptSend_side]; rfl
@[simp] theorem State.attemptSend_identities : s.attemptSend.identities = s.identities := by
  rw [State.attemptSend_side]; rfl
@[simp] theorem State.attemptSend_requests : s.attemptSend.requests = s.requests := by
  rw [State.attemptSend_side]; rfl
@[simp] theorem State.attemptSend_writeJob : s.attemptSend.writeJob = s.writeJob := by
  rw [State.attemptSend_side]; rfl
@[simp] theorem State.attemptSend_warmHeld : s.attemptSend.warmHeld = s.warmHeld := by
  rw [State.attemptSend_side]; rfl
@[simp] theorem State.attemptSend_noticeCfg : s.attemptSend.noticeCfg = s.noticeCfg := by
  rw [State.attemptSend_side]; rfl
@[simp] theorem State.attemptSend_pending : s.attemptSend.pending = s.pending := by
  rw [State.attemptSend_side]; rfl
@[simp] theorem State.attemptSend_slot (j : SlotId) : s.attemptSend.slot j = s.slot j := by
  simp [State.slot]
@[simp] theorem State.attemptSend_policy (j : SlotId) : s.attemptSend.policy j = s.policy j := by
  simp [State.policy]
@[simp] theorem State.attemptSend_rail (j : SlotId) : s.attemptSend.rail j = s.rail j := by
  simp [State.rail]
@[simp] theorem State.attemptSend_context (j : SlotId) : s.attemptSend.context j = s.context j := by
  simp [State.context]
@[simp] theorem State.attemptSend_inv (j : SlotId) : s.attemptSend.inv j = s.inv j := by
  simp [State.inv]
@[simp] theorem State.attemptSend_psu (j : PsuId) : s.attemptSend.psu j = s.psu j := by
  simp [State.psu]
@[simp] theorem State.attemptSend_grantOf (j : SlotId) : s.attemptSend.grantOf j = s.grantOf j := by
  simp [State.grantOf]
@[simp] theorem State.attemptSend_thermalOf (j : SlotId) : s.attemptSend.thermalOf j = s.thermalOf j := by
  simp [State.thermalOf]
@[simp] theorem State.attemptSend_zone (j : ZoneId) : s.attemptSend.zone j = s.zone j := by
  simp [State.zone]
@[simp] theorem State.attemptSend_fan (j : FanId) : s.attemptSend.fan j = s.fan j := by
  simp [State.fan]
@[simp] theorem State.attemptSend_link (j : PortId) : s.attemptSend.link j = s.link j := by
  simp [State.link]
@[simp] theorem State.attemptSend_gateDrop (j : SlotId) : s.attemptSend.gateDrop j = s.gateDrop j := by
  simp [State.gateDrop]
@[simp] theorem State.attemptSend_classEntry (j : (Fin 64)) : s.attemptSend.classEntry j = s.classEntry j := by
  simp [State.classEntry]
@[simp] theorem State.attemptSend_uplink (j : UplinkId) : s.attemptSend.uplink j = s.uplink j := by
  simp [State.uplink]
@[simp] theorem State.attemptSend_group (j : GroupId) : s.attemptSend.group j = s.group j := by
  simp [State.group]
@[simp] theorem State.attemptSend_map (j : SlotId) : s.attemptSend.map j = s.map j := by
  simp [State.map]
@[simp] theorem State.attemptSend_station (j : (Fin 64)) : s.attemptSend.station j = s.station j := by
  simp [State.station]
@[simp] theorem State.attemptSend_meter (j : SlotId) : s.attemptSend.meter j = s.meter j := by
  simp [State.meter]
@[simp] theorem State.attemptSend_identity (j : IdentityId) : s.attemptSend.identity j = s.identity j := by
  simp [State.identity]

end attemptSend

section raise

variable (s : State) (e : Event)

@[simp] theorem State.raise_clock : (s.raise e).clock = s.clock := by
  rw [State.raise_side]; rfl
@[simp] theorem State.raise_slots : (s.raise e).slots = s.slots := by
  rw [State.raise_side]; rfl
@[simp] theorem State.raise_policies : (s.raise e).policies = s.policies := by
  rw [State.raise_side]; rfl
@[simp] theorem State.raise_chassis : (s.raise e).chassis = s.chassis := by
  rw [State.raise_side]; rfl
@[simp] theorem State.raise_interlock : (s.raise e).interlock = s.interlock := by
  rw [State.raise_side]; rfl
@[simp] theorem State.raise_rails : (s.raise e).rails = s.rails := by
  rw [State.raise_side]; rfl
@[simp] theorem State.raise_contexts : (s.raise e).contexts = s.contexts := by
  rw [State.raise_side]; rfl
@[simp] theorem State.raise_inventory : (s.raise e).inventory = s.inventory := by
  rw [State.raise_side]; rfl
@[simp] theorem State.raise_psus : (s.raise e).psus = s.psus := by
  rw [State.raise_side]; rfl
@[simp] theorem State.raise_grants : (s.raise e).grants = s.grants := by
  rw [State.raise_side]; rfl
@[simp] theorem State.raise_powerQueue : (s.raise e).powerQueue = s.powerQueue := by
  rw [State.raise_side]; rfl
@[simp] theorem State.raise_queueCounter : (s.raise e).queueCounter = s.queueCounter := by
  rw [State.raise_side]; rfl
@[simp] theorem State.raise_admissionCounter : (s.raise e).admissionCounter = s.admissionCounter := by
  rw [State.raise_side]; rfl
@[simp] theorem State.raise_thermal : (s.raise e).thermal = s.thermal := by
  rw [State.raise_side]; rfl
@[simp] theorem State.raise_zones : (s.raise e).zones = s.zones := by
  rw [State.raise_side]; rfl
@[simp] theorem State.raise_fans : (s.raise e).fans = s.fans := by
  rw [State.raise_side]; rfl
@[simp] theorem State.raise_links : (s.raise e).links = s.links := by
  rw [State.raise_side]; rfl
@[simp] theorem State.raise_portRole : (s.raise e).portRole = s.portRole := by
  rw [State.raise_side]; rfl
@[simp] theorem State.raise_gateDrops : (s.raise e).gateDrops = s.gateDrops := by
  rw [State.raise_side]; rfl
@[simp] theorem State.raise_classify : (s.raise e).classify = s.classify := by
  rw [State.raise_side]; rfl
@[simp] theorem State.raise_uplinks : (s.raise e).uplinks = s.uplinks := by
  rw [State.raise_side]; rfl
@[simp] theorem State.raise_groups : (s.raise e).groups = s.groups := by
  rw [State.raise_side]; rfl
@[simp] theorem State.raise_uplinkMap : (s.raise e).uplinkMap = s.uplinkMap := by
  rw [State.raise_side]; rfl
@[simp] theorem State.raise_stations : (s.raise e).stations = s.stations := by
  rw [State.raise_side]; rfl
@[simp] theorem State.raise_meters : (s.raise e).meters = s.meters := by
  rw [State.raise_side]; rfl
@[simp] theorem State.raise_chassisNumber : (s.raise e).chassisNumber = s.chassisNumber := by
  rw [State.raise_side]; rfl
@[simp] theorem State.raise_identities : (s.raise e).identities = s.identities := by
  rw [State.raise_side]; rfl
@[simp] theorem State.raise_requests : (s.raise e).requests = s.requests := by
  rw [State.raise_side]; rfl
@[simp] theorem State.raise_writeJob : (s.raise e).writeJob = s.writeJob := by
  rw [State.raise_side]; rfl
@[simp] theorem State.raise_warmHeld : (s.raise e).warmHeld = s.warmHeld := by
  rw [State.raise_side]; rfl
@[simp] theorem State.raise_noticeCfg : (s.raise e).noticeCfg = s.noticeCfg := by
  rw [State.raise_side]; rfl
@[simp] theorem State.raise_pending : (s.raise e).pending = s.pending := by
  rw [State.raise_side]; rfl
@[simp] theorem State.raise_slot (j : SlotId) : (s.raise e).slot j = s.slot j := by
  simp [State.slot]
@[simp] theorem State.raise_policy (j : SlotId) : (s.raise e).policy j = s.policy j := by
  simp [State.policy]
@[simp] theorem State.raise_rail (j : SlotId) : (s.raise e).rail j = s.rail j := by
  simp [State.rail]
@[simp] theorem State.raise_context (j : SlotId) : (s.raise e).context j = s.context j := by
  simp [State.context]
@[simp] theorem State.raise_inv (j : SlotId) : (s.raise e).inv j = s.inv j := by
  simp [State.inv]
@[simp] theorem State.raise_psu (j : PsuId) : (s.raise e).psu j = s.psu j := by
  simp [State.psu]
@[simp] theorem State.raise_grantOf (j : SlotId) : (s.raise e).grantOf j = s.grantOf j := by
  simp [State.grantOf]
@[simp] theorem State.raise_thermalOf (j : SlotId) : (s.raise e).thermalOf j = s.thermalOf j := by
  simp [State.thermalOf]
@[simp] theorem State.raise_zone (j : ZoneId) : (s.raise e).zone j = s.zone j := by
  simp [State.zone]
@[simp] theorem State.raise_fan (j : FanId) : (s.raise e).fan j = s.fan j := by
  simp [State.fan]
@[simp] theorem State.raise_link (j : PortId) : (s.raise e).link j = s.link j := by
  simp [State.link]
@[simp] theorem State.raise_gateDrop (j : SlotId) : (s.raise e).gateDrop j = s.gateDrop j := by
  simp [State.gateDrop]
@[simp] theorem State.raise_classEntry (j : (Fin 64)) : (s.raise e).classEntry j = s.classEntry j := by
  simp [State.classEntry]
@[simp] theorem State.raise_uplink (j : UplinkId) : (s.raise e).uplink j = s.uplink j := by
  simp [State.uplink]
@[simp] theorem State.raise_group (j : GroupId) : (s.raise e).group j = s.group j := by
  simp [State.group]
@[simp] theorem State.raise_map (j : SlotId) : (s.raise e).map j = s.map j := by
  simp [State.map]
@[simp] theorem State.raise_station (j : (Fin 64)) : (s.raise e).station j = s.station j := by
  simp [State.station]
@[simp] theorem State.raise_meter (j : SlotId) : (s.raise e).meter j = s.meter j := by
  simp [State.meter]
@[simp] theorem State.raise_identity (j : IdentityId) : (s.raise e).identity j = s.identity j := by
  simp [State.identity]

end raise

section raiseAll

variable (s : State) (es : List Event)

@[simp] theorem State.raiseAll_clock : (s.raiseAll es).clock = s.clock := by
  rw [State.raiseAll_side]; rfl
@[simp] theorem State.raiseAll_slots : (s.raiseAll es).slots = s.slots := by
  rw [State.raiseAll_side]; rfl
@[simp] theorem State.raiseAll_policies : (s.raiseAll es).policies = s.policies := by
  rw [State.raiseAll_side]; rfl
@[simp] theorem State.raiseAll_chassis : (s.raiseAll es).chassis = s.chassis := by
  rw [State.raiseAll_side]; rfl
@[simp] theorem State.raiseAll_interlock : (s.raiseAll es).interlock = s.interlock := by
  rw [State.raiseAll_side]; rfl
@[simp] theorem State.raiseAll_rails : (s.raiseAll es).rails = s.rails := by
  rw [State.raiseAll_side]; rfl
@[simp] theorem State.raiseAll_contexts : (s.raiseAll es).contexts = s.contexts := by
  rw [State.raiseAll_side]; rfl
@[simp] theorem State.raiseAll_inventory : (s.raiseAll es).inventory = s.inventory := by
  rw [State.raiseAll_side]; rfl
@[simp] theorem State.raiseAll_psus : (s.raiseAll es).psus = s.psus := by
  rw [State.raiseAll_side]; rfl
@[simp] theorem State.raiseAll_grants : (s.raiseAll es).grants = s.grants := by
  rw [State.raiseAll_side]; rfl
@[simp] theorem State.raiseAll_powerQueue : (s.raiseAll es).powerQueue = s.powerQueue := by
  rw [State.raiseAll_side]; rfl
@[simp] theorem State.raiseAll_queueCounter : (s.raiseAll es).queueCounter = s.queueCounter := by
  rw [State.raiseAll_side]; rfl
@[simp] theorem State.raiseAll_admissionCounter : (s.raiseAll es).admissionCounter = s.admissionCounter := by
  rw [State.raiseAll_side]; rfl
@[simp] theorem State.raiseAll_thermal : (s.raiseAll es).thermal = s.thermal := by
  rw [State.raiseAll_side]; rfl
@[simp] theorem State.raiseAll_zones : (s.raiseAll es).zones = s.zones := by
  rw [State.raiseAll_side]; rfl
@[simp] theorem State.raiseAll_fans : (s.raiseAll es).fans = s.fans := by
  rw [State.raiseAll_side]; rfl
@[simp] theorem State.raiseAll_links : (s.raiseAll es).links = s.links := by
  rw [State.raiseAll_side]; rfl
@[simp] theorem State.raiseAll_portRole : (s.raiseAll es).portRole = s.portRole := by
  rw [State.raiseAll_side]; rfl
@[simp] theorem State.raiseAll_gateDrops : (s.raiseAll es).gateDrops = s.gateDrops := by
  rw [State.raiseAll_side]; rfl
@[simp] theorem State.raiseAll_classify : (s.raiseAll es).classify = s.classify := by
  rw [State.raiseAll_side]; rfl
@[simp] theorem State.raiseAll_uplinks : (s.raiseAll es).uplinks = s.uplinks := by
  rw [State.raiseAll_side]; rfl
@[simp] theorem State.raiseAll_groups : (s.raiseAll es).groups = s.groups := by
  rw [State.raiseAll_side]; rfl
@[simp] theorem State.raiseAll_uplinkMap : (s.raiseAll es).uplinkMap = s.uplinkMap := by
  rw [State.raiseAll_side]; rfl
@[simp] theorem State.raiseAll_stations : (s.raiseAll es).stations = s.stations := by
  rw [State.raiseAll_side]; rfl
@[simp] theorem State.raiseAll_meters : (s.raiseAll es).meters = s.meters := by
  rw [State.raiseAll_side]; rfl
@[simp] theorem State.raiseAll_chassisNumber : (s.raiseAll es).chassisNumber = s.chassisNumber := by
  rw [State.raiseAll_side]; rfl
@[simp] theorem State.raiseAll_identities : (s.raiseAll es).identities = s.identities := by
  rw [State.raiseAll_side]; rfl
@[simp] theorem State.raiseAll_requests : (s.raiseAll es).requests = s.requests := by
  rw [State.raiseAll_side]; rfl
@[simp] theorem State.raiseAll_writeJob : (s.raiseAll es).writeJob = s.writeJob := by
  rw [State.raiseAll_side]; rfl
@[simp] theorem State.raiseAll_warmHeld : (s.raiseAll es).warmHeld = s.warmHeld := by
  rw [State.raiseAll_side]; rfl
@[simp] theorem State.raiseAll_noticeCfg : (s.raiseAll es).noticeCfg = s.noticeCfg := by
  rw [State.raiseAll_side]; rfl
@[simp] theorem State.raiseAll_pending : (s.raiseAll es).pending = s.pending := by
  rw [State.raiseAll_side]; rfl
@[simp] theorem State.raiseAll_slot (j : SlotId) : (s.raiseAll es).slot j = s.slot j := by
  simp [State.slot]
@[simp] theorem State.raiseAll_policy (j : SlotId) : (s.raiseAll es).policy j = s.policy j := by
  simp [State.policy]
@[simp] theorem State.raiseAll_rail (j : SlotId) : (s.raiseAll es).rail j = s.rail j := by
  simp [State.rail]
@[simp] theorem State.raiseAll_context (j : SlotId) : (s.raiseAll es).context j = s.context j := by
  simp [State.context]
@[simp] theorem State.raiseAll_inv (j : SlotId) : (s.raiseAll es).inv j = s.inv j := by
  simp [State.inv]
@[simp] theorem State.raiseAll_psu (j : PsuId) : (s.raiseAll es).psu j = s.psu j := by
  simp [State.psu]
@[simp] theorem State.raiseAll_grantOf (j : SlotId) : (s.raiseAll es).grantOf j = s.grantOf j := by
  simp [State.grantOf]
@[simp] theorem State.raiseAll_thermalOf (j : SlotId) : (s.raiseAll es).thermalOf j = s.thermalOf j := by
  simp [State.thermalOf]
@[simp] theorem State.raiseAll_zone (j : ZoneId) : (s.raiseAll es).zone j = s.zone j := by
  simp [State.zone]
@[simp] theorem State.raiseAll_fan (j : FanId) : (s.raiseAll es).fan j = s.fan j := by
  simp [State.fan]
@[simp] theorem State.raiseAll_link (j : PortId) : (s.raiseAll es).link j = s.link j := by
  simp [State.link]
@[simp] theorem State.raiseAll_gateDrop (j : SlotId) : (s.raiseAll es).gateDrop j = s.gateDrop j := by
  simp [State.gateDrop]
@[simp] theorem State.raiseAll_classEntry (j : (Fin 64)) : (s.raiseAll es).classEntry j = s.classEntry j := by
  simp [State.classEntry]
@[simp] theorem State.raiseAll_uplink (j : UplinkId) : (s.raiseAll es).uplink j = s.uplink j := by
  simp [State.uplink]
@[simp] theorem State.raiseAll_group (j : GroupId) : (s.raiseAll es).group j = s.group j := by
  simp [State.group]
@[simp] theorem State.raiseAll_map (j : SlotId) : (s.raiseAll es).map j = s.map j := by
  simp [State.map]
@[simp] theorem State.raiseAll_station (j : (Fin 64)) : (s.raiseAll es).station j = s.station j := by
  simp [State.station]
@[simp] theorem State.raiseAll_meter (j : SlotId) : (s.raiseAll es).meter j = s.meter j := by
  simp [State.meter]
@[simp] theorem State.raiseAll_identity (j : IdentityId) : (s.raiseAll es).identity j = s.identity j := by
  simp [State.identity]

end raiseAll

end Sys2Proof.Machine
end

