-- ==== Sys2Proof/Laws/Settings.lean ====
section
/-!
SUPPORT. What the slot side leaves alone: the operations of the Slot Controller, the Rail Unit, the Announcement Receiver,
the Power Budget Unit, the Thermal Record Unit, the Station Table and the groups change no setting, no level of a supply,
fan or link, no classification entry, no meter setting and no queue of requests or commands. One lemma per operation.
-/

namespace Sys2Proof.Machine

/-- The part of the state that no operation of the slot side changes. -/
structure Settings where
  clock : Nat
  policies : Vector SlotPolicy 16
  chassis : Chassis
  interlock : Bool
  psus : Vector Psu 6
  zones : Vector Zone 3
  fans : Vector Fan 6
  links : Vector Bool 20
  gateDrops : Vector Nat 16
  classify : Vector ClassEntry 64
  uplinkMap : Vector UplinkMap 16
  chassisNumber : Byte
  identities : Vector Identity 4
  requests : List Request
  writeJob : Option WriteJob
  warmHeld : Bool
  noticeCfg : NoticeCfg
  pending : List Instr

/-- The settings of a state. -/
def State.settings (s : State) : Settings where
  clock := s.clock
  policies := s.policies
  chassis := s.chassis
  interlock := s.interlock
  psus := s.psus
  zones := s.zones
  fans := s.fans
  links := s.links
  gateDrops := s.gateDrops
  classify := s.classify
  uplinkMap := s.uplinkMap
  chassisNumber := s.chassisNumber
  identities := s.identities
  requests := s.requests
  writeJob := s.writeJob
  warmHeld := s.warmHeld
  noticeCfg := s.noticeCfg
  pending := s.pending

/-- Equal settings are equal field by field. -/
theorem State.settings_eq {s t : State} (h : t.settings = s.settings) :
    t.clock = s.clock ∧ t.policies = s.policies ∧ t.chassis = s.chassis ∧ t.interlock = s.interlock ∧ t.psus = s.psus ∧ t.zones = s.zones ∧ t.fans = s.fans ∧ t.links = s.links ∧ t.gateDrops = s.gateDrops ∧ t.classify = s.classify ∧ t.uplinkMap = s.uplinkMap ∧ t.chassisNumber = s.chassisNumber ∧ t.identities = s.identities ∧ t.requests = s.requests ∧ t.writeJob = s.writeJob ∧ t.warmHeld = s.warmHeld ∧ t.noticeCfg = s.noticeCfg ∧ t.pending = s.pending := by
  simpa [State.settings] using h

theorem State.clock_of_settings {s t : State} (h : t.settings = s.settings) : t.clock = s.clock :=
  congrArg Settings.clock h

theorem State.policies_of_settings {s t : State} (h : t.settings = s.settings) : t.policies = s.policies :=
  congrArg Settings.policies h

theorem State.chassis_of_settings {s t : State} (h : t.settings = s.settings) : t.chassis = s.chassis :=
  congrArg Settings.chassis h

theorem State.interlock_of_settings {s t : State} (h : t.settings = s.settings) : t.interlock = s.interlock :=
  congrArg Settings.interlock h

theorem State.psus_of_settings {s t : State} (h : t.settings = s.settings) : t.psus = s.psus :=
  congrArg Settings.psus h

theorem State.zones_of_settings {s t : State} (h : t.settings = s.settings) : t.zones = s.zones :=
  congrArg Settings.zones h

theorem State.fans_of_settings {s t : State} (h : t.settings = s.settings) : t.fans = s.fans :=
  congrArg Settings.fans h

theorem State.links_of_settings {s t : State} (h : t.settings = s.settings) : t.links = s.links :=
  congrArg Settings.links h

theorem State.gateDrops_of_settings {s t : State} (h : t.settings = s.settings) : t.gateDrops = s.gateDrops :=
  congrArg Settings.gateDrops h

theorem State.classify_of_settings {s t : State} (h : t.settings = s.settings) : t.classify = s.classify :=
  congrArg Settings.classify h

theorem State.uplinkMap_of_settings {s t : State} (h : t.settings = s.settings) : t.uplinkMap = s.uplinkMap :=
  congrArg Settings.uplinkMap h

theorem State.chassisNumber_of_settings {s t : State} (h : t.settings = s.settings) : t.chassisNumber = s.chassisNumber :=
  congrArg Settings.chassisNumber h

theorem State.identities_of_settings {s t : State} (h : t.settings = s.settings) : t.identities = s.identities :=
  congrArg Settings.identities h

theorem State.requests_of_settings {s t : State} (h : t.settings = s.settings) : t.requests = s.requests :=
  congrArg Settings.requests h

theorem State.writeJob_of_settings {s t : State} (h : t.settings = s.settings) : t.writeJob = s.writeJob :=
  congrArg Settings.writeJob h

theorem State.warmHeld_of_settings {s t : State} (h : t.settings = s.settings) : t.warmHeld = s.warmHeld :=
  congrArg Settings.warmHeld h

theorem State.noticeCfg_of_settings {s t : State} (h : t.settings = s.settings) : t.noticeCfg = s.noticeCfg :=
  congrArg Settings.noticeCfg h

theorem State.pending_of_settings {s t : State} (h : t.settings = s.settings) : t.pending = s.pending :=
  congrArg Settings.pending h

@[simp] theorem State.updSlot_settings (s : State) (i : SlotId) (f : Slot → Slot) :
    (s.updSlot i f).settings = s.settings := rfl

@[simp] theorem State.updRail_settings (s : State) (i : SlotId) (f : Rail → Rail) :
    (s.updRail i f).settings = s.settings := rfl

@[simp] theorem State.updContext_settings (s : State) (i : SlotId) (f : Context → Context) :
    (s.updContext i f).settings = s.settings := rfl

@[simp] theorem State.updInv_settings (s : State) (i : SlotId) (f : Inventory → Inventory) :
    (s.updInv i f).settings = s.settings := rfl

@[simp] theorem State.updGrant_settings (s : State) (i : SlotId) (f : Grant → Grant) :
    (s.updGrant i f).settings = s.settings := rfl

@[simp] theorem State.updThermal_settings (s : State) (i : SlotId) (f : ThermalRecord → ThermalRecord) :
    (s.updThermal i f).settings = s.settings := rfl

@[simp] theorem State.updUplink_settings (s : State) (i : UplinkId) (f : Uplink → Uplink) :
    (s.updUplink i f).settings = s.settings := rfl

@[simp] theorem State.updGroup_settings (s : State) (i : GroupId) (f : Group → Group) :
    (s.updGroup i f).settings = s.settings := rfl

@[simp] theorem State.updStation_settings (s : State) (i : (Fin 64)) (f : (Option Station) → (Option Station)) :
    (s.updStation i f).settings = s.settings := rfl

@[simp] theorem State.updMeter_settings (s : State) (i : SlotId) (f : Meter → Meter) :
    (s.updMeter i f).settings = s.settings := rfl

@[simp] theorem State.transmit_settings (s : State) (p : PortId) (k : SentKind) (l : List Byte) : (s.transmit p k l).settings = s.settings := by
  simp [State.settings]

@[simp] theorem State.sendNotice_settings (s : State) (n : Notice) (rest : List Notice) : (s.sendNotice n rest).settings = s.settings := by
  simp [State.settings]

@[simp] theorem State.attemptSend_settings (s : State) : s.attemptSend.settings = s.settings := by
  simp [State.settings]

@[simp] theorem State.raise_settings (s : State) (e : Event) : (s.raise e).settings = s.settings := by
  simp [State.settings]

@[simp] theorem State.raiseAll_settings (s : State) (es : List Event) : (s.raiseAll es).settings = s.settings := by
  simp [State.settings]

@[simp] theorem State.setSlotState_settings (s : State) (i : SlotId) (st : SlotState) :
    (s.setSlotState i st).settings = s.settings := by
  rfl

@[simp] theorem State.enter_settings (s : State) (i : SlotId) (st : SlotState) :
    (s.enter i st).settings = s.settings := by
  simp [State.enter]

@[simp] theorem State.openWindow_settings (s : State) (i : SlotId) :
    (s.openWindow i).settings = s.settings := by
  rfl

@[simp] theorem State.takeReport_settings (s : State) (i : SlotId) (r : RailReport) :
    (s.takeReport i r).settings = s.settings := by
  unfold State.takeReport
  (repeat' split) <;> simp

/-- A fold of operations that each keep the settings keeps them. -/
theorem foldl_settings {α : Type} (f : State → α → State) (h : ∀ s a, (f s a).settings = s.settings) (l : List α) :
    ∀ s, (l.foldl f s).settings = s.settings := by
  induction l with
  | nil => intro s; rfl
  | cons a l ih => intro s; exact (ih (f s a)).trans (h s a)

@[simp] theorem State.takeReports_settings (s : State) (i : SlotId) (l : List RailReport) :
    (s.takeReports i l).settings = s.settings := by
  exact foldl_settings _ (fun s r => State.takeReport_settings s i r) l s

@[simp] theorem State.setRail_settings (s : State) (i : SlotId) (r : Rail) :
    (s.setRail i r).settings = s.settings := by
  rfl

@[simp] theorem State.refreshRate_settings (s : State) (i : SlotId) :
    (s.refreshRate i).settings = s.settings := by
  rfl

@[simp] theorem State.remark_settings (s : State) (i : SlotId) :
    (s.remark i).settings = s.settings := by
  unfold State.remark
  (repeat' split) <;> simp

@[simp] theorem State.renumberQueue_settings (s : State) :
    (s.renumberQueue).settings = s.settings := by
  unfold State.renumberQueue
  split <;> rfl

@[simp] theorem State.enqueue_settings (s : State) (i : SlotId) (k : EntryKind) :
    (s.enqueue i k).settings = s.settings := by
  unfold State.enqueue
  split
  · rfl
  · exact State.renumberQueue_settings s

@[simp] theorem State.dequeue_settings (s : State) (i : SlotId) (k : EntryKind) :
    (s.dequeue i k).settings = s.settings := by
  rfl

@[simp] theorem State.renumberAdmissions_settings (s : State) :
    (s.renumberAdmissions).settings = s.settings := by
  unfold State.renumberAdmissions
  split <;> rfl

@[simp] theorem State.numberAdmission_settings (s : State) (i : SlotId) :
    (s.numberAdmission i).settings = s.settings := by
  exact State.renumberAdmissions_settings s

@[simp] theorem State.startRamp_settings (s : State) (i : SlotId) :
    (s.startRamp i).settings = s.settings := by
  simp [State.startRamp]

@[simp] theorem State.admit_settings (s : State) (i : SlotId) :
    (s.admitBoot i).settings = s.settings := by
  simp [State.admitBoot]

@[simp] theorem State.upgrade_settings (s : State) (i : SlotId) :
    (s.upgrade i).settings = s.settings := by
  simp [State.upgrade]

@[simp] theorem State.partialStep_settings (s : State) (i : SlotId) :
    (s.partialStep i).settings = s.settings := by
  unfold State.partialStep
  (repeat' split) <;> simp

@[simp] theorem State.serve_settings (s : State) (e : PowerEntry) :
    (s.serve e).settings = s.settings := by
  unfold State.serve
  (repeat' split) <;> simp

@[simp] theorem State.stopAt_settings (s : State) (e : PowerEntry) :
    (s.stopAt e).settings = s.settings := by
  unfold State.stopAt
  (repeat' split) <;> simp

theorem arbiterLoop_settings (n : Nat) : ∀ s : State, (arbiterLoop n s).settings = s.settings := by
  induction n with
  | zero => intro s; rfl
  | succ n ih =>
    intro s
    unfold arbiterLoop
    split
    · rfl
    · split
      · rw [ih]; simp
      · simp

@[simp] theorem State.arbiter_settings (s : State) :
    (s.arbiter).settings = s.settings := by
  unfold State.arbiter
  split
  · rfl
  · exact arbiterLoop_settings _ s

@[simp] theorem State.withdraw_settings (s : State) (i : SlotId) (k : EntryKind) :
    (s.withdraw i k).settings = s.settings := by
  unfold State.withdraw
  (repeat' split) <;> simp

@[simp] theorem State.powerRequest_settings (s : State) (i : SlotId) :
    (s.powerRequest i).settings = s.settings := by
  unfold State.powerRequest
  simp only
  split <;> simp

@[simp] theorem State.liftThermalCap_settings (s : State) (i : SlotId) :
    (s.liftThermalCap i).settings = s.settings := by
  unfold State.liftThermalCap
  (repeat' split) <;> simp

@[simp] theorem State.acceptTarget_settings (s : State) (i : SlotId) (p : Nat) :
    (s.acceptTarget i p).settings = s.settings := by
  unfold State.acceptTarget
  simp only
  (repeat' split) <;> simp

@[simp] theorem State.lowerTarget_settings (s : State) (i : SlotId) (p : Nat) :
    (s.lowerTarget i p).settings = s.settings := by
  unfold State.lowerTarget
  simp only
  (repeat' split) <;> simp

@[simp] theorem State.raiseTarget_settings (s : State) (i : SlotId) (p : Nat) :
    (s.raiseTarget i p).settings = s.settings := by
  unfold State.raiseTarget
  simp only
  (repeat' split) <;> simp

@[simp] theorem State.refreshTarget_settings (s : State) (i : SlotId) (p : Nat) :
    (s.refreshTarget i p).settings = s.settings := by
  unfold State.refreshTarget
  (repeat' split) <;> simp

@[simp] theorem State.setThermalCap_settings (s : State) (i : SlotId) :
    (s.setThermalCap i).settings = s.settings := by
  unfold State.setThermalCap
  simp only
  (repeat' split) <;> simp

@[simp] theorem State.markReleasing_settings (s : State) (i : SlotId) :
    (s.markReleasing i).settings = s.settings := by
  simp [State.markReleasing]

@[simp] theorem State.clearThermalCap_settings (s : State) (i : SlotId) :
    (s.clearThermalCap i).settings = s.settings := by
  unfold State.clearThermalCap
  simp only
  (repeat' split) <;> simp

@[simp] theorem State.releaseGrant_settings (s : State) (i : SlotId) :
    (s.releaseGrant i).settings = s.settings := by
  simp [State.releaseGrant]

@[simp] theorem State.movePriority_settings (s : State) (i : SlotId) :
    (s.movePriority i).settings = s.settings := rfl

@[simp] theorem State.recomputeGroup_settings (s : State) (g : GroupId) (l : List UplinkId) :
    (s.recomputeGroup g l).settings = s.settings := by
  unfold State.recomputeGroup
  simp only
  (repeat' split) <;> simp

@[simp] theorem State.recomputeMembers_settings (s : State) (u : UplinkId) :
    (s.recomputeMembers u).settings = s.settings := by
  refine foldl_settings _ (fun s g => ?_) _ s
  split <;> simp

@[simp] theorem State.setUsable_settings (s : State) (u : UplinkId) (b : Bool) :
    (s.setUsable u b).settings = s.settings := by
  unfold State.setUsable
  (repeat' split) <;> simp

@[simp] theorem State.startHoldDown_settings (s : State) (u : UplinkId) :
    (s.startHoldDown u).settings = s.settings := by
  unfold State.startHoldDown
  (repeat' split) <;> simp

@[simp] theorem State.dropUplink_settings (s : State) (u : UplinkId) :
    (s.dropUplink u).settings = s.settings := by
  simp [State.dropUplink]

@[simp] theorem State.takeStackRole_settings (s : State) :
    (s.takeStackRole).settings = s.settings := by
  unfold State.takeStackRole
  simp only
  split
  · rw [State.startHoldDown_settings]; rfl
  · rfl

@[simp] theorem State.takeSlotRole_settings (s : State) :
    (s.takeSlotRole).settings = s.settings := by
  unfold State.takeSlotRole
  rw [State.dropUplink_settings]
  rfl

@[simp] theorem State.uplinkUp_settings (s : State) (u : UplinkId) :
    (s.uplinkUp u).settings = s.settings := by
  unfold State.uplinkUp
  (repeat' split) <;> simp

@[simp] theorem State.install_settings (s : State) (a : Addr) (i : SlotId) :
    (s.install a i).settings = s.settings := by
  unfold State.install
  (repeat' split) <;> simp

@[simp] theorem State.setAddrStatus_settings (s : State) (i : SlotId) (p : Nat) (st : AddrStatus) :
    (s.setAddrStatus i p st).settings = s.settings := by
  rfl

@[simp] theorem State.offer_settings (s : State) (i : SlotId) (p : Nat) (a : Addr) :
    (s.offer i p a).settings = s.settings := by
  unfold State.offer
  simp only
  (repeat' split) <;> simp

@[simp] theorem State.reoffer_settings (s : State) (a : Addr) :
    (s.reoffer a).settings = s.settings := by
  unfold State.reoffer
  (repeat' split) <;> simp

@[simp] theorem State.removeStation_settings (s : State) (k : Fin 64) (e : Station) :
    (s.removeStation k e).settings = s.settings := by
  simp [State.removeStation]

@[simp] theorem State.removeStations_settings (s : State) (i : SlotId) (keep : List Addr) :
    (s.removeStations i keep).settings = s.settings := by
  refine foldl_settings _ (fun s k => ?_) _ s
  (repeat' split) <;> simp

theorem offerAll_settings (i : SlotId) (l : List Addr) :
    ∀ (earlier : List Addr) (s : State), (offerAll i earlier l s).settings = s.settings := by
  induction l with
  | nil => intro _ s; rfl
  | cons a l ih =>
    intro earlier s
    unfold offerAll
    simp only
    rw [ih]
    (repeat' split) <;> simp

@[simp] theorem State.updateStations_settings (s : State) (i : SlotId) (l : List Addr) :
    (s.updateStations i l).settings = s.settings := by
  unfold State.updateStations
  rw [offerAll_settings]
  simp

@[simp] theorem State.setTest_settings (s : State) (i : SlotId) (xs : List Sensor) :
    (s.setTest i xs).settings = s.settings := by
  unfold State.setTest
  (repeat' split) <;> simp

@[simp] theorem State.clearTest_settings (s : State) (i : SlotId) :
    (s.clearTest i).settings = s.settings := by
  unfold State.clearTest
  (repeat' split) <;> simp

@[simp] theorem State.takeReading_settings (s : State) (i : SlotId) (id : SensorId) (t : Int) :
    (s.takeReading i id t).settings = s.settings := by
  unfold State.takeReading
  (repeat' split) <;> simp

theorem takeReadings_settings (i : SlotId) (l : List Byte) (n : Nat) :
    ∀ (off : Nat) (s : State), (takeReadings i l n off s).settings = s.settings := by
  induction n with
  | zero => intro _ s; rfl
  | succ n ih =>
    intro off s
    unfold takeReadings
    simp only
    rw [ih]
    split <;> simp

@[simp] theorem State.takeTelemetry_settings (s : State) (i : SlotId) (l : List Byte) :
    (s.takeTelemetry i l).settings = s.settings := by
  unfold State.takeTelemetry
  split
  · exact takeReadings_settings _ _ _ _ s
  · rfl

@[simp] theorem State.rebuildThermal_settings (s : State) (i : SlotId) (l : List SensorLimits) :
    (s.rebuildThermal i l).settings = s.settings := by
  unfold State.rebuildThermal
  simp only
  (repeat' split) <;> simp

@[simp] theorem State.thermalExit_settings (s : State) (i : SlotId) :
    (s.thermalExit i).settings = s.settings := by
  rfl

@[simp] theorem State.enterHeld_settings (s : State) (i : SlotId) (st : SlotState) :
    (s.enterHeld i st).settings = s.settings := by
  simp [State.enterHeld]

@[simp] theorem State.powerUpPath_settings (s : State) (i : SlotId) :
    (s.powerUpPath i).settings = s.settings := by
  unfold State.powerUpPath
  (repeat' split) <;> simp

@[simp] theorem State.enterOnline_settings (s : State) (i : SlotId) :
    (s.enterOnline i).settings = s.settings := by
  unfold State.enterOnline
  simp

@[simp] theorem State.exitOnline_settings (s : State) (i : SlotId) :
    (s.exitOnline i).settings = s.settings := by
  unfold State.exitOnline
  (repeat' split) <;> simp

@[simp] theorem State.closeContext_settings (s : State) (i : SlotId) :
    (s.closeContext i).settings = s.settings := by
  rfl

@[simp] theorem State.drainGrant_settings (s : State) (i : SlotId) (c : DrainCause) :
    (s.drainGrant i c).settings = s.settings := by
  unfold State.drainGrant
  (repeat' split) <;> simp

@[simp] theorem State.startDrain_settings (s : State) (i : SlotId) (c : DrainCause) (n : DrainNext) (f : FaultCause) :
    (s.startDrain i c n f).settings = s.settings := by
  unfold State.startDrain
  simp only
  (repeat' split) <;> simp

@[simp] theorem State.budgetShed_settings (s : State) (i : SlotId) :
    (s.budgetShed i).settings = s.settings := by
  simp [State.budgetShed]

@[simp] theorem State.thermalShed_settings (s : State) (i : SlotId) :
    (s.thermalShed i).settings = s.settings := by
  unfold State.thermalShed
  (repeat' split) <;> simp

@[simp] theorem State.capSlot_settings (s : State) (i : SlotId) :
    (s.capSlot i).settings = s.settings := by
  unfold State.capSlot
  simp only
  (repeat' split) <;> simp

theorem cappingPass_settings (l : List SlotId) :
    ∀ (b : Bool) (s : State), (cappingPass l b s).1.settings = s.settings := by
  induction l with
  | nil => intro _ s; rfl
  | cons i l ih =>
    intro b s
    unfold cappingPass
    (repeat' split) <;> simp [ih]

@[simp] theorem State.shedSlot_settings (s : State) (i : SlotId) :
    (s.shedSlot i).settings = s.settings := by
  unfold State.shedSlot
  simp only [State.budgetShed_settings]
  rfl

theorem sheddingPass_settings (l : List SlotId) :
    ∀ (b : Bool) (s : State), (sheddingPass l b s).1.settings = s.settings := by
  induction l with
  | nil => intro _ s; rfl
  | cons i l ih =>
    intro b s
    unfold sheddingPass
    (repeat' split) <;> simp [ih]

@[simp] theorem State.runCapping_settings (s : State) : s.runCapping.1.settings = s.settings := by
  unfold State.runCapping
  simp only
  split <;> simp [cappingPass_settings]

@[simp] theorem State.runShedding_settings (s : State) : s.runShedding.1.settings = s.settings := by
  unfold State.runShedding
  simp only
  (repeat' split) <;> simp [sheddingPass_settings]

@[simp] theorem State.restoreBalance_settings (s : State) : s.restoreBalance.1.settings = s.settings := by
  unfold State.restoreBalance
  simp only
  split <;> simp

@[simp] theorem State.recapacity_settings (s : State) (old : Nat) :
    (s.recapacity old).settings = s.settings := by
  unfold State.recapacity
  simp only
  (repeat' split) <;> simp

@[simp] theorem State.clearBlade_settings (s : State) (i : SlotId) :
    (s.clearBlade i).settings = s.settings := by
  simp [State.clearBlade]

@[simp] theorem State.stackIfDue_settings (s : State) (i : SlotId) :
    (s.stackIfDue i).settings = s.settings := by
  unfold State.stackIfDue
  (repeat' split) <;> simp

@[simp] theorem State.enterDisabled_settings (s : State) (i : SlotId) :
    (s.enterDisabled i).settings = s.settings := by
  simp [State.enterDisabled]

@[simp] theorem State.enterEmpty_settings (s : State) (i : SlotId) :
    (s.enterEmpty i).settings = s.settings := by
  unfold State.enterEmpty
  simp only
  (repeat' split) <;> simp

@[simp] theorem State.enterFault_settings (s : State) (i : SlotId) :
    (s.enterFault i).settings = s.settings := by
  simp [State.enterFault]

@[simp] theorem State.takeNext_settings (s : State) (i : SlotId) (n : DrainNext) :
    (s.takeNext i n).settings = s.settings := by
  unfold State.takeNext
  (repeat' split) <;> simp

@[simp] theorem State.drainComplete_settings (s : State) (i : SlotId) :
    (s.drainComplete i).settings = s.settings := by
  unfold State.drainComplete
  simp only
  (repeat' split) <;> simp

@[simp] theorem State.removeBlade_settings (s : State) (i : SlotId) :
    (s.removeBlade i).settings = s.settings := by
  unfold State.removeBlade
  simp only
  (repeat' split) <;> simp

@[simp] theorem State.applyDisable_settings (s : State) (i : SlotId) :
    (s.applyDisable i).settings = s.settings := by
  unfold State.applyDisable
  (repeat' split) <;> simp

@[simp] theorem State.applyEnable_settings (s : State) (i : SlotId) :
    (s.applyEnable i).settings = s.settings := by
  unfold State.applyEnable
  (repeat' split) <;> simp

@[simp] theorem State.emergency_settings (s : State) (i : SlotId) :
    (s.emergency i).settings = s.settings := by
  unfold State.emergency
  (repeat' split) <;> simp

@[simp] theorem State.handleReport_settings (s : State) (i : SlotId) (r : RailReport) :
    (s.handleReport i r).settings = s.settings := by
  unfold State.handleReport
  (repeat' split) <;> simp

@[simp] theorem State.climb_settings (s : State) (i : SlotId) (l : List RailReport) :
    (s.climb i l).settings = s.settings := by
  unfold State.climb
  simp only
  (repeat' split) <;> simp

@[simp] theorem State.railStep_settings (s : State) (i : SlotId) (r : Rail × List RailReport) :
    (s.railStep i r).settings = s.settings := by
  unfold State.railStep
  simp only
  (repeat' split) <;> simp

@[simp] theorem State.sendReply_settings (s : State) (i : SlotId) (l : List Byte) :
    (s.sendReply i l).settings = s.settings := by
  simp [State.sendReply]

@[simp] theorem State.failContext_settings (s : State) (i : SlotId) (r : RefuseReason) (c : FaultCause) :
    (s.failContext i r c).settings = s.settings := by
  unfold State.failContext
  simp only
  (repeat' split) <;> simp

@[simp] theorem State.rejectFragment_settings (s : State) (i : SlotId) :
    (s.rejectFragment i).settings = s.settings := by
  unfold State.rejectFragment
  (repeat' split) <;> simp

@[simp] theorem State.rejectRecord_settings (s : State) (i : SlotId) :
    (s.rejectRecord i).settings = s.settings := by
  unfold State.rejectRecord
  (repeat' split) <;> simp

@[simp] theorem State.handOffPower_settings (s : State) (i : SlotId) (m : ContextMode) (r : Option InvRecord) (p : Nat) :
    (s.handOffPower i m r p).settings = s.settings := by
  unfold State.handOffPower
  (repeat' split) <;> simp

@[simp] theorem State.reportAccepted_settings (s : State) (i : SlotId) (m : ContextMode) :
    (s.reportAccepted i m).settings = s.settings := by
  unfold State.reportAccepted
  simp only
  (repeat' split) <;> simp

@[simp] theorem State.acceptRecord_settings (s : State) (i : SlotId) (r : Announced) :
    (s.acceptRecord i r).settings = s.settings := by
  unfold State.acceptRecord
  simp

@[simp] theorem State.checkRecord_settings (s : State) (i : SlotId) :
    (s.checkRecord i).settings = s.settings := by
  unfold State.checkRecord
  simp only
  (repeat' split) <;> simp

@[simp] theorem State.appendFragment_settings (s : State) (i : SlotId) (l c : Nat) (b : List Byte) :
    (s.appendFragment i l c b).settings = s.settings := by
  rfl

@[simp] theorem State.expectedFragment_settings (s : State) (i : SlotId) (l : List Byte) :
    (s.expectedFragment i l).settings = s.settings := by
  unfold State.expectedFragment
  simp only
  (repeat' split) <;> simp

@[simp] theorem State.takeFragment_settings (s : State) (i : SlotId) (l : List Byte) :
    (s.takeFragment i l).settings = s.settings := by
  unfold State.takeFragment
  (repeat' split) <;> simp

@[simp] theorem State.noteSender_settings (s : State) (i : SlotId) (f : ServiceFrame) :
    (s.noteSender i f).settings = s.settings := by
  rfl

@[simp] theorem State.takeAnnounce_settings (s : State) (i : SlotId) (f : ServiceFrame) :
    (s.takeAnnounce i f).settings = s.settings := by
  unfold State.takeAnnounce
  (repeat' split) <;> simp

@[simp] theorem State.takeExtend_settings (s : State) (i : SlotId) (f : ServiceFrame) :
    (s.takeExtend i f).settings = s.settings := by
  unfold State.takeExtend
  simp only
  (repeat' split) <;> simp

@[simp] theorem State.startRefresh_settings (s : State) (i : SlotId) :
    (s.startRefresh i).settings = s.settings := by
  simp [State.startRefresh]

@[simp] theorem State.releaseHeld_settings (s : State) (i : SlotId) :
    (s.releaseHeld i).settings = s.settings := by
  unfold State.releaseHeld
  (repeat' split) <;> simp

@[simp] theorem State.resetSlot_settings (s : State) (i : SlotId) :
    (s.resetSlot i).settings = s.settings := by
  unfold State.resetSlot
  simp

@[simp] theorem State.commandRelease_settings (s : State) (i : SlotId) : (s.commandRelease i).1.settings = s.settings := by
  unfold State.commandRelease
  split <;> simp

@[simp] theorem State.commandPowerOn_settings (s : State) (i : SlotId) : (s.commandPowerOn i).1.settings = s.settings := by
  unfold State.commandPowerOn
  split <;> simp

@[simp] theorem State.commandPowerOff_settings (s : State) (i : SlotId) : (s.commandPowerOff i).1.settings = s.settings := by
  unfold State.commandPowerOff
  split <;> simp

@[simp] theorem State.commandReset_settings (s : State) (i : SlotId) : (s.commandReset i).1.settings = s.settings := by
  unfold State.commandReset
  split <;> simp

@[simp] theorem State.commandClearFault_settings (s : State) (i : SlotId) : (s.commandClearFault i).1.settings = s.settings := by
  unfold State.commandClearFault
  split <;> simp

@[simp] theorem State.presenceRise_settings (s : State) (i : SlotId) :
    (s.presenceRise i).settings = s.settings := by
  unfold State.presenceRise
  simp only
  (repeat' split) <;> simp

@[simp] theorem State.presenceFall_settings (s : State) (i : SlotId) :
    (s.presenceFall i).settings = s.settings := by
  unfold State.presenceFall
  simp only
  (repeat' split) <;> simp

@[simp] theorem State.debounced_settings (s : State) (i : SlotId) :
    (s.debounced i).settings = s.settings := by
  unfold State.debounced
  simp only
  (repeat' split) <;> simp

@[simp] theorem State.holdExpired_settings (s : State) (i : SlotId) :
    (s.holdExpired i).settings = s.settings := by
  unfold State.holdExpired
  (repeat' split) <;> simp

@[simp] theorem State.retryExpired_settings (s : State) (i : SlotId) :
    (s.retryExpired i).settings = s.settings := by
  simp [State.retryExpired]

end Sys2Proof.Machine
end

