-- ==== Sys2Proof/Laws/PerInstr.lean ====
section
/-!
SUPPORT. The family KeepsQueue: every command ends in a next state, and the queue of waiting commands is the step's alone.
One lemma per constructor of Instr, over one lemma per shared operation.
-/

namespace Sys2Proof.Machine

/-! ### Shared operations that change a setting -/

@[simp] theorem State.recapacity_pending (s : State) (old : Nat) :
    (s.recapacity old).pending = s.pending := by
  exact State.pending_of_settings (by simp)

@[simp] theorem State.clearTest_pending (s : State) (i : SlotId) :
    (s.clearTest i).pending = s.pending := by
  exact State.pending_of_settings (by simp)

@[simp] theorem State.arbiter_pending (s : State) :
    s.arbiter.pending = s.pending := by
  exact State.pending_of_settings (by simp)

@[simp] theorem State.movePriority_pending (s : State) (i : SlotId) :
    (s.movePriority i).pending = s.pending := by
  exact State.pending_of_settings (by simp)

@[simp] theorem State.applyEnable_pending (s : State) (i : SlotId) :
    (s.applyEnable i).pending = s.pending := by
  exact State.pending_of_settings (by simp)

@[simp] theorem State.applyDisable_pending (s : State) (i : SlotId) :
    (s.applyDisable i).pending = s.pending := by
  exact State.pending_of_settings (by simp)

@[simp] theorem State.stackIfDue_pending (s : State) (i : SlotId) :
    (s.stackIfDue i).pending = s.pending := by
  exact State.pending_of_settings (by simp)

@[simp] theorem State.takeSlotRole_pending (s : State) :
    s.takeSlotRole.pending = s.pending := by
  exact State.pending_of_settings (by simp)

@[simp] theorem State.refreshRate_pending (s : State) (i : SlotId) :
    (s.refreshRate i).pending = s.pending := by
  exact State.pending_of_settings (by simp)

@[simp] theorem State.recomputeGroup_pending (s : State) (g : GroupId) (l : List UplinkId) :
    (s.recomputeGroup g l).pending = s.pending := by
  exact State.pending_of_settings (by simp)

@[simp] theorem State.takeTelemetry_pending (s : State) (i : SlotId) (l : List Byte) :
    (s.takeTelemetry i l).pending = s.pending := by
  exact State.pending_of_settings (by simp)

@[simp] theorem State.takeAnnounce_pending (s : State) (i : SlotId) (f : ServiceFrame) :
    (s.takeAnnounce i f).pending = s.pending := by
  exact State.pending_of_settings (by simp)

@[simp] theorem State.takeExtend_pending (s : State) (i : SlotId) (f : ServiceFrame) :
    (s.takeExtend i f).pending = s.pending := by
  exact State.pending_of_settings (by simp)

@[simp] theorem State.emergency_pending (s : State) (i : SlotId) :
    (s.emergency i).pending = s.pending := by
  exact State.pending_of_settings (by simp)

@[simp] theorem State.uplinkUp_pending (s : State) (u : UplinkId) :
    (s.uplinkUp u).pending = s.pending := by
  exact State.pending_of_settings (by simp)

@[simp] theorem State.dropUplink_pending (s : State) (u : UplinkId) :
    (s.dropUplink u).pending = s.pending := by
  exact State.pending_of_settings (by simp)

@[simp] theorem State.setUsable_pending (s : State) (u : UplinkId) (b : Bool) :
    (s.setUsable u b).pending = s.pending := by
  exact State.pending_of_settings (by simp)

@[simp] theorem State.startRefresh_pending (s : State) (i : SlotId) :
    (s.startRefresh i).pending = s.pending := by
  exact State.pending_of_settings (by simp)

@[simp] theorem State.thermalShed_pending (s : State) (i : SlotId) :
    (s.thermalShed i).pending = s.pending := by
  exact State.pending_of_settings (by simp)

/-- A fold of operations that each keep the queue keeps it. -/
theorem foldl_pending {α : Type} (f : State → α → State) (h : ∀ s a, (f s a).pending = s.pending) (l : List α) :
    ∀ s, (l.foldl f s).pending = s.pending := by
  induction l with
  | nil => intro s; rfl
  | cons a l ih => intro s; exact (ih (f s a)).trans (h s a)

@[simp] theorem State.reportFan_pending (s : State) (f : FanId) :
    (s.reportFan f).pending = s.pending := by
  unfold State.reportFan
  simp only
  (repeat' split) <;> simp

@[simp] theorem State.driveFan_pending (s : State) (f : FanId) :
    (s.driveFan f).pending = s.pending := by
  unfold State.driveFan
  split <;> simp

@[simp] theorem State.intervalZone_pending (d : Vector Nat 16) (s : State) (z : ZoneId) :
    (State.intervalZone d s z).pending = s.pending := by
  unfold State.intervalZone
  simp only
  rw [foldl_pending _ (fun s f => State.driveFan_pending s f)]
  simp [State.commandZone, foldl_pending _ (fun s f => State.reportFan_pending s f)]

@[simp] theorem State.setCounted_pending (s : State) (p : PsuId) (b : Bool) :
    (s.setCounted p b).pending = s.pending := by
  simp [State.setCounted]

@[simp] theorem State.startSettle_pending (s : State) (p : PsuId) :
    (s.startSettle p).pending = s.pending := by
  unfold State.startSettle
  split <;> simp

@[simp] theorem State.setCapacity_pending (s : State) (p : PsuId) (w : Nat) :
    (s.setCapacity p w).pending = s.pending := by
  simp [State.setCapacity]

@[simp] theorem State.setRedundancy_pending (s : State) (m : RedundancyMode) (w : Nat) :
    (s.setRedundancy m w).pending = s.pending := by
  simp [State.setRedundancy]

@[simp] theorem State.actOnPower_pending (s : State) (i : SlotId) (p : SlotPolicy) :
    (s.actOnPower i p).pending = s.pending := by
  unfold State.actOnPower
  simp only
  (repeat' split) <;> simp

@[simp] theorem State.actOnAdmin_pending (s : State) (i : SlotId) (p : SlotPolicy) :
    (s.actOnAdmin i p).pending = s.pending := by
  unfold State.actOnAdmin
  (repeat' split) <;> simp

@[simp] theorem State.setPolicy_pending (s : State) (i : SlotId) (p : SlotPolicy) :
    (s.setPolicy i p).pending = s.pending := by
  simp [State.setPolicy]

@[simp] theorem State.setFan_pending (s : State) (f : FanId) (a b c d : Nat) :
    (s.setFan f a b c d).pending = s.pending := by
  simp [State.setFan]

@[simp] theorem State.setStaleLimit_pending (s : State) (n : Nat) :
    (s.setStaleLimit n).pending = s.pending := by
  unfold State.setStaleLimit
  refine foldl_pending _ (fun t i => ?_) _ _
  split <;> simp

@[simp] theorem State.setRoleStack_pending (s : State) :
    s.setRoleStack.pending = s.pending := by
  unfold State.setRoleStack State.stackIfDisabled
  split <;> simp

@[simp] theorem State.setRoleSlot_pending (s : State) :
    s.setRoleSlot.pending = s.pending := by
  unfold State.setRoleSlot
  simp only
  split <;> simp

@[simp] theorem State.setRole_pending (s : State) (r : PortRole) :
    (s.setRole r).pending = s.pending := by
  unfold State.setRole
  (repeat' split) <;> simp

@[simp] theorem State.setChassis_pending (s : State) (c : Chassis) :
    (s.setChassis c).pending = s.pending := by
  simp [State.setChassis]

@[simp] theorem State.setRates_pending (s : State) (i : SlotId) (a b : RateCode) :
    (s.setRates i a b).pending = s.pending := by
  simp [State.setRates]

@[simp] theorem State.setDepth_pending (s : State) (i : SlotId) (n : Nat) :
    (s.setDepth i n).pending = s.pending := by
  simp [State.setDepth]

@[simp] theorem State.setMap_pending (s : State) (i : SlotId) (m : UplinkMap) :
    (s.setMap i m).pending = s.pending := by
  simp [State.setMap]

@[simp] theorem State.setMembers_pending (s : State) (g : GroupId) (l : List UplinkId) :
    (s.setMembers g l).pending = s.pending := by
  simp [State.setMembers]

@[simp] theorem State.setGroup_pending (s : State) (g : GroupId) (m : GroupMode) (l : List UplinkId) :
    (s.setGroup g m l).pending = s.pending := by
  simp [State.setGroup]

@[simp] theorem State.setNoticeCfg_pending (s : State) (c : NoticeCfg) :
    (s.setNoticeCfg c).pending = s.pending := by
  simp [State.setNoticeCfg]

@[simp] theorem State.applyItem_pending (s : State) (k : Nat) (x : Item) :
    (s.applyItem k x).pending = s.pending := by
  unfold State.applyItem
  split <;> simp

@[simp] theorem State.respond_pending (s : State) (r : Request) (st : Status) (l : List Byte) :
    (s.respond r st l).pending = s.pending := by
  simp [State.respond]

theorem beginLoop_pending (n : Nat) : ∀ s : State, (beginLoop n s).pending = s.pending := by
  induction n with
  | zero => intro s; rfl
  | succ n ih =>
    intro s
    unfold beginLoop
    split
    · rfl
    · split
      · rw [ih]; simp
      · rfl

@[simp] theorem State.begin_pending (s : State) :
    s.begin.pending = s.pending := by
  exact beginLoop_pending _ s

@[simp] theorem State.complete_pending (s : State) (r : Request) (st : Status) (l : List Byte) :
    (s.complete r st l).pending = s.pending := by
  simp [State.complete]

@[simp] theorem State.takeRequest_pending (s : State) (p : PortId) (k : IdentityId) (f : ServiceFrame) :
    (s.takeRequest p k f).pending = s.pending := by
  unfold State.takeRequest
  simp only
  (repeat' split) <;> simp

@[simp] theorem State.admitRequest_pending (s : State) (p : PortId) (f : ServiceFrame) :
    (s.admitRequest p f).pending = s.pending := by
  unfold State.admitRequest
  (repeat' split) <;> simp

@[simp] theorem State.executeRead_pending (s : State) (r : Request) :
    (s.executeRead r).pending = s.pending := by
  unfold State.executeRead
  (repeat' split) <;> simp

@[simp] theorem State.executeWrite_pending (s : State) (r : Request) :
    (s.executeWrite r).pending = s.pending := by
  unfold State.executeWrite
  (repeat' split) <;> simp

@[simp] theorem State.executeItem_pending (s : State) (r : Request) (j : WriteJob) :
    (s.executeItem r j).pending = s.pending := by
  unfold State.executeItem
  simp only
  (repeat' split) <;> simp

theorem State.executeSlot_pending (s : State) (r : Request) (act : State → SlotId → State × Status)
    (h : ∀ (s : State) (i : SlotId), (act s i).1.pending = s.pending) :
    (s.executeSlot r act).pending = s.pending := by
  unfold State.executeSlot
  split <;> simp [h]

theorem State.commandRefresh_pending (s : State) (i : SlotId) : (s.commandRefresh i).1.pending = s.pending := by
  unfold State.commandRefresh
  (repeat' split) <;> simp

@[simp] theorem State.warmReset_pending (s : State) :
    s.warmReset.pending = s.pending := by
  rfl

@[simp] theorem State.executeReset_pending (s : State) (r : Request) :
    (s.executeReset r).pending = s.pending := by
  unfold State.executeReset
  split <;> simp

theorem State.onHead_pending (s : State) (row : RequestRow) (act : State → Request → State)
    (h : ∀ (s : State) (r : Request), (act s r).pending = s.pending) : (s.onHead row act).pending = s.pending := by
  unfold State.onHead
  split
  · rfl
  · exact h s _

@[simp] theorem State.sendUp_pending (s : State) (i : SlotId) (f : Received) (e : Option ClassEntry) :
    (s.sendUp i f e).pending = s.pending := by
  unfold State.sendUp
  split <;> simp

@[simp] theorem State.policed_pending (s : State) (i : SlotId) (f : Received) (e : Option ClassEntry) :
    (s.policed i f e).pending = s.pending := by
  unfold State.policed
  simp only
  split <;> simp

@[simp] theorem State.upstream_pending (s : State) (i : SlotId) (f : Received) :
    (s.upstream i f).pending = s.pending := by
  unfold State.upstream
  simp only
  (repeat' split) <;> simp

@[simp] theorem State.partFromSlot_pending (s : State) (i : SlotId) (f : Received) :
    (s.partFromSlot i f).pending = s.pending := by
  unfold State.partFromSlot
  (repeat' split) <;> simp

@[simp] theorem State.partFromUplink_pending (s : State) (u : UplinkId) (f : Received) :
    (s.partFromUplink u f).pending = s.pending := by
  unfold State.partFromUplink
  split <;> simp

@[simp] theorem State.fromSlot_pending (s : State) (i : SlotId) (f : Received) :
    (s.fromSlot i f).pending = s.pending := by
  unfold State.fromSlot
  (repeat' split) <;> simp

@[simp] theorem State.deliver_pending (s : State) (u : UplinkId) (f : Received) :
    (s.deliver u f).pending = s.pending := by
  exact foldl_pending _ (fun t i => State.transmit_pending t _ _ _) _ s

@[simp] theorem State.fromUplink_pending (s : State) (u : UplinkId) (f : Received) :
    (s.fromUplink u f).pending = s.pending := by
  unfold State.fromUplink
  (repeat' split) <;> simp

@[simp] theorem State.arriveSlot_pending (s : State) (i : SlotId) (l : List Byte) :
    (s.arriveSlot i l).pending = s.pending := by
  unfold State.arriveSlot
  (repeat' split) <;> simp

@[simp] theorem State.arriveUplink_pending (s : State) (u : UplinkId) (l : List Byte) :
    (s.arriveUplink u l).pending = s.pending := by
  unfold State.arriveUplink
  (repeat' split) <;> simp

@[simp] theorem State.graceExpired_pending (s : State) (i : SlotId) :
    (s.graceExpired i).pending = s.pending := by
  unfold State.graceExpired
  simp only
  split <;> simp

@[simp] theorem State.psuRise_pending (s : State) (p : PsuId) (l : PsuLine) :
    (s.psuRise p l).pending = s.pending := by
  unfold State.psuRise
  simp only
  split <;> simp

@[simp] theorem State.psuFall_pending (s : State) (p : PsuId) (l : PsuLine) :
    (s.psuFall p l).pending = s.pending := by
  unfold State.psuFall
  simp only
  split <;> simp

@[simp] theorem State.linkRise_pending (s : State) (p : PortId) :
    (s.linkRise p).pending = s.pending := by
  unfold State.linkRise
  simp only
  (repeat' split) <;> simp

@[simp] theorem State.linkFall_pending (s : State) (p : PortId) :
    (s.linkFall p).pending = s.pending := by
  unfold State.linkFall
  simp only
  split <;> simp

theorem State.fanPresenceChanged_pending (s t : State) (f : FanId) :
    (s.fanPresenceChanged t f).pending = t.pending := by
  simp [State.fanPresenceChanged]

@[simp] theorem State.interlockOn_pending (s : State) :
    s.interlockOn.pending = s.pending := by
  unfold State.interlockOn
  simp only [State.raise_pending]
  exact foldl_pending _ (fun t i => State.emergency_pending t i) _ _

@[simp] theorem State.interlockOff_pending (s : State) :
    s.interlockOff.pending = s.pending := by
  simp [State.interlockOff]

end Sys2Proof.Machine

namespace Sys2Proof.Laws.KeepsQueue

open Sys2Proof.Machine

/-- The command ends in a next state from every state, and leaves the queue of waiting commands as it is. -/
def Statement (i : Instr) : Prop := ∀ s : State, ∃ t : State, exec i s = .next t ∧ t.pending = s.pending

theorem powerOnReset (pins : Pins) : Statement (.powerOnReset pins) := fun _ =>
  ⟨_, rfl, rfl⟩

theorem presenceAsserted (slot : SlotId) : Statement (.presenceAsserted slot) := fun s =>
  ⟨_, rfl, State.pending_of_settings (by split <;> simp)⟩

theorem presenceDeasserted (slot : SlotId) : Statement (.presenceDeasserted slot) := fun s =>
  ⟨_, rfl, State.pending_of_settings (by split <;> simp)⟩

theorem debounceExpiry (slot : SlotId) : Statement (.debounceExpiry slot) := fun s =>
  ⟨_, rfl, State.pending_of_settings (by split <;> simp)⟩

theorem holdTimerExpiry (slot : SlotId) : Statement (.holdTimerExpiry slot) := fun s =>
  ⟨_, rfl, State.pending_of_settings (by split <;> simp)⟩

theorem retryTimerExpiry (slot : SlotId) : Statement (.retryTimerExpiry slot) := fun s =>
  ⟨_, rfl, State.pending_of_settings (by split <;> simp)⟩

theorem deadIntervalExpiry (slot : SlotId) : Statement (.deadIntervalExpiry slot) := fun s =>
  ⟨_, rfl, State.pending_of_settings (by simp)⟩

theorem powerGoodAsserted (slot : SlotId) : Statement (.powerGoodAsserted slot) := fun s =>
  ⟨_, rfl, State.pending_of_settings (by split <;> simp)⟩

theorem powerGoodFall (slot : SlotId) : Statement (.powerGoodFall slot) := fun s =>
  ⟨_, rfl, State.pending_of_settings (by split <;> simp)⟩

theorem powerGoodTimerExpiry (slot : SlotId) : Statement (.powerGoodTimerExpiry slot) := fun s =>
  ⟨_, rfl, State.pending_of_settings (by simp)⟩

theorem resetHoldExpiry (slot : SlotId) : Statement (.resetHoldExpiry slot) := fun s =>
  ⟨_, rfl, State.pending_of_settings (by simp)⟩

theorem dischargeTimerExpiry (slot : SlotId) : Statement (.dischargeTimerExpiry slot) := fun s =>
  ⟨_, rfl, State.pending_of_settings (by simp)⟩

theorem interlockAsserted : Statement (.interlockAsserted) := fun s =>
  ⟨_, rfl, by split <;> simp⟩

theorem interlockReleased : Statement (.interlockReleased) := fun s =>
  ⟨_, rfl, by split <;> simp⟩

theorem psuLineAsserted (psu : PsuId) (line : PsuLine) : Statement (.psuLineAsserted psu line) := fun s =>
  ⟨_, rfl, by split <;> simp⟩

theorem psuLineDeasserted (psu : PsuId) (line : PsuLine) : Statement (.psuLineDeasserted psu line) := fun s =>
  ⟨_, rfl, by split <;> simp⟩

theorem settleTimerExpiry (psu : PsuId) : Statement (.settleTimerExpiry psu) := fun s =>
  ⟨_, rfl, by split <;> simp⟩

theorem announce (slot : SlotId) (frame : ServiceFrame) : Statement (.announce slot frame) := fun s =>
  ⟨_, rfl, State.pending_of_settings (by split <;> simp)⟩

theorem waitExtend (slot : SlotId) (frame : ServiceFrame) : Statement (.waitExtend slot frame) := fun s =>
  ⟨_, rfl, State.pending_of_settings (by split <;> simp)⟩

theorem announceDeadlineExpiry (slot : SlotId) : Statement (.announceDeadlineExpiry slot) := fun s =>
  ⟨_, rfl, State.pending_of_settings (by split <;> simp)⟩

theorem telemetry (slot : SlotId) (frame : ServiceFrame) : Statement (.telemetry slot frame) := fun s =>
  ⟨_, rfl, State.pending_of_settings (by split <;> simp)⟩

theorem sensorStale (slot : SlotId) (sensor : SensorId) : Statement (.sensorStale slot sensor) := fun s =>
  ⟨_, rfl, by split <;> simp⟩

theorem criticalGraceExpiry (slot : SlotId) : Statement (.criticalGraceExpiry slot) := fun s =>
  ⟨_, rfl, by split <;> simp⟩

theorem controlInterval : Statement (.controlInterval) := fun s =>
  ⟨_, rfl, foldl_pending _ (fun s z => State.intervalZone_pending _ s z) _ s⟩

theorem pwmPeriodStart (fan : FanId) : Statement (.pwmPeriodStart fan) := fun _ =>
  ⟨_, rfl, rfl⟩

theorem tachEdge (fan : FanId) (count : Fin 65535) : Statement (.tachEdge fan count) := fun _ =>
  ⟨_, rfl, rfl⟩

theorem overflowTimerExpiry (fan : FanId) : Statement (.overflowTimerExpiry fan) := fun _ =>
  ⟨_, rfl, rfl⟩

theorem fanPresenceDeasserted (fan : FanId) : Statement (.fanPresenceDeasserted fan) := fun s =>
  ⟨_, rfl, by split <;> simp [State.fanPresenceChanged_pending]⟩

theorem fanPresenceAsserted (fan : FanId) : Statement (.fanPresenceAsserted fan) := fun s =>
  ⟨_, rfl, by split <;> simp [State.fanPresenceChanged_pending]⟩

theorem linkUp (port : PortId) : Statement (.linkUp port) := fun s =>
  ⟨_, rfl, by split <;> simp⟩

theorem linkDown (port : PortId) : Statement (.linkDown port) := fun s =>
  ⟨_, rfl, by split <;> simp⟩

theorem holdDownExpiry (uplink : UplinkId) : Statement (.holdDownExpiry uplink) := fun s =>
  ⟨_, rfl, by split <;> simp⟩

theorem slotPortFrame (slot : SlotId) (bytes : List Byte) : Statement (.slotPortFrame slot bytes) := fun _ =>
  ⟨_, rfl, by simp⟩

theorem uplinkPortFrame (uplink : UplinkId) (bytes : List Byte) : Statement (.uplinkPortFrame uplink bytes) := fun _ =>
  ⟨_, rfl, by simp⟩

theorem epoch : Statement (.epoch) := fun _ =>
  ⟨_, rfl, rfl⟩

theorem request (port : PortId) (frame : ServiceFrame) : Statement (.request port frame) := fun _ =>
  ⟨_, rfl, by simp⟩

theorem read : Statement (.read) := fun s =>
  ⟨_, rfl, State.onHead_pending s _ _ State.executeRead_pending⟩

theorem write : Statement (.write) := fun s =>
  ⟨_, rfl, State.onHead_pending s _ _ State.executeWrite_pending⟩

theorem powerOn : Statement (.powerOn) := fun s =>
  ⟨_, rfl, State.onHead_pending s _ _ fun s r =>
    State.executeSlot_pending s r _ fun s i => State.pending_of_settings (State.commandPowerOn_settings s i)⟩

theorem powerOff : Statement (.powerOff) := fun s =>
  ⟨_, rfl, State.onHead_pending s _ _ fun s r =>
    State.executeSlot_pending s r _ fun s i => State.pending_of_settings (State.commandPowerOff_settings s i)⟩

theorem release : Statement (.release) := fun s =>
  ⟨_, rfl, State.onHead_pending s _ _ fun s r =>
    State.executeSlot_pending s r _ fun s i => State.pending_of_settings (State.commandRelease_settings s i)⟩

theorem reset : Statement (.reset) := fun s =>
  ⟨_, rfl, State.onHead_pending s _ _ fun s r =>
    State.executeSlot_pending s r _ fun s i => State.pending_of_settings (State.commandReset_settings s i)⟩

theorem refresh : Statement (.refresh) := fun s =>
  ⟨_, rfl, State.onHead_pending s _ _ fun s r => State.executeSlot_pending s r _ State.commandRefresh_pending⟩

theorem clearFault : Statement (.clearFault) := fun s =>
  ⟨_, rfl, State.onHead_pending s _ _ fun s r =>
    State.executeSlot_pending s r _ fun s i => State.pending_of_settings (State.commandClearFault_settings s i)⟩

theorem controllerReset : Statement (.controllerReset) := fun s =>
  ⟨_, rfl, State.onHead_pending s _ _ State.executeReset_pending⟩

theorem adminEnableWrite (slot : SlotId) (value : Bool) : Statement (.adminEnableWrite slot value) := fun _ =>
  ⟨_, rfl, by simp⟩

theorem roleSettingStackWrite : Statement (.roleSettingStackWrite) := fun _ =>
  ⟨_, rfl, by simp⟩

theorem roleSettingSlotWrite : Statement (.roleSettingSlotWrite) := fun _ =>
  ⟨_, rfl, by simp⟩

theorem powerPolicyWrite (slot : SlotId) (priority bootAllowance capFloor : Nat) : Statement (.powerPolicyWrite slot priority bootAllowance capFloor) := fun _ =>
  ⟨_, rfl, by simp⟩

theorem psuCapacityWrite (psu : PsuId) (watts : Nat) : Statement (.psuCapacityWrite psu watts) := fun _ =>
  ⟨_, rfl, by simp⟩

theorem redundancyModeWrite (mode : RedundancyMode) (overhead : Nat) : Statement (.redundancyModeWrite mode overhead) := fun _ =>
  ⟨_, rfl, by simp⟩

theorem fanFullPowerWrite (fan : FanId) (watts : Nat) : Statement (.fanFullPowerWrite fan watts) := fun _ =>
  ⟨_, rfl, by simp⟩

theorem minDemandWrite (zone : ZoneId) (perMille : Nat) : Statement (.minDemandWrite zone perMille) := fun _ =>
  ⟨_, rfl, rfl⟩

theorem staleLimitWrite (ms : Nat) : Statement (.staleLimitWrite ms) := fun _ =>
  ⟨_, rfl, by simp⟩

theorem rateCodeWrite (slot : SlotId) (rate capRate : RateCode) : Statement (.rateCodeWrite slot rate capRate) := fun _ =>
  ⟨_, rfl, by simp⟩

theorem bucketDepthWrite (slot : SlotId) (kib : Nat) : Statement (.bucketDepthWrite slot kib) := fun _ =>
  ⟨_, rfl, by simp⟩

theorem memberListWrite (group : GroupId) (members : List UplinkId) : Statement (.memberListWrite group members) := fun s =>
  ⟨_, rfl, by split <;> simp⟩

theorem classifyEntryWrite (index : Fin 64) (entry : ClassEntry) : Statement (.classifyEntryWrite index entry) := fun _ =>
  ⟨_, rfl, rfl⟩

theorem serviceEthertypeWrite (etherType : BitVec 16) : Statement (.serviceEthertypeWrite etherType) := fun s =>
  ⟨_, rfl, by split <;> simp⟩

theorem noticeCfgWrite (cfg : NoticeCfg) : Statement (.noticeCfgWrite cfg) := fun _ =>
  ⟨_, rfl, by simp⟩

theorem writeItem : Statement (.writeItem) := fun s =>
  ⟨_, rfl, by split <;> simp⟩

theorem warmResetInputAsserted : Statement (.warmResetInputAsserted) := fun s =>
  ⟨_, rfl, by split <;> simp⟩

theorem warmResetInputDeasserted : Statement (.warmResetInputDeasserted) := fun s =>
  ⟨_, rfl, by split <;> simp⟩

theorem spacingTimerExpiry : Statement (.spacingTimerExpiry) := fun _ =>
  ⟨_, rfl, by simp⟩

end Sys2Proof.Laws.KeepsQueue
end

