-- ==== Sys2Proof/Laws/Service.lean ====
section
/-!
SUPPORT. What the Service Unit's shared operations do, each said once: the end of a request, the start of the next one, the
row a payload belongs to, the run of a WRITE.
-/

namespace Sys2Proof.Machine

/-- With the queue empty nothing begins. -/
theorem State.begin_of_nil (s : State) (h : s.requests = []) : s.begin = s := by simp [State.begin, h, beginLoop]

/-- A head of a row waits for its row. -/
theorem State.begin_of_row (s : State) (r : Request) (rest : List Request) (h : s.requests = r :: rest)
    (k : requestRow r.payload ≠ .unknown) : s.begin = s := by
  simp [State.begin, h, beginLoop, k]

/-- The end of the head's execution: it is answered and removed, and the next request begins. -/
theorem State.complete_eq (s : State) (r : Request) (rest : List Request) (st : Status) (images : List Byte)
    (h : s.requests = r :: rest) : s.complete r st images = State.begin (s.answered r rest st images) := by
  simp only [State.complete, h, List.tail_cons]
  congr 1
  simp only [State.respond, State.transmit, State.answered]
  split <;> rfl

/-- What a state with a head of a row hands its row. -/
theorem State.headFor_eq (s : State) (row : RequestRow) (r : Request) (rest : List Request)
    (h : s.headIs row r rest) : s.headFor row = some r := by
  obtain ⟨h1, h2, h3⟩ := h
  simp [State.headFor, h1, h2, h3]

/-- A payload of the READ row is a READ's. -/
theorem operationOf_of_read {p : List Byte} (h : requestRow p = .read) : operationOf p = some .read := by
  unfold requestRow at h
  revert h
  cases operationOf p with
  | none => simp
  | some o =>
    cases o <;> simp
    split <;> (try split) <;> simp

/-- A payload of the WRITE row is a WRITE's. -/
theorem operationOf_of_write {p : List Byte} (h : requestRow p = .write) : operationOf p = some .write := by
  unfold requestRow at h
  revert h
  cases operationOf p with
  | none => simp
  | some o =>
    cases o <;> simp
    split <;> (try split) <;> simp

/-- A payload of a command's row is a COMMAND's with that command's code. -/
theorem operationOf_of_command {p : List Byte} {c : CommandCode} (h : requestRow p = .command c) :
    operationOf p = some .command ∧ 2 ≤ p.length ∧ commandOf (nat8At p 1) = some c := by
  unfold requestRow at h
  revert h
  cases operationOf p with
  | none => simp
  | some o =>
    cases o <;> simp
    split
    · rename_i h2
      split
      · simp
      · rename_i h3
        intro h
        cases h
        exact ⟨h2, h3⟩
    · simp

/-- The items of a WRITE stand at the indexes of its run. -/
theorem readItems_indexes (sp : Space) (n : Nat) :
    ∀ (ks : List Nat) (l : List Byte) (xs : List (Nat × Item × Bool)),
      readItems sp n ks l = some xs → xs.map Prod.fst = ks := by
  intro ks
  induction ks with
  | nil =>
    intro l xs h
    simp [readItems] at h
    simp [← h]
  | cons k ks ih =>
    intro l xs h
    simp only [readItems] at h
    cases hr : readItem sp (l.take n) with
    | none => simp [hr] at h
    | some x =>
      simp only [hr, Option.map_eq_some_iff] at h
      obtain ⟨ys, hy, rfl⟩ := h
      simp [ih _ _ hy]

/-- The run fields of a RESPONSE are the three bytes after the operation, zero where the payload does not hold them. -/
theorem runFields_eq (p : List Byte) : runFields p = [byteAt p 1, byteAt p 2, byteAt p 3] := by
  rcases p with _ | ⟨a, _ | ⟨b, _ | ⟨c, _ | ⟨d, p⟩⟩⟩⟩ <;> rfl

/-- The command fields of a RESPONSE: code and slot, zero where not held, and the argument only where it is held whole. -/
theorem commandFields_eq (p : List Byte) :
    commandFields p =
      [byteAt p 1, byteAt p 2] ++ (if 5 ≤ p.length then [byteAt p 3, byteAt p 4] else [0#8, 0#8]) := by
  rcases p with _ | ⟨a, _ | ⟨b, _ | ⟨c, _ | ⟨d, _ | ⟨e, p⟩⟩⟩⟩⟩ <;> simp [commandFields, padTo, byteAt]

/-- Whatever the free values are, an empty payload is echoed as zeros alone. -/
theorem echoFields_nil :
    echoFields [] = List.replicate 3 0#8 ∨ echoFields [] = List.replicate 4 0#8 := by
  simp only [echoFields, operationOf, List.take_nil, ite_self]
  split
  · exact .inr rfl
  · exact .inl rfl

/-- The most items one request may name, space by space (R171, test 5). -/
theorem Space.maxCount_eq (sp : Space) : sp.maxCount = if sp = .inventory then 8 else min sp.size 32 := by
  cases sp <;> decide

/-- The checks of a READ or a WRITE after its operation byte: fixed fields, authority, run (R171, tests 3 to 5). -/
theorem State.checkRequest_run (s : State) (r : Request) (op : Operation)
    (h : op = .read ∧ byteAt r.payload 0 = 1#8 ∨ op = .write ∧ byteAt r.payload 0 = 2#8) :
    s.checkRequest r =
      if r.payload.length < 4 then some .badLength
      else if !s.authorised r op then some .denied
      else checkRun op r.payload := by
  cases hp : r.payload with
  | nil => simp [hp, byteAt] at h
  | cons b l =>
    simp [hp, byteAt] at h
    rcases h with ⟨rfl, h⟩ | ⟨rfl, h⟩ <;>
      simp [State.checkRequest, hp, operationOf, h, Operation.fixedBytes]

end Sys2Proof.Machine
end

