-- ==== Sys2Proof/Laws/Steering.lean ====
section
/-!
SUPPORT. What the shared operations of groups, member lists and delivery do, each said once.
-/

namespace Sys2Proof.Machine

/-! ### Groups -/

theorem State.recomputeGroup_members (s : State) (g h : GroupId) (l : List UplinkId) :
    ((s.recomputeGroup g l).group h).members = (s.group h).members := by
  simp only [State.recomputeGroup]
  split
  · rfl
  · by_cases e : h = g
    · subst e; simp
    · simp [State.updGroup_group_ne, e]

theorem State.recomputeGroup_uplinks (s : State) (g : GroupId) (l : List UplinkId) :
    (s.recomputeGroup g l).uplinks = s.uplinks := by
  simp only [State.recomputeGroup]
  split <;> simp

/-- After a recomputation the active list is the list of the usable members. -/
theorem State.recomputeGroup_active (s : State) (g : GroupId) (l : List UplinkId) :
    ((s.recomputeGroup g l).group g).active = s.usableMembers (s.group g).members := by
  simp only [State.recomputeGroup]
  split
  · rename_i h; exact h.symm
  · simp

theorem State.recomputeGroup_group_ne (s : State) (g h : GroupId) (l : List UplinkId) (e : h ≠ g) :
    (s.recomputeGroup g l).group h = s.group h := by
  simp only [State.recomputeGroup]
  split
  · rfl
  · simp [State.updGroup_group_ne, e]

/-! ### Member lists -/

theorem mem_firstMentions (l : List UplinkId) :
    ∀ (seen : List UplinkId) (u : UplinkId), u ∈ firstMentions seen l ↔ u ∈ l ∧ u ∉ seen := by
  induction l with
  | nil => simp [firstMentions]
  | cons a l ih =>
    intro seen u
    simp only [firstMentions]
    split
    · rename_i h
      simp only [List.contains_iff_mem] at h
      rw [ih, List.mem_cons]
      refine ⟨fun ⟨h1, h2⟩ => ⟨.inr h1, h2⟩, fun ⟨h1, h2⟩ => ⟨?_, h2⟩⟩
      rcases h1 with rfl | h1
      · exact absurd h h2
      · exact h1
    · rename_i h
      simp only [List.contains_iff_mem] at h
      simp only [List.mem_cons, ih]
      constructor
      · rintro (rfl | ⟨h1, h2⟩)
        · exact ⟨.inl rfl, h⟩
        · exact ⟨.inr h1, fun k => h2 (.inr k)⟩
      · rintro ⟨rfl | h1, h2⟩
        · exact .inl rfl
        · by_cases e : u = a
          · exact .inl e
          · exact .inr ⟨h1, by simp [e, h2]⟩

theorem nodup_firstMentions (l : List UplinkId) : ∀ seen : List UplinkId, (firstMentions seen l).Nodup := by
  induction l with
  | nil => simp [firstMentions]
  | cons a l ih =>
    intro seen
    simp only [firstMentions]
    split
    · exact ih _
    · simp [List.nodup_cons, mem_firstMentions, ih]

/-! ### Delivery -/

/-- Copies of a frame handed to the slots of a list leave on the ports whose links are up, in the list's order. -/
theorem foldl_transmit (s₀ : State) (b : List Byte) (l : List SlotId) :
    ∀ s : State, s.links = s₀.links →
      l.foldl (fun t i => t.transmit (slotPort i) .delivered b) s =
        { s with
          sent := s.sent ++
            (l.filter fun i => s₀.link (slotPort i)).map fun i => ⟨slotPort i, .delivered, b⟩ } := by
  induction l with
  | nil => simp
  | cons a l ih =>
    intro s h
    rw [List.foldl_cons, ih _ (by simpa using h)]
    have hl : s.link (slotPort a) = s₀.link (slotPort a) := by simp [State.link, h]
    simp only [State.transmit, hl]
    split
    · rename_i hh; simp [hh]
    · rename_i hh; simp [hh]

end Sys2Proof.Machine
end

