-- ==== Sys2Proof/Tests/Slice0.lean ====
section
/-!
SUPPORT. Tests of the model against the spec's worked examples, the refusals of ill-formed commands, and for every statement
with hypotheses a witness that meets them, clause by clause. Expected values come from the section each test names.
-/

-- The kernel evaluations below run one after another, so that the joined text needs no thread for each.
set_option Elab.async false

namespace Sys2Proof.Tests

open Sys2Proof Sys2Proof.Machine

/-! ### Helpers -/

/-- The state a command leaves. -/
def after (c : Instr) (s : State) : State :=
  match exec c s with
  | .next t => t
  | .fault f => nomatch f
  | .refused _ => s

/-- Slot 3 in a state, the rest as after reset. -/
def inState (st : SlotState) : State := State.reset.updSlot 3 fun r => { r with state := st, presence := true }

/-- A timer that runs. -/
def running : Timer := some ⟨100, 100⟩

/-- The part with capacity for slots: NONE mode, no overhead, supply 0 counted at 1000 W. -/
def powered (s : State) : State :=
  { s.updPsu 0 fun r => { r with capacity := 1000, counted := true, present := true, powerGood := true } with
    chassis := { s.chassis with mode := .none, overhead := 0 } }

/-- A request from identity 0's address on port 16, for slot 3 where it is a slot command's. -/
def ask (payload : List Byte) : Request := ⟨16, 0x020000000099#48, 0, 0x023C71A00000#48, 7, payload⟩

/-- The payload of a COMMAND for slot 3 (R179). -/
def command (code : Byte) : List Byte := [3#8, code, 3#8, 0#8, 0#8]

/-- A state with one request at the head. -/
def asking (payload : List Byte) (s : State) : State := { s with requests := [ask payload] }

/-- Identity 0's address with straps 0 (R166). -/
def part : Addr := 0x023C71A00000#48

/-- A service frame to the part. -/
def toPart (payload : List Byte) : ServiceFrame := ⟨part, 0x020000000701#48, 9, payload⟩

/-- An ordinary untagged frame of 64 bytes (R129, R165). -/
def plain (dst src : Addr) : List Byte := withFcs (padTo 60 (addrBytes dst ++ addrBytes src ++ [0x08#8, 0x00#8]))

/-- An announcement record of 21 bytes, its CRC among them: power 350 W, one address, no sensor. -/
def recordBytes : List Byte :=
  let body : List Byte :=
    [1#8, 0#8, 7#8, 2#8, 1#8, 94#8, 1#8, 65#8, 1#8, 66#8, 0#8, 1#8] ++ addrBytes 0x020000000701#48 ++ [0#8]
  body ++ be16 (crc16 body).toNat

/-- The one fragment of the record. -/
def fragment : List Byte := [byte1 recordBytes.length, 1#8, 0#8] ++ recordBytes

/-- Slot 3 announcing, its window open. -/
def announcing : State := (inState .announcing).openWindow 3

/-! ### Ill-formed commands are refused -/

theorem test_wellFormed_refuses_frames :
    (([.announce 0 ⟨0#48, 0#48, 65536, []⟩, .waitExtend 0 ⟨0#48, 0#48, 65536, []⟩, .telemetry 0 ⟨0#48, 0#48, 65536, []⟩,
      .request 0 ⟨0#48, 0#48, 65536, []⟩, .announce 0 ⟨0#48, 0#48, 0, List.replicate 1495 0#8⟩,
      .request 0 ⟨0#48, 0#48, 0, List.replicate 1495 0#8⟩] : List Instr).all fun i => !i.wellFormed) = true := by
  decide +kernel

theorem test_wellFormed_refuses_fields :
    (([.powerPolicyWrite 0 256 1 1, .powerPolicyWrite 0 0 65536 1, .powerPolicyWrite 0 0 1 65536,
      .psuCapacityWrite 0 65536, .redundancyModeWrite .grid 65536, .fanFullPowerWrite 0 256, .minDemandWrite 0 65536,
      .staleLimitWrite 65536, .bucketDepthWrite 0 65536, .memberListWrite 0 [0, 1, 2, 3, 4],
      .serviceEthertypeWrite 0x05FF#16, .serviceEthertypeWrite 0x8100#16,
      .noticeCfgWrite ⟨true, 0#48, 0, 65536⟩] : List Instr).all fun i => !i.wellFormed) = true := by
  decide +kernel

theorem test_wellFormed_takes_ends :
    (([.announce 0 ⟨0#48, 0#48, 65535, []⟩, .powerPolicyWrite 0 255 65535 65535, .fanFullPowerWrite 0 255,
      .memberListWrite 0 [0, 1, 2, 3], .serviceEthertypeWrite 0x0600#16] : List Instr).all Instr.wellFormed) = true := by
  decide +kernel

/-! ### Worked examples -/

/-- Section 5.8: sensor demands. -/
theorem test_sensor_demand :
    freshDemand ⟨0, 30, 70, 90⟩ 52 = 550 ∧ freshDemand ⟨1, 45, 45, 80⟩ 44 = 0 ∧ freshDemand ⟨1, 45, 45, 80⟩ 45 = 1000 ∧
      freshDemand ⟨3, 35, 65, 85⟩ 64 = 966 ∧ freshDemand ⟨2, 20, 60, 75⟩ 57 = 925 := by decide +kernel

/-- Section 5.8: an INVALID sensor and one of age 7300 are stale under 5000. -/
theorem test_staleness :
    Sensor.stale 5000 ⟨⟨2, 20, 60, 75⟩, some ⟨58, 300⟩, .invalid⟩ = true ∧
      Sensor.stale 5000 ⟨⟨3, 35, 65, 85⟩, some ⟨64, 7300⟩, .valid⟩ = true ∧
      Sensor.stale 5000 ⟨⟨3, 35, 65, 85⟩, some ⟨64, 5000⟩, .valid⟩ = false := by decide +kernel

/-- Section 6.9: rpm, compare value and contribution. -/
theorem test_fan_figures :
    rpmOf (.measured 4615) 2 = 6500 ∧ compareOf 680 = 272 ∧ contribution 680 6 = 510 ∧ contribution 400 2 = 100 := by
  decide +kernel

/-- Section 6.9: the slew from 700 to 680, from 620 to 600, and the rise from 660 to 750. -/
theorem test_zone_slew :
    Zone.slewed { zonePowerOn with command := 700 } 600 = 680 ∧ Zone.slewed { zonePowerOn with command := 620 } 600 = 600 ∧
      Zone.slewed { zonePowerOn with command := 660 } 750 = 750 := by decide +kernel

/-- The chassis of section 4.9: P0, P1, P3 and P4 counted at 2400 W, six fans at 40 W. -/
def chassis49 : State :=
  { State.powerOn { idlePins with fanPresent := Vector.replicate 6 true } with
    psus := Tab.make fun p =>
      if p = 2 ∨ p = 5 then psuPowerOn false false else ⟨2400, true, true, true, none⟩ }

/-- Section 4.9: the figures before the loss, and with P4 gone. -/
theorem test_capacity :
    chassis49.feedACapacity = 4800 ∧ chassis49.feedBCapacity = 4800 ∧ chassis49.usableCapacity = 7200 ∧
      chassis49.reserve = 440 ∧ chassis49.cAvail = 6760 ∧
      (after (.psuLineDeasserted 4 .powerGood) chassis49).cAvail = 4360 := by decide +kernel

/-- Section 8.9: ten frames of 1518 bytes pass on 16384 tokens and the eleventh is dropped. -/
theorem test_meter_police :
    ((List.range 12).foldl (fun m _ => Meter.police m 1518) ⟨16384, 7, none, 0⟩) = ⟨1204, 7, none, 2⟩ ∧
      Meter.epoch 16384 ⟨1204, 7, none, 2⟩ = ⟨13704, 7, none, 2⟩ ∧
      Meter.epoch 16384 ⟨12186, 7, some 4, 2⟩ = ⟨13436, 4, none, 2⟩ := by decide +kernel

/-- Section 8.9: a depth of 8 KiB lowers 13436 tokens to 8192, and code 4 refills no further. -/
theorem test_meter_depth :
    let s := (State.reset.updMeter 5 fun _ => ⟨13436, 4, none, 2⟩).updMap 5 fun m => { m with depth := 16 }
    (((after (.bucketDepthWrite 5 8) s).meter 5).tokens = 8192) ∧
      ((after .epoch (after (.bucketDepthWrite 5 8) s)).meter 5).tokens = 8192 := by decide +kernel

/-- The published check values of the two polynomials with R53's and R129's conventions, over the digits 1 to 9. -/
theorem test_crc :
    crc16 [49#8, 50#8, 51#8, 52#8, 53#8, 54#8, 55#8, 56#8, 57#8] = 0x29B1#16 ∧
      crc32 [49#8, 50#8, 51#8, 52#8, 53#8, 54#8, 55#8, 56#8, 57#8] = 0xCBF43926#32 := by decide +kernel

/-- Section 3.9, at 420 and 700 ms: a fragment above the expected index draws a reject, and an extension of 1500 ms. -/
theorem test_announce_reject_then_extend :
    let s := { announcing with clock := 420 }.updContext 3 fun c => { c with expected := 1, pending := some ⟨.gap, 800⟩ }
    let t := after (.announce 3 (toPart [130#8, 3#8, 2#8, 1#8])) s
    ((t.context 3).rejects = 1 ∧ (t.context 3).pending = some ⟨.gap, 920⟩) ∧
      ((after (.waitExtend 3 (toPart (be16 1500))) t).context 3).pending = some ⟨.gap, 2420⟩ := by decide +kernel

/-- Section 3.9, at 2120 ms: T_crit 80 below T_hi 85 is repaired to 85. -/
theorem test_repair : SensorLimits.repair ⟨1, 40, 85, 80⟩ = ⟨1, 40, 85, 85⟩ := by decide +kernel

/-- A record of one fragment is accepted: generation 1, the target the declared 350 W, the slot ONLINE (R62, R85). -/
theorem test_announce_accepts :
    let t := after (.announce 3 (toPart fragment)) announcing
    (t.slot 3).state = .online ∧ (t.inv 3).generation = 1 ∧ (t.grantOf 3).target = 350 ∧
      t.holder 0x020000000701#48 = some 3 := by decide +kernel

/-- Identity 0 after power-on reset with straps 0x2A is 02-3C-71-A0-00-2A (R166). -/
theorem test_identity_address :
    ((after (.powerOnReset { idlePins with straps := 0x2A#8 }) State.reset).identity 0).addr = 0x023C71A0002A#48 := by
  decide +kernel

/-- The member bytes of an address sum as R152's spread needs: 02-00-00-00-07-01 sums to 10. -/
theorem test_address_sum : addrByteSum 0x020000000701#48 = 10 := by decide +kernel

/-- An empty queue idles, and a waiting command is taken from the front. -/
theorem test_step_takes_front :
    step State.reset = .next State.reset ∧
      step { State.reset with pending := [.epoch, .read] } = exec .epoch { State.reset with pending := [.read] } :=
  ⟨rfl, rfl⟩

/-! ### Witnesses: states that meet the hypotheses of each statement -/

/-- Slot 3 with its presence wire asserted and its admin_enable 1, in each state a removal clause names. -/
theorem witness_removal :
    ([SlotState.debounce, .present, .heldPower, .fault, .empty, .disabled].all fun st =>
      ((inState st).slot 3).presence && !(inState st).disableCondition 3) = true ∧
    ([SlotState.ramping, .online, .draining].all fun st =>
      ((inState st).slot 3).presence && !(inState st).hasEntry 3 .boot) = true ∧
    ((inState .online).slot 3).state.drainable = true := by decide +kernel

theorem witness_presence_rise :
    (State.reset.slot 3).presence = false ∧ (State.reset.slot 3).state = .empty ∧
    ((State.reset.updSlot 3 fun r => { r with state := .fault }).slot 3).state ≠ .empty := by decide +kernel

theorem witness_debounce :
    let s := (inState .debounce).updSlot 3 fun r => { r with debounce := running }
    let held := s.updPolicy 3 fun p => { p with holdPower := true }
    let manual := s.updPolicy 3 fun p => { p with autoPower := false }
    (s.slot 3).state = .debounce ∧ (s.slot 3).debounce ≠ none ∧ (s.policy 3).autoPower = true ∧
      (s.policy 3).holdPower = false ∧ (held.policy 3).holdPower = true ∧ (manual.policy 3).autoPower = false := by
  decide +kernel

theorem witness_power_request :
    let s := powered (inState .present)
    let waits : State := { s with interlock := true }
    let small := (inState .present)
    s.hasEntry 3 .boot = false ∧ s.queueCounter < 65535 ∧ waits.interlock = true ∧ s.interlock = false ∧
      s.powerQueue = [] ∧ ((s.policy 3).bootAllowance : Int) ≤ s.headroom ∧ s.admissionCounter < 65535 ∧
      (s.rail 3).op = .none ∧ (s.rail 3).powerGood = false ∧ (s.rail 3).dead ≠ none ∧
      ((s.updRail 3 fun r => { r with dead := none }).rail 3).dead = none ∧
      small.headroom < ((small.policy 3).bootAllowance : Int) := by decide +kernel

/-- A headroom that equals the boot allowance is room enough, the boundary of the admission clause. -/
theorem witness_power_request_boundary :
    let s := (powered (inState .present)).updPolicy 3 fun p => { p with bootAllowance := 1000 }
    ((s.policy 3).bootAllowance : Int) = s.headroom ∧
      ((after (.powerOn) (asking (command 0#8) s)).grantOf 3).grant = 1000 := by decide +kernel

theorem witness_hold :
    ([SlotState.heldPower, .heldOnline].all fun st =>
      let s := (inState st).updSlot 3 fun r => { r with hold := running }
      let d := s.updPolicy 3 fun p => { p with holdDefault := .deny }
      (s.slot 3).hold.isSome && (s.policy 3).holdDefault = .proceed && (d.policy 3).holdDefault = .deny) = true ∧
    (State.reset.slot 3).hold = none := by decide +kernel

/-- A sensor at its critical limit, and one a degree below it. -/
def hot (t : Int) (s : State) : State :=
  s.updThermal 3 fun r => { r with sensors := [⟨⟨0, 40, 85, 90⟩, some ⟨t, 0⟩, .valid⟩] }

theorem witness_online_entry :
    let s := hot 90 (inState .announcing)
    let c := hot 89 (inState .announcing)
    (s.thermalOf 3).critical = false ∧ s.hasEntry 3 .boot = false ∧ (s.grantOf 3).releasing = false ∧
      (s.thermalOf 3).sensors.any (Sensor.critical s.chassis.staleLimit) = true ∧
      (c.thermalOf 3).sensors.any (Sensor.critical c.chassis.staleLimit) = false := by decide +kernel

theorem witness_retry :
    let s := (inState .fault).updSlot 3 fun r => { r with retry := running }
    (s.slot 3).retry ≠ none ∧ (s.slot 3).state = .fault ∧ (State.reset.slot 3).retry = none ∧
      (s.policy 3).holdPower = false ∧ ((s.updPolicy 3 fun p => { p with holdPower := true }).policy 3).holdPower = true := by
  decide +kernel

theorem witness_drain :
    ([SlotState.ramping, .resetHold, .announcing, .heldOnline, .online].all fun st =>
      ((inState st).slot 3).state.drainable && !(inState st).hasEntry 3 .boot && ((inState st).rail 3).op ≠ .rampDown)
      = true ∧
    (((inState .online).updContext 3 fun c => { c with mode := .refresh }).context 3).mode = .refresh ∧
    ((inState .draining).slot 3).state.drainable = false := by decide +kernel

/-- Slot 3's rail in an operation and a stage, its dead interval running. -/
def railAt (op : RailOp) (stage : RailStage) (s : State) : State :=
  s.updRail 3 fun r => { r with op := op, stage := stage }

theorem witness_dead_interval :
    let d := railAt .rampDown .spacing (inState .draining)
    let u := railAt .rampUp .spacing (inState .ramping)
    let g := u.updRail 3 fun r => { r with powerGood := true }
    let n := State.reset.updRail 3 fun r => { r with dead := none }
    (d.rail 3).dead ≠ none ∧ (d.rail 3).stage = .spacing ∧ (d.rail 3).op = .rampDown ∧ (u.rail 3).op = .rampUp ∧
      u.interlock = false ∧ (u.rail 3).powerGood = false ∧ (g.rail 3).powerGood = true ∧ (g.slot 3).state = .ramping ∧
      g.chassis.resetHold ≠ 0 ∧ (State.reset.rail 3).stage ≠ .spacing ∧ (n.rail 3).dead = none := by decide +kernel

theorem witness_power_good :
    let u := railAt .rampUp .rising (inState .ramping)
    let z : State := { u with chassis := { u.chassis with resetHold := 0 } }
    let on := (inState .online).updRail 3 fun r => { r with powerGood := true, mainEnable := true, seen := true }
    let t := u.updRail 3 fun r => { r with powerGoodTimer := running }
    (u.rail 3).powerGood = false ∧ (u.rail 3).op = .rampUp ∧ (u.rail 3).stage = .rising ∧ u.chassis.resetHold ≠ 0 ∧
      z.chassis.resetHold = 0 ∧ (u.slot 3).state = .ramping ∧ (State.reset.rail 3).op ≠ .rampUp ∧
      (on.rail 3).powerGood = true ∧ (on.rail 3).mainEnable = true ∧ (on.rail 3).seen = true ∧
      (on.rail 3).op ≠ .rampDown ∧ (on.slot 3).state.heedsPowerLost = true ∧
      ((on.updRail 3 fun r => { r with seen := false }).rail 3).seen = false ∧ (t.rail 3).powerGoodTimer ≠ none ∧
      (State.reset.rail 3).powerGoodTimer = none := by decide +kernel

theorem witness_reset_hold :
    let s := (railAt .rampUp .resetting (inState .resetHold)).updRail 3 fun r => { r with resetTimer := running }
    (s.rail 3).resetTimer ≠ none ∧ (s.slot 3).state = .resetHold ∧ (State.reset.rail 3).resetTimer = none := by
  decide +kernel

theorem witness_ramp_down_complete :
    ([DrainNext.present, .fault, .powerWait, .empty].all fun n =>
      let s := ((inState .draining).updSlot 3 fun r => { r with drainNext := n }).updRail 3 fun r =>
        { r with dischargeTimer := running }
      (s.rail 3).dischargeTimer.isSome && (s.slot 3).state = .draining && s.powerQueue = [] &&
        (s.slot 3).drainNext = n && !s.disableCondition 3) = true ∧
    (State.reset.rail 3).dischargeTimer = none := by decide +kernel

theorem witness_interlock :
    (inState .online).interlock = false ∧ ((inState .online).slot 3).state.drainable = true ∧
    ((inState .draining).slot 3).state = .draining ∧ ((inState .present).slot 3).state.powered = false ∧
    ({ State.reset with interlock := true } : State).interlock = true ∧ State.reset.powerQueue = [] := by decide +kernel

theorem witness_supply :
    let one := State.reset.updPsu 0 fun r => { r with present := true }
    let both := one.updPsu 0 fun r => { r with powerGood := true, settle := running }
    let z : State := { one with chassis := { one.chassis with settleTime := 0 } }
    (State.reset.psu 0).line .present = false ∧
      (((State.reset.psu 0).withLine .present true).present && ((State.reset.psu 0).withLine .present true).powerGood)
        = false ∧
      (((one.psu 0).withLine .powerGood true).present && ((one.psu 0).withLine .powerGood true).powerGood) = true ∧
      (one.psu 0).counted = false ∧ one.chassis.settleTime ≠ 0 ∧ z.chassis.settleTime = 0 ∧
      (both.psu 0).line .powerGood = true ∧ (both.psu 0).settle ≠ none ∧ (State.reset.psu 0).settle = none ∧
      ((powered State.reset).psu 0).counted = true ∧ ((powered State.reset).psu 0).line .present = true := by
  decide +kernel

/-- Slot 3 ONLINE with a grant of 300 of its target of 300, above its cap level of 150, and no capacity at all. -/
def starved : State := (inState .online).updGrant 3 fun g => { g with grant := 300, target := 300 }

/-- Slot 3's UPGRADE entry. -/
def upgradeEntry : PowerEntry := ⟨3, .upgrade, 4, 1⟩

theorem witness_capacity_loss :
    starved.cAvail ≠ 1 ∧ starved.cAvail = 0 ∧ starved.headroom < 0 ∧ starved.capLevel 3 < (starved.grantOf 3).grant ∧
      (starved.grantOf 3).thermalCap = false ∧ (starved.grantOf 4).grant ≤ starved.capLevel 4 ∧
      0 ≤ State.reset.headroom := by decide +kernel

theorem witness_arbiter :
    let u : State :=
      { (powered (inState .online)).updGrant 3 fun g => { g with grant := 60, target := 300 } with
        powerQueue := [upgradeEntry] }
    let f := u.updGrant 3 fun g => { g with grant := 150, target := 2000 }
    let b : State := { State.reset with powerQueue := [⟨3, .boot, 4, 1⟩, upgradeEntry] }
    u.interlock = false ∧ u.powerQueue = [upgradeEntry] ∧
      ((u.grantOf 3).target : Int) - ((u.grantOf 3).grant : Int) ≤ u.headroom ∧
      f.headroom < ((f.grantOf 3).target : Int) - ((f.grantOf 3).grant : Int) ∧
      f.capLevel 3 ≤ (f.grantOf 3).grant ∧ b.headroom < ((b.policy 3).bootAllowance : Int) := by decide +kernel

theorem witness_power_settings :
    let u := State.reset.updPsu 0 fun r => { r with capacity := 4000 }
    u.cAvail = State.reset.cAvail ∧ State.reset.entryOf 3 = none ∧
      ((State.reset.updPolicy 3 fun p => { p with priority := 7 }).policy 3) ≠ State.reset.policy 3 := by decide +kernel

theorem witness_admin :
    let off := (inState .disabled).updPolicy 3 fun p => { p with adminEnable := false }
    ([SlotState.empty, .debounce, .present, .heldPower, .fault].all fun st =>
      ((inState st).policy 3).adminEnable && !((inState st).slot 3).state.powered &&
        ((inState st).slot 3).state ≠ .powerWait && ((inState st).slot 3).state ≠ .disabled) = true ∧
    ((inState .ramping).slot 3).state.drainable = true ∧ (inState .ramping).hasEntry 3 .boot = false ∧
    (off.policy 3).adminEnable = false ∧ (off.slot 3).state = .disabled ∧
    State.reset.chassis.roleSetting = .slot := by decide +kernel

theorem witness_role :
    let d := State.reset.updSlot slot15 fun r => { r with state := .disabled }
    let o := State.reset.updSlot slot15 fun r => { r with state := .online }
    let k : State :=
      { State.reset.updPolicy slot15 fun p => { p with adminEnable := false } with
        portRole := .stack, chassis := { State.reset.chassis with roleSetting := .stack } }
    d.chassis.roleSetting = .slot ∧ d.portRole = .slot ∧ (d.slot slot15).state = .disabled ∧ d.chassis.holdDown ≠ 0 ∧
      (o.slot slot15).state.drainable = true ∧ o.hasEntry slot15 .boot = false ∧ k.chassis.roleSetting = .stack ∧
      k.portRole = .stack ∧ (k.policy slot15).adminEnable = false := by decide +kernel

theorem witness_field_writes :
    (∀ i, (State.reset.thermalOf i).critical = false) ∧
    1024 * 1 < (State.reset.meter 5).tokens ∧ (State.reset.meter 5).tokens ≤ 1024 * 64 ∧
    (State.reset.meter 5).tokens ≤ 1024 * 256 ∧ (State.reset.meter 5).pending = none ∧ (State.reset.meter 5).effective = 0 ∧
    ((State.reset.updMeter 5 fun m => { m with effective := 4 }).meter 5).pending = none ∧
    ((State.reset.updMeter 5 fun m => { m with effective := 4 }).meter 5).effective ≠ 0 ∧
    ((State.reset.updMeter 5 fun m => { m with effective := 4 }).meter 5).effective ≠ 15 := by decide +kernel

theorem witness_table_writes :
    4 < ([0, 1, 2, 3, 4] : List UplinkId).length ∧ ([0, 1, 1, 3] : List UplinkId).length ≤ 4 ∧
    (0x05FF#16).toNat < 0x0600 ∧ 0x0600 ≤ (0x0600#16).toNat ∧ (0x0600#16 : BitVec 16) ≠ 0x8100#16 := by decide +kernel

theorem witness_fragments :
    let s := announcing
    let refused := s.updContext 3 fun c => { c with rejects := 3 }
    s.addressedToPart part = true ∧ s.servesSlot 3 = true ∧ (s.context 3).mode ≠ .closed ∧
      (State.reset.context 3).mode = .closed ∧
      fragmentWellFormed [130#8, 3#8, 0#8, 1#8] = true ∧ nat8At [130#8, 3#8, 0#8, 1#8] 2 = (s.context 3).expected ∧
      (s.context 3).consistent 130 3 = true ∧ (s.context 3).hasRoom 130 1 = true ∧
      fragmentWellFormed [130#8, 3#8, 1#8] = false ∧
      (s.context 3).expected < nat8At [130#8, 3#8, 2#8, 1#8] 2 ∧ (s.context 3).rejects < 3 ∧
      3 ≤ (refused.context 3).rejects ∧ (refused.context 3).mode = .window ∧ (refused.slot 3).state = .announcing ∧
      nat8At [130#8, 3#8, 0#8, 1#8] 2 < ((s.updContext 3 fun c => { c with expected := 1 }).context 3).expected := by
  decide +kernel

theorem witness_acceptance :
    let s := announcing
    let r := (inState .online).updContext 3 fun c => { c with mode := .refresh }
    s.addressedToPart part = true ∧ s.servesSlot 3 = true ∧ (s.context 3).mode = .window ∧
      (r.context 3).mode = .refresh ∧ (r.inv 3).record.map InvRecord.power ≠ some 350 ∧
      fragmentWellFormed fragment = true ∧ nat8At fragment 2 = (s.context 3).expected ∧
      nat8At fragment 2 + 1 = nat8At fragment 1 ∧
      (s.context 3).consistent (nat8At fragment 0) (nat8At fragment 1) = true ∧
      ((s.context 3).assembly ++ fragment.drop 3).length = nat8At fragment 0 ∧
      crcGood ((s.context 3).assembly ++ fragment.drop 3) = true ∧
      (readRecord ((s.context 3).assembly ++ fragment.drop 3)).isSome = true ∧ s.hasEntry 3 .boot = false ∧
      (s.slot 3).state = .announcing := by decide +kernel

theorem witness_extension :
    2 ≤ (be16 1500).length ∧ (announcing.context 3).extensions < 4 ∧
    4 ≤ ((announcing.updContext 3 fun c => { c with extensions := 4 }).context 3).extensions := by decide +kernel

theorem witness_readings :
    let s := hot 60 (inState .online)
    let c := s.updThermal 3 fun r => { r with critical := true, grace := running }
    (s.identityOf part).isSome = true ∧ s.servesSlot 3 = true ∧ (s.slot 3).state = .online ∧
      ((s.thermalOf 3).find 0).isSome = true ∧ (s.thermalOf 3).critical = false ∧
      (s.grantOf 3).releasing = false ∧ (216#8 : Byte).toInt = -40 ∧ (125#8 : Byte).toInt = 125 ∧
      (90#8 : Byte).toInt = 90 ∧ (126#8 : Byte).toInt = 126 ∧ (215#8 : Byte).toInt = -41 ∧
      telemetryWellFormed [] = false ∧ s.chassis.staleLimit < 65535 ∧
      (s.thermalOf 3).validSensor 0 = true ∧ (s.thermalOf 3).validSensor 1 = false ∧
      (c.thermalOf 3).critical = true ∧ (c.thermalOf 3).grace ≠ none ∧
      (c.thermalOf 3).sensors.all (fun x => x.limits.id = 0) = true ∧ (State.reset.thermalOf 3).grace = none := by
  decide +kernel

/-- A fan present and turning. -/
def turning : Fan := { fanPowerOn true with drive := 680, effective := 272, kick := 0, grace := 0, rpm := 6500 }

theorem witness_fans :
    let s := State.reset.updFan 2 fun _ => turning
    (s.fan 2).present = true ∧ (s.fan 3).present = false ∧ 0 < turning.drive ∧ turning.kick = 0 ∧
      0 < turning.effective ∧ turning.grace = 0 ∧ turning.minDrive ≤ turning.drive ∧ turning.faulted = false ∧
      (fanPowerOn false).drive = 0 ∧ (fanPowerOn false).effective = 0 ∧ 0 < (fanPowerOn true).kick ∧
      0 < (fanPowerOn true).grace ∧ ({ turning with faulted := true } : Fan).faulted = true ∧
      ({ turning with drive := 199 } : Fan).drive < turning.minDrive := by decide +kernel

/-- Section 6.9's zone Z1 forced by an absent fan, and unforced with both present; target below, above and at 400. -/
theorem witness_zone :
    let s := (State.reset.updFan 2 fun _ => turning).updFan 3 fun _ => turning
    (Tab.get (s.fans) 3).present = true ∧ ((after .controlInterval s).zone 1).forced = false ∧
      ((after .controlInterval s).zone 1).target < (s.zone 1).command ∧
      ((after .controlInterval State.reset).zone 1).forced = true ∧
      (let r := s.updZone 1 fun z => { z with command := 100 }
       (r.zone 1).command < ((after .controlInterval r).zone 1).target) ∧
      (let r := s.updZone 1 fun z => { z with command := 250 }
       (r.zone 1).command = ((after .controlInterval r).zone 1).target) ∧
      (s.slot 3).state.powered = false ∧ s.slotDemand 3 ≤ 1000 ∧ Tab.get (s.policy 3).weights 1 ≤ 8 := by
  decide +kernel

theorem witness_tach :
    (State.reset.fan 0).tach = .idle ∧ (fanPowerOn true).tach = .armed ∧
    ({ turning with tach := .measuring } : Fan).tach = .measuring := by decide +kernel

/-- A service frame of version 2 for the part, and one of version 1 with kind 2 to another station. -/
def otherVersion : List Byte :=
  withFcs (padTo 60 (addrBytes part ++ addrBytes 0x020000000701#48 ++ [0x88#8, 0xB6#8, 2#8, 1#8]))

/-- Slot 3 ONLINE as the holder of an address, uplink U0 usable and active in group 0. -/
def forwarding : State :=
  (((inState .online).updStation 0 fun _ => some ⟨0x020000000701#48, 3⟩).updGroup 0 fun g =>
    { g with active := [0] }).updLink 16 fun _ => true

theorem witness_versions :
    (receive otherVersion).isSome = true ∧
    ((receive otherVersion).map fun f =>
      forwarding.forPart f && f.version ≠ some 1#8) = some true ∧
    ((receive (plain 0x020000000099#48 0x020000000701#48)).map fun f =>
      !forwarding.forPart f && forwarding.gatePasses 3 f) = some true ∧
    forwarding.servesSlot 3 = true ∧ (0 : UplinkId) ≠ uplink4 := by decide +kernel

theorem witness_slot_frames :
    receive [] = none ∧
    ((receive (plain 0x020000000099#48 0x020000000701#48)).map fun f =>
      !forwarding.forPart f && f.tag.isNone && forwarding.holder f.src = some 3 &&
        actionOf (forwarding.classifyFrame (slotPort 3) f) = .forward &&
        forwarding.steer 3 f (forwarding.classifyFrame (slotPort 3) f) = some 0 && f.raw.length = 64) = some true ∧
    forwarding.link (uplinkPort 0) = true ∧ (forwarding.map 3).tag = 0 ∧ (forwarding.meter 3).effective = 0 ∧
    ((forwarding.updMap 3 fun m => { m with tag := 5 }).map 3).tag ≠ 0 ∧
    ((receive (plain 0x020000000099#48 0x020000000702#48)).map fun f => forwarding.holder f.src) = some none := by
  decide +kernel

/-- A Classification Table entry that drops everything on every port. -/
def dropAll (s : State) : State :=
  s.updClassEntry 0 fun _ => { classEntryPowerOn with valid := true, ports := 0xFFFFF#20, action := .drop }

/-- Tokens of 64 bytes pass a frame of 64, the boundary of the meter's clauses, and 63 do not. -/
theorem witness_meter_boundary :
    let at64 := forwarding.updMeter 3 fun m => { m with effective := 4, tokens := 64 }
    let at63 := forwarding.updMeter 3 fun m => { m with effective := 4, tokens := 63 }
    let f := plain 0x020000000099#48 0x020000000701#48
    (after (.slotPortFrame 3 f) at64).sent.length = 1 ∧ ((after (.slotPortFrame 3 f) at64).meter 3).tokens = 0 ∧
      (after (.slotPortFrame 3 f) at63).sent = [] ∧ ((after (.slotPortFrame 3 f) at63).meter 3).policeDrops = 1 ∧
      ((receive f).map fun f => actionOf ((dropAll forwarding).classifyFrame (slotPort 3) f)) = some .drop := by
  decide +kernel

theorem witness_uplink_frames :
    ((receive (plain 0x020000000701#48 0x020000000099#48)).map fun f =>
      !forwarding.forPart f && !groupBit f.dst && (forwarding.identityOf f.dst).isNone &&
        actionOf (forwarding.classifyFrame (uplinkPort 0) f) ≠ .drop &&
        actionOf ((dropAll forwarding).classifyFrame (uplinkPort 0) f) = .drop &&
        forwarding.receivers 0 f = [3]) = some true ∧
    ((receive (plain 0x010000000001#48 0x020000000099#48)).map fun f =>
      !forwarding.forPart f && groupBit f.dst && forwarding.receivers 0 f = [3]) = some true ∧
    ((receive (plain part 0x020000000099#48)).map fun f =>
      !forwarding.forPart f && !groupBit f.dst && (forwarding.identityOf f.dst).isSome) = some true := by decide +kernel

theorem witness_links :
    let up := State.reset.updLink 16 fun _ => true
    let usable := up.updUplink 0 fun _ => ⟨none, true⟩
    let waiting := up.updUplink 0 fun _ => ⟨running, false⟩
    State.reset.link 16 = false ∧ up.link 16 = true ∧ uplinkPort 0 = 16 ∧ State.reset.uplinkInRole 0 = true ∧
      State.reset.chassis.holdDown ≠ 0 ∧ (∀ k, uplinkPort k ≠ 3) ∧ (∀ k, uplinkPort k = 15 → State.reset.uplinkInRole k = false) ∧
      (usable.uplink 0).usable = true ∧ (waiting.uplink 0).holdDown ≠ none ∧ (waiting.uplink 0).usable = false ∧
      (State.reset.uplink 0).holdDown = none ∧ (0 : UplinkId) ∈ (State.reset.group 0).members ∧
      (0 : UplinkId) ∉ (State.reset.group 1).members := by decide +kernel

theorem witness_requests :
    let s := State.reset
    let four : State := { s with requests := List.replicate 4 (ask [1#8, 9#8, 0#8, 1#8]) }
    (s.identity 0).enabled = true ∧ (s.identity 0).addr = part ∧ (∀ j : IdentityId, j < 0 → (s.identity j).enabled = false) ∧
      (s.identity 0).ports.getLsbD 16 = true ∧ (s.identity 0).ports.getLsbD 15 = false ∧ s.warmHeld = false ∧
      s.requests.length < 4 ∧ 4 ≤ four.requests.length ∧ requestRow [1#8, 9#8, 0#8, 1#8] = .read ∧
      requestRow [] = .unknown ∧ (∀ k, (s.identity k).enabled = true → (s.identity k).addr ≠ 0x020000000099#48) ∧
      ({ s with warmHeld := true } : State).warmHeld = true := by decide +kernel

theorem witness_read :
    let s := asking [1#8, 9#8, 15#8, 16#8] State.reset
    let bad := asking [1#8, 9#8, 16#8, 1#8] State.reset
    s.headIs .read (ask [1#8, 9#8, 15#8, 16#8]) [] ∧ s.checkRequest (ask [1#8, 9#8, 15#8, 16#8]) = none ∧
      bad.headIs .read (ask [1#8, 9#8, 16#8, 1#8]) [] ∧ bad.checkRequest (ask [1#8, 9#8, 16#8, 1#8]) = some .badIndex := by
  unfold State.headIs
  decide +kernel

/-- A WRITE of one PSU item of 1000 W to P5, and of P5 and P0 in one run that wraps. -/
theorem witness_write :
    let one := [2#8, 4#8, 5#8, 1#8] ++ be16 1000
    let two := [2#8, 4#8, 5#8, 2#8] ++ be16 1000 ++ be16 2000
    let s := asking two State.reset
    s.headIs .write (ask two) [] ∧ s.checkRequest (ask two) = none ∧
      s.checkItems (ask two) .psu = some ⟨[(5, .psu 1000), (0, .psu 2000)], .ok⟩ ∧
      (asking one State.reset).checkItems (ask one) .psu = some ⟨[(5, .psu 1000)], .ok⟩ ∧
      s.checkRequest (ask [2#8, 9#8, 0#8, 1#8]) = some .readOnly ∧
      s.checkItems (ask ([2#8, 8#8, 0#8, 1#8] ++ List.replicate 11 0#8)) .identity = none := by
  unfold State.headIs
  decide +kernel

/-- Each of the seven commands at the head, passing its checks, and the first test each failing payload fails. -/
theorem witness_commands :
    (∀ p ∈ [(0#8, CommandCode.powerOn), (1#8, .powerOff), (2#8, .release), (3#8, .reset), (4#8, .refresh),
        (5#8, .clearFault)],
      (asking (command p.1) State.reset).headIs (.command p.2) (ask (command p.1)) [] ∧
        State.reset.checkRequest (ask (command p.1)) = none) ∧
    (asking [3#8, 6#8, 255#8, 0#8, 0#8] State.reset).headIs (.command .controllerReset)
      (ask [3#8, 6#8, 255#8, 0#8, 0#8]) [] ∧
    State.reset.checkRequest (ask [3#8, 6#8, 255#8, 0#8, 0#8]) = none ∧
    State.reset.checkRequest (ask [3#8, 0#8, 15#8, 0#8]) = some .badLength ∧
    State.reset.checkRequest (ask [3#8, 0#8, 16#8, 0#8, 0#8]) = some .badIndex ∧
    State.reset.checkRequest (ask [3#8, 0#8, 3#8, 0#8, 1#8]) = some .badValue ∧
    (State.reset.updIdentity 0 fun r => { r with access := .observe }).checkRequest (ask (command 0#8))
      = some .denied := by
  unfold State.headIs
  decide +kernel

theorem witness_command_slot :
    commandSlot (ask (command 0#8)) = 3 ∧
    (inState .powerWait).hasEntry 3 .boot = false ∧
    ({ inState .powerWait with powerQueue := [⟨3, .boot, 4, 1⟩] } : State).hasEntry 3 .boot = true ∧
    ({ inState .online with powerQueue := [upgradeEntry] } : State).hasEntry 3 .upgrade = true ∧
    (let s := (inState .online).updRail 3 fun r => { r with mainEnable := true, seen := true, dead := none }
     (s.rail 3).op = .none ∧ (s.rail 3).mainEnable = true ∧ (s.rail 3).seen = true ∧ s.chassis.resetHold ≠ 0 ∧
      s.hasEntry 3 .upgrade = false ∧ s.hasEntry 3 .boot = false) ∧
    ((inState .online).context 3).mode = .closed := by decide +kernel

theorem witness_notices :
    let on : State := { State.reset with noticeCfg := ⟨true, 0#48, 16, 10⟩ }
    let waits : State := { on with notices := [⟨.slot 3, 1#16, 0⟩] }
    let ready := waits.updLink 16 fun _ => true
    on.noticeCfg.enable = true ∧ State.reset.noticeCfg.enable = false ∧
      (∃ n ∈ waits.notices, n.source = (Event.holdReached 3).source) ∧
      (∀ n ∈ waits.notices, n.source ≠ (Event.holdReached 4).source) ∧
      ready.link ready.noticeCfg.egress = true ∧ ready.spacing = none ∧ waits.link waits.noticeCfg.egress = false := by
  decide +kernel

/-- A step from reset meets the hypotheses of every invariant, which Obligations.ResetMeetsInvariants states. -/
theorem witness_step : step State.reset = .next State.reset := rfl

/-! ### Worked examples of chapter 4, and witnesses of the widened statements -/

/-- The slots of section 4.9 before P4's power-good falls: ONLINE, and slot 7 ANNOUNCING. -/
def loaded49 : State :=
  let watts : SlotId → Nat := fun i => if i.val < 6 then 900 else if i = 6 then 1000 else if i = 7 then 60 else 0
  { chassis49 with
    slots := Tab.each (fun i r =>
      { r with state := if i.val < 7 then .online else if i = 7 then .announcing else .empty }) chassis49.slots
    policies := Tab.each (fun i p => { p with capFloor := 400, priority := if i.val < 4 then 2 else 5 }) chassis49.policies
    grants := Tab.make fun i =>
      { grantPowerOn with grant := watts i, target := watts i, admission := if i.val < 8 then i.val + 1 else 0 } }

/-- The order of section 4.9's capping pass, and what the loss of P4 leaves: four slots capped to 400 W, their UPGRADEs in
the order of their priorities, and no headroom. -/
theorem test_capping_pass :
    let t := after (.psuLineDeasserted 4 .powerGood) loaded49
    loaded49.passOrder = [7, 6, 5, 4, 3, 2, 1, 0] ∧ loaded49.headroom = 300 ∧ t.headroom = 0 ∧
      ((List.finRange 8).map fun i : Fin 8 => (t.grantOf (i.castLE (by decide))).grant) =
        [900, 900, 900, 400, 400, 400, 400, 60] ∧
      t.powerQueue = [⟨3, .upgrade, 2, 4⟩, ⟨6, .upgrade, 5, 1⟩, ⟨5, .upgrade, 5, 2⟩, ⟨4, .upgrade, 5, 3⟩] := by
  decide +kernel

/-- Section 4.10: after P4, slot 7's acceptance at 700 W and then P3's loss, four slots are shed. -/
theorem test_shed_pass :
    let s := ((after (.psuLineDeasserted 4 .powerGood) loaded49).acceptTarget 7 700).updSlot 7 fun r =>
      { r with state := .online }
    let t := after (.psuLineDeasserted 3 .powerGood) s
    s.powerQueue.getLast? = some ⟨7, .upgrade, 5, 5⟩ ∧ t.headroom = 360 ∧
      ((List.finRange 8).map fun i : Fin 8 => (t.slot (i.castLE (by decide))).state) =
        [.online, .online, .online, .online, .draining, .draining, .draining, .draining] ∧
      (t.slot 7).drainCause = .budget ∧ (t.slot 7).drainNext = .powerWait ∧
      t.powerQueue =
        [⟨3, .upgrade, 2, 4⟩, ⟨2, .upgrade, 2, 6⟩, ⟨1, .upgrade, 2, 7⟩, ⟨0, .upgrade, 2, 8⟩] := by decide +kernel

/-- The capping pass may free enough, so that the shed pass does not run, or too little, so that it does. -/
theorem witness_passes :
    let one := loaded49.updPsu 4 fun r => { r with counted := false }
    let two := one.updPsu 3 fun r => { r with counted := false }
    one.headroom < 0 ∧ 0 ≤ (cappingPass one.passOrder false one).1.headroom ∧ two.headroom < 0 ∧
      (cappingPass two.passOrder false two).1.headroom < 0 ∧ (one.slot 6).state.drainable = true ∧
      (one.slot 7).state ≠ .online ∧ (one.slot 7).state ≠ .heldOnline := by decide +kernel

/-- A change of target: below, at and above the grant of 60 W, with headroom for all of it, for the partial step to the cap
level of 150 W, whose 90 W are the boundary, and for neither. -/
theorem witness_targets :
    let room (n : Nat) : State :=
      (powered State.reset).updPsu 0 (fun r => { r with capacity := 60 + n }) |>.updGrant 3 fun g =>
        { g with grant := 60, target := 60 }
    let capped := (room 240).updGrant 3 fun g => { g with thermalCap := true }
    (room 240).interlock = false ∧ (room 240).powerQueue = [] ∧ (room 240).headroom = 240 ∧
      ((room 240).acceptTarget 3 300).headroom = 0 ∧ (((room 90).acceptTarget 3 300).grantOf 3).grant = 150 ∧
      (((room 89).acceptTarget 3 300).grantOf 3).grant = 60 ∧ (((room 240).acceptTarget 3 59).grantOf 3).grant = 59 ∧
      (((room 240).acceptTarget 3 60).grantOf 3).capped = false ∧ (capped.grantOf 3).thermalCap = true ∧
      ((capped.acceptTarget 3 60).grantOf 3).thermalCap = false := by decide +kernel

/-- A refresh that lowers the target below, to and not to the grant, and one that raises it, with the cap clear or set and
with an UPGRADE waiting or not; and the two thermal cap requests. -/
theorem witness_refresh_targets :
    let s := (powered (inState .online)).updGrant 3 fun g => { g with grant := 150, target := 300 }
    let q : State := { s with powerQueue := [upgradeEntry] }
    let c := s.updGrant 3 fun g => { g with thermalCap := true }
    (100 < (s.grantOf 3).target ∧ 100 ≤ (s.grantOf 3).grant) ∧ ((s.grantOf 3).grant < 200 ∧ 200 < (s.grantOf 3).target) ∧
      (s.grantOf 3).target ≤ 400 ∧ s.hasEntry 3 .upgrade = false ∧ q.hasEntry 3 .upgrade = true ∧
      (s.grantOf 3).thermalCap = false ∧ (s.grantOf 3).releasing = false ∧ (c.grantOf 3).thermalCap = true ∧
      (c.grantOf 3).grant < (c.grantOf 3).target ∧ (c.slot 3).state = .online ∧
      ((c.updSlot 3 fun r => { r with state := .draining }).slot 3).state ≠ .online := by decide +kernel

/-- Slot i in POWER_WAIT with its BOOT entry. -/
def waiting (i : SlotId) : State :=
  { State.reset.updSlot i fun r => { r with state := .powerWait, presence := true } with
    powerQueue := [⟨i, .boot, 4, 1⟩] }

/-- A removal in POWER_WAIT, and in each unpowered state with the disable condition holding, for slot 15 by its role
setting too. -/
theorem witness_removal_disabled :
    let off (s : State) : State := s.updPolicy 3 fun p => { p with adminEnable := false }
    let stack : State := { waiting slot15 with chassis := { State.reset.chassis with roleSetting := .stack } }
    (waiting 3).hasEntry 3 .boot = true ∧ ((waiting 3).slot 3).presence = true ∧
      (waiting 3).disableCondition 3 = false ∧ (off (waiting 3)).disableCondition 3 = true ∧
      (off (waiting 3)).hasEntry 3 .boot = true ∧ stack.disableCondition slot15 = true ∧ stack.portRole = .slot ∧
      ([SlotState.debounce, .present, .heldPower, .fault, .empty, .disabled].all fun st =>
        ((off (inState st)).slot 3).presence && (off (inState st)).disableCondition 3) = true := by decide +kernel

/-- A power request behind a BOOT and an UPGRADE head that do not fit, before a queue that its entry heads, and admitted
with power-good asserted and the reset hold at and above 0. -/
theorem witness_power_request_queue :
    let n : PowerEntry := ⟨3, .boot, 4, 1⟩
    let s := powered (inState .present)
    let boot : State := { inState .present with powerQueue := [⟨5, .boot, 4, 0⟩] }
    let up : State :=
      { (inState .present).updGrant 5 fun g => { g with grant := 60, target := 300 } with
        powerQueue := [⟨5, .upgrade, 4, 0⟩] }
    let heads : State := { s with powerQueue := [⟨5, .boot, 7, 0⟩] }
    let good := s.updRail 3 fun r => { r with dead := none, powerGood := true }
    let zero : State := { good with chassis := { good.chassis with resetHold := 0 } }
    (s.policy 3).priority = 4 ∧ s.queueCounter = 0 ∧ n.before ⟨5, .boot, 4, 0⟩ = false ∧
      boot.headroom < ((boot.policy 5).bootAllowance : Int) ∧
      up.headroom < ((up.grantOf 5).target : Int) - ((up.grantOf 5).grant : Int) ∧
      n.before ⟨5, .boot, 7, 0⟩ = true ∧ heads.entryOf 3 = none ∧ ((heads.policy 3).bootAllowance : Int) ≤ heads.headroom ∧
      heads.admissionCounter + heads.powerQueue.length < 65535 ∧ (good.rail 3).op = .none ∧ (good.rail 3).dead = none ∧
      (good.rail 3).powerGood = true ∧ good.chassis.resetHold ≠ 0 ∧ zero.chassis.resetHold = 0 := by decide +kernel

/-- A drain that completes toward DISABLED with the condition holding and ceased, toward EMPTY with it holding, for slot 15
with the STACK role due, and with a queue that is not empty. -/
theorem witness_drain_completes :
    let d (i : SlotId) (n : DrainNext) : State :=
      { (State.reset.updSlot i fun r => { r with state := .draining, drainNext := n }).updRail i fun r =>
          { r with dischargeTimer := running } with powerQueue := [⟨5, .boot, 4, 1⟩] }
    let off := (d 3 .disabled).updPolicy 3 fun p => { p with adminEnable := false }
    let gone := (d 3 .empty).updPolicy 3 fun p => { p with adminEnable := false }
    let due : State :=
      { d slot15 .disabled with chassis := { State.reset.chassis with roleSetting := .stack } }
    ((d 3 .disabled).rail 3).dischargeTimer ≠ none ∧ ((d 3 .disabled).slot 3).drainNext = .disabled ∧
      (d 3 .disabled).disableCondition 3 = false ∧ off.disableCondition 3 = true ∧ gone.disableCondition 3 = true ∧
      (gone.slot 3).drainNext = .empty ∧ due.disableCondition slot15 = true ∧ due.portRole = .slot ∧
      (due.slot slot15).state = .draining ∧ (d 3 .disabled).hasEntry 3 .boot = false ∧
      (d 3 .disabled).powerQueue ≠ [] := by decide +kernel

/-- An admin_enable write that meets POWER_WAIT and DRAINING, and slot 15 DISABLED with the role setting either way. -/
theorem witness_admin_states :
    let fifteen := (State.reset.updSlot slot15 fun r => { r with state := .disabled }).updPolicy slot15 fun p =>
      { p with adminEnable := false }
    let stack : State := { fifteen with chassis := { fifteen.chassis with roleSetting := .stack } }
    ((waiting 3).policy 3).adminEnable = true ∧ ((waiting 3).slot 3).state = .powerWait ∧
      ((inState .draining).policy 3).adminEnable = true ∧ (fifteen.policy slot15).adminEnable = false ∧
      (fifteen.slot slot15).state = .disabled ∧ fifteen.chassis.roleSetting = .slot ∧
      stack.chassis.roleSetting = .stack := by decide +kernel

/-- A role setting write with slot 15 in each kind of state, the STACK role with admin_enable 1, and a hold-down of 0 with
port 15's link up. -/
theorem witness_role_states :
    let at15 (st : SlotState) : State := State.reset.updSlot slot15 fun r => { r with state := st }
    let k : State :=
      { at15 .disabled with portRole := .stack, chassis := { State.reset.chassis with roleSetting := .stack } }
    let zero : State :=
      { (at15 .disabled).updLink 15 fun _ => true with chassis := { State.reset.chassis with holdDown := 0 } }
    ([SlotState.empty, .debounce, .present, .heldPower, .fault, .draining].all fun st =>
      ((at15 st).slot slot15).state = st) = true ∧
      (waiting slot15).hasEntry slot15 .boot = true ∧ (waiting slot15).portRole = .slot ∧
      (k.policy slot15).adminEnable = true ∧ (k.slot slot15).state = .disabled ∧ k.portRole = .stack ∧
      zero.link 15 = true ∧ zero.chassis.holdDown = 0 ∧ (zero.uplink uplink4).usable = false ∧
      (at15 .disabled).link 15 = false := by decide +kernel

/-- A stale limit of 500 makes an age of 501 stale, and with the flag set the slot cools; at 502 it stays as it was. -/
theorem witness_stale_turn :
    let s := (inState .online).updThermal 3 fun _ => ⟨[⟨⟨0, 40, 85, 90⟩, some ⟨95, 501⟩, .valid⟩], true, running⟩
    let x : Sensor := ⟨⟨0, 40, 85, 90⟩, some ⟨95, 501⟩, .valid⟩
    (s.thermalOf 3).critical = true ∧ x.stale s.chassis.staleLimit = false ∧ x.stale 500 = true ∧ x.cool 500 = true ∧
      x.stale 502 = false ∧ x.cool 502 = false ∧ ((after (.staleLimitWrite 500) s).thermalOf 3).critical = false ∧
      ((after (.staleLimitWrite 502) s).thermalOf 3).critical = true := by decide +kernel

/-- A policy write for a slot with an entry moves it behind an entry of a lower priority number. -/
theorem witness_policy_moves_entry :
    let s : State := { State.reset with powerQueue := [⟨3, .boot, 4, 1⟩, ⟨5, .boot, 4, 2⟩] }
    (s.policy 3).priority ≠ min 7 9 ∧ s.powerQueue.Pairwise (fun e f => f.before e = false) ∧
      (after (.powerPolicyWrite 3 9 60 150) s).powerQueue = [⟨5, .boot, 4, 2⟩, ⟨3, .boot, 7, 1⟩] := by decide +kernel

/-- Fragments that fail consistency and room, the room test's boundary, and a fourth reject of a refresh. -/
theorem witness_fragment_rejects :
    let s := announcing.updContext 3 fun c =>
      { c with declaredLength := some 21, declaredCount := some 2, expected := 1, assembly := List.replicate 20 0#8 }
    let r := ((inState .online).updContext 3 fun c => { c with mode := .refresh, rejects := 3 })
    s.fragmentRefused 3 [22#8, 2#8, 1#8, 1#8] ∧ s.fragmentTooLong 3 [21#8, 2#8, 1#8, 1#8, 1#8] ∧
      s.fragmentCompletes 3 [21#8, 2#8, 1#8, 1#8] ∧ announcing.fragmentTooLong 3 ([21#8, 1#8, 0#8] ++ List.replicate 22 1#8) ∧
      r.fragmentRefused 3 [] ∧ 3 ≤ (r.context 3).rejects ∧ (r.context 3).mode = .refresh := by
  unfold State.fragmentRefused State.fragmentTooLong State.fragmentCompletes
  decide +kernel

/-- A record with a spoilt CRC, one that is short, and one of a good CRC that declares no power. -/
theorem witness_bad_records :
    let spoilt := recordBytes.set 1 1#8
    let body := (recordBytes.take 19).set 4 0#8 |>.set 5 0#8
    let noPower := body ++ be16 (crc16 body).toNat
    recordBytes.length = 21 ∧ announcing.fragmentCompletes 3 ([21#8, 1#8, 0#8] ++ spoilt) ∧ crcGood spoilt = false ∧
      announcing.fragmentCompletes 3 ([22#8, 1#8, 0#8] ++ recordBytes) ∧ recordBytes.length ≠ 22 ∧
      announcing.fragmentCompletes 3 ([21#8, 1#8, 0#8] ++ noPower) ∧ crcGood noPower = true ∧
      readRecord noPower = none ∧ announcing.addressedToPart part = true ∧ (announcing.context 3).rejects < 3 ∧
      (after (.announce 3 (toPart ([21#8, 1#8, 0#8] ++ noPower))) announcing).slot 3 =
        { announcing.slot 3 with
          state := .draining, drainCause := .fault, drainNext := .fault, faultCause := .badRecord } := by
  unfold State.fragmentCompletes
  decide +kernel

/-- Two addresses in the Station Table for slot 3, the second listed by slots 5 and 7 as CONFLICT. -/
def seeking : State :=
  let lists : InvRecord :=
    { vendor := 0, hwRev := 0, power := 60, generation := 1, model := [65#8], serial := [66#8], firmware := [],
      addrs := [⟨0x02#48, .conflict⟩], sensors := [] }
  ((((State.reset.updStation 0 fun _ => some ⟨0x01#48, 3⟩).updStation 1 fun _ => some ⟨0x02#48, 3⟩).updInv 5 fun v =>
    { v with record := some lists }).updInv 7 fun v => { v with record := some lists }).updSlot 7 fun r =>
      { r with state := .fault }

/-- Offerings of each answer, and a freed address that goes past the EMPTY slot 5 to slot 7. -/
theorem witness_stations :
    groupBit 0x010000000000#48 = true ∧ groupBit 0x02#48 = false ∧ seeking.holder 0x02#48 = some 3 ∧
      seeking.holder 0x03#48 = none ∧ seeking.station 2 = none ∧ seeking.seeks 0x02#48 5 = false ∧
      seeking.seeks 0x02#48 7 = true ∧ (∀ i, seeking.seeks 0x01#48 i = false) ∧
      seeking.seeks 0x01#48 3 = false ∧ seeking.seeks 0x02#48 3 = false ∧
      seeking.station 1 = some ⟨0x02#48, 3⟩ := by decide +kernel

/-- With the flag set: a reading of 86 leaves the slot cool under a limit of 90, the boundary of the release margin, and 87
does not; a frame of two readings; and an id no sensor has. -/
theorem witness_readings_flag_set :
    let c := (hot 95 (inState .online)).updThermal 3 fun r => { r with critical := true, grace := running }
    ((c.thermalOf 3).find 0).isSome = true ∧ (c.thermalOf 3).critical = true ∧ (c.thermalOf 3).find 1 = none ∧
      ((c.takeTelemetry 3 [1#8, 0#8, 86#8]).thermalOf 3).critical = false ∧
      ((c.takeTelemetry 3 [1#8, 0#8, 87#8]).thermalOf 3).critical = true ∧
      ((c.takeTelemetry 3 [2#8, 0#8, 87#8, 0#8, 86#8]).thermalOf 3).critical = false ∧
      (∀ id : SensorId, byte1 id.val = 9#8 → (c.thermalOf 3).find id = none) := by decide +kernel

/-- A snooped TELEMETRY frame to another station, and a REDIRECT and a SPREAD choice. -/
theorem witness_snoop_and_steer :
    let snoop := forwarding.updClassEntry 0 fun _ =>
      { classEntryPowerOn with valid := true, ports := 0xFFFFF#20, action := .forwardSnoop }
    let redirect (b : Bool) : State :=
      (forwarding.updUplink 2 fun u => { u with usable := b }).updClassEntry 0 fun _ =>
        { classEntryPowerOn with valid := true, ports := 0xFFFFF#20, action := .redirect, redirect := 2 }
    let spread := forwarding.updGroup 0 fun g => { g with mode := .spread, active := [0, 1, 3] }
    let bytes := withFcs (padTo 60
      (addrBytes 0x020000000099#48 ++ addrBytes 0x020000000701#48 ++ [0x88#8, 0xB6#8, 1#8, 8#8, 0#8, 0#8, 0#8, 3#8, 1#8]))
    ((receive bytes).map fun f =>
      !snoop.forPart f && actionOf (snoop.classifyFrame (slotPort 3) f) = .forwardSnoop && f.version = some 1#8 &&
        f.kind = some 8#8 && f.etherType = snoop.chassis.etherType &&
        (redirect true).steer 3 f ((redirect true).classifyFrame (slotPort 3) f) = some 2 &&
        (redirect false).steer 3 f ((redirect false).classifyFrame (slotPort 3) f) = none &&
        spread.steer 3 f none = some 1 && forwarding.classifyFrame (slotPort 3) f = none) = some true := by
  decide +kernel

/-- A link that comes up with a hold-down of 0, the uplink not usable and usable, and the egress port's. -/
theorem witness_links_at_once :
    let z : State := { State.reset with chassis := { State.reset.chassis with holdDown := 0 } }
    z.link 16 = false ∧ z.uplinkInRole 0 = true ∧ z.chassis.holdDown = 0 ∧ (z.uplink 0).usable = false ∧
      ((z.updUplink 0 fun _ => ⟨none, true⟩).uplink 0).usable = true ∧ z.noticeCfg.egress = 16 ∧
      ((after (.linkUp 16) z).group 0).active = [0] := by decide +kernel

/-- The payloads a RESPONSE echoes: none, a READ of two bytes, a COMMAND of four and of five. -/
theorem witness_echo :
    operationOf [1#8, 9#8] = some .read ∧ operationOf [3#8, 0#8, 5#8, 1#8] = some .command ∧ operationOf [] = none ∧
      operationOf [7#8] = none ∧ responsePayload [1#8, 9#8] .badLength [] = [1#8, 5#8, 9#8, 0#8, 0#8] ∧
      responsePayload [3#8, 0#8, 5#8, 0#8, 1#8] .badValue [] = [3#8, 6#8, 0#8, 5#8, 0#8, 1#8] := by decide +kernel

/-- Items at the ends of their ranges and beyond them: the last listed value passes and the next fails, and a clamped
number answers OK_CLAMPED. -/
theorem witness_items :
    let map (g : Byte) : List Byte := [g, 0#8, 0#8, 15#8, 0#8, 0#8, 1#8]
    let w := [2#8, 4#8, 0#8, 1#8] ++ be16 4001
    let off := [2#8, 8#8, 0#8, 1#8] ++ identityImage ⟨false, part, .control, 0xF0000#20⟩
    (readItem .uplinkMap (map 3#8)).isSome = true ∧ readItem .uplinkMap (map 4#8) = none ∧
      readItem .zone (List.replicate 6 255#8 ++ [1#8]) = some (.zone 1000 1000 1000 true) ∧
      readItem .zone (List.replicate 6 0#8 ++ [2#8]) = none ∧
      (readItem .groups [1#8, 4#8, 4#8, 4#8, 0#8, 0#8]) = some (.group .spread [4, 0]) ∧
      readItem .groups [1#8, 5#8, 0#8, 0#8, 0#8, 0#8] = none ∧ (readItem .groups [0#8, 1#8, 0#8, 9#8, 9#8, 9#8]).isSome = true ∧
      (State.reset.checkItems (ask w) .psu).map WriteJob.status = some .okClamped ∧
      (State.reset.checkItems (ask ([2#8, 4#8, 0#8, 1#8] ++ be16 4000)) .psu).map WriteJob.status = some .ok ∧
      State.reset.checkItems (ask off) .identity = none ∧
      ((readItem .chassis (chassisImage chassisPowerOn)).isSome && (readItem .slotPolicy (policyImage policyPowerOn)).isSome &&
        (readItem .classify (classifyImage classEntryPowerOn)).isSome &&
        (readItem .noticeCfg (noticeCfgImage noticeCfgPowerOn)).isSome) = true := by decide +kernel

/-- The settings after reset meet what the application clauses ask of a written policy and a written CHASSIS item. -/
theorem witness_items_applied :
    policyPowerOn.priority ≤ 7 ∧ 1 ≤ policyPowerOn.bootAllowance ∧ policyPowerOn.bootAllowance ≤ 1000 ∧
      policyPowerOn.bootAllowance ≤ policyPowerOn.capFloor ∧ policyPowerOn.capFloor ≤ 1000 ∧
      chassisPowerOn.overhead ≤ 2000 ∧ 500 ≤ chassisPowerOn.staleLimit ∧ chassisPowerOn.staleLimit ≤ 60000 ∧
      ([0, 1] : List UplinkId).Nodup ∧
      ((State.reset.applyItem 3 (.slotPolicy { policyPowerOn with adminEnable := false })).slot 3).state = .disabled := by
  decide +kernel

/-- An untagged service frame of a version and a kind, with its FCS (R165). -/
def serviceBytes (dst : Addr) (version kind : Byte) (payload : List Byte) : List Byte :=
  withFcs (padTo 60 (addrBytes dst ++ addrBytes 0x020000000701#48 ++ [0x88#8, 0xB6#8, version, kind]
    ++ be16 9 ++ be16 payload.length ++ payload))

/-- Version 1 frames for the part: each kind that is taken, by slot port and uplink port, to an identity and to broadcast,
a kind that is not, a TELEMETRY at a slot that is not ONLINE, and a frame that is for the part with a header too short. -/
theorem witness_part_frames :
    let for1 (dst : Addr) (kind : Byte) : Option Bool := (receive (serviceBytes dst 1#8 kind [1#8, 0#8, 50#8])).map fun f =>
      forwarding.forPart f && f.version = some 1#8 && f.kind = some kind && f.service.payload = [1#8, 0#8, 50#8]
    ([4#8, 7#8, 8#8, 1#8, 5#8].all fun k => for1 part k = some true) = true ∧
      for1 (BitVec.allOnes 48) 4#8 = some true ∧ for1 (BitVec.allOnes 48) 7#8 = some true ∧
      for1 (BitVec.allOnes 48) 8#8 = some false ∧ for1 (BitVec.allOnes 48) 1#8 = some false ∧
      (forwarding.slot 3).state = .online ∧ (announcing.slot 3).state ≠ .online ∧
      ((receive (withFcs (addrBytes part ++ addrBytes 0x020000000701#48 ++ [0x88#8, 0xB6#8, 1#8]))).map fun f =>
        forwarding.forPart f && f.body.length < 6 && f.version = none) = some true ∧
      forwarding.portRole = .slot ∧ ({ forwarding with portRole := .stack } : State).portRole = .stack ∧
      (forwarding.identity 0).ports.getLsbD (uplinkPort 2).val = true ∧
      (forwarding.identity 0).ports.getLsbD (slotPort 3).val = false := by decide +kernel

/-- A REQUEST frame on U2's port joins the queue, and one of the same bytes on slot 3's port does not; on port 15 it is
U4's frame in the STACK role, whichever row brings it. -/
theorem test_request_by_frame :
    let bytes := serviceBytes part 1#8 1#8 [1#8, 4#8, 0#8, 1#8]
    let stack : State := { State.reset.updIdentity 0 fun r => { r with ports := 0x08000#20 } with portRole := .stack }
    (after (.uplinkPortFrame 2 bytes) State.reset).requests.map Request.port = [18] ∧
      (after (.slotPortFrame 3 bytes) State.reset).requests = [] ∧
      (after (.slotPortFrame slot15 bytes) stack).requests.map Request.port = [15] ∧
      (after (.uplinkPortFrame uplink4 bytes) stack).requests.map Request.port = [15] := by decide +kernel

/-- A request loses its authority with each of the conditions of R167, a READ all but the access. -/
theorem witness_authority :
    let r := ask [1#8, 4#8, 0#8, 1#8]
    let s (f : Identity → Identity) : State := State.reset.updIdentity 0 f
    State.reset.authorised r .read = true ∧ State.reset.authorised r .write = true ∧
      (s fun d => { d with enabled := false }).authorised r .read = false ∧
      (s fun d => { d with addr := 0x02#48 }).authorised r .read = false ∧
      (s fun d => { d with ports := 0#20 }).authorised r .read = false ∧
      (s fun d => { d with access := .observe }).authorised r .read = true ∧
      (s fun d => { d with access := .observe }).authorised r .write = false ∧
      (s fun d => { d with access := .observe }).authorised r .command = false := by decide +kernel

/-- READ and WRITE payloads that fail each test of R171 in turn, at the ends of the ranges, and the last that pass. -/
theorem witness_run_checks :
    let check (l : List Byte) : Option Status := State.reset.checkRequest (ask l)
    check [] = some .badLength ∧ check [0#8] = some .badValue ∧ check [4#8, 0#8, 0#8, 1#8] = some .badValue ∧
      check [1#8, 16#8, 0#8] = some .badLength ∧ check [2#8] = some .badLength ∧
      (State.reset.updIdentity 0 fun d => { d with enabled := false }).checkRequest (ask [1#8, 16#8, 0#8, 1#8]) =
        some .denied ∧
      check [1#8, 16#8, 255#8, 0#8] = some .badSpace ∧ check [1#8, 15#8, 0#8, 1#8] = none ∧
      check [2#8, 9#8, 255#8, 0#8] = some .readOnly ∧ check [1#8, 4#8, 6#8, 0#8] = some .badIndex ∧
      check [1#8, 4#8, 5#8, 0#8] = some .badLength ∧ check [1#8, 4#8, 5#8, 7#8] = some .badLength ∧
      check [1#8, 4#8, 5#8, 6#8] = none ∧ check [1#8, 0#8, 63#8, 33#8] = some .badLength ∧
      check [1#8, 0#8, 63#8, 32#8] = none ∧ check [1#8, 10#8, 0#8, 9#8] = some .badLength ∧
      check [1#8, 10#8, 0#8, 8#8] = none ∧ check [2#8, 4#8, 0#8, 1#8, 0#8] = some .badLength ∧
      check [2#8, 4#8, 0#8, 1#8, 0#8, 0#8] = none := by decide +kernel

/-- One sensor goes stale while another of the slot stands at its limit, the flag set: flag and grace timer stand. -/
theorem witness_stale_beside_hot :
    let s := (inState .online).updThermal 3 fun _ =>
      ⟨[⟨⟨0, 40, 85, 90⟩, some ⟨95, 0⟩, .valid⟩, ⟨⟨1, 40, 85, 90⟩, some ⟨90, 0⟩, .valid⟩], true, running⟩
    let y : Sensor := ⟨⟨1, 40, 85, 90⟩, some ⟨90, 0⟩, .valid⟩
    (s.thermalOf 3).validSensor 0 = true ∧ y ∈ (s.thermalOf 3).sensors ∧ y.limits.id ≠ 0 ∧
      y.cool s.chassis.staleLimit = false ∧ s.chassis.staleLimit < 65535 ∧
      ((after (.sensorStale 3 0) s).thermalOf 3).critical = true ∧
      ((after (.sensorStale 3 0) s).thermalOf 3).grace = running := by decide +kernel

/-- Base drives (R117): a command of 0 with and without a stop, and commands on either side of the min drive. -/
theorem test_base_drive :
    baseDrive 0 true 200 = 0 ∧ baseDrive 0 false 200 = 200 ∧ baseDrive 199 true 200 = 200 ∧
      baseDrive 201 false 200 = 201 := by decide +kernel

/-- Section 9.8 with R146: in a GROUPS item a link state of up is 0 and of down is 1, a stopped hold-down 65535. -/
theorem test_link_code :
    (State.reset.readImage .groups 0).drop 11 = (List.replicate 5 [1#8, 255#8, 255#8, 0#8]).flatten ∧
      ((State.reset.updLink 16 fun _ => true).readImage .groups 0).getD 11 9#8 = 0#8 := by decide +kernel

/-- The window opened at 0 has a FIRST deadline due at 5000 and a whole deadline due at 15000 (R45, R54): neither is due at
4999, the first is at 5000, and with the pending deadline extended past it the whole is at 15000. -/
theorem witness_deadlines_due :
    let at_ (n : Nat) (s : State) : State := { s with clock := n }
    let extended := announcing.updContext 3 fun c => { c with pending := some ⟨.first, 15001⟩ }
    (announcing.context 3).pending = some ⟨.first, 5000⟩ ∧ (announcing.context 3).whole = some 15000 ∧
      (announcing.context 3).mode = .window ∧ (announcing.slot 3).state = .announcing ∧
      ((announcing.context 3).overdue 4999) = false ∧ ((announcing.context 3).overdue 5000) = true ∧
      ((extended.context 3).overdue 14999) = false ∧ ((extended.context 3).overdue 15000) = true ∧
      ((after (.announceDeadlineExpiry 3) (at_ 5000 announcing)).slot 3).faultCause = .announceTimeout := by
  decide +kernel

/-- R56: an extension taken at the due time moves the deadline, and the expiry that follows it does not occur. -/
theorem test_moved_deadline :
    let s : State := { announcing with clock := 5000 }
    let t := after (.waitExtend 3 (toPart [0#8, 1#8])) s
    after (.announceDeadlineExpiry 3) t = t ∧ (t.context 3).pending = some ⟨.first, 5001⟩ ∧
      ((after (.announceDeadlineExpiry 3) { t with clock := 5001 }).context 3).mode = .closed := by decide +kernel

end Sys2Proof.Tests
end

/-!
# Fan zones (chapter 6): the zone records of CONTROL_INTERVAL

Step 2 of a control interval reads the interlock, the slot policies and the presence of the fans, which no step of the
interval changes; the zone's own record, which only its own step 2 changes; and the fault states of the zone's two fans,
which only step 1 of the same zone changes. So the forced mark that a zone is given is still what R114 finds when the
whole interval is over.
-/

namespace Sys2Proof.Machine

/-- A projection of the state that is kept by every operation of a fold is kept by the fold. -/
theorem foldl_kept {α β : Type} (π : State → β) {f : State → α → State} {l : List α}
    (h : ∀ s, ∀ a ∈ l, π (f s a) = π s) : ∀ s, π (l.foldl f s) = π s := by
  induction l with
  | nil => exact fun _ => rfl
  | cons a l ih =>
    intro s
    have hhead : π (f s a) = π s := h s a List.mem_cons_self
    exact (ih (fun s b hb => h s b (List.mem_cons_of_mem a hb)) (f s a)).trans hhead

/-- The two fans of different zones are different fans. -/
theorem not_mem_zoneFans_of_ne {y z : ZoneId} (h : y ≠ z) : ∀ f ∈ zoneFans y, f ∉ zoneFans z := by
  revert y z
  decide

/-! ### One fan: what the check and the drive keep -/

@[simp] theorem Fan.checkOk_present (f : Fan) : f.checkOk.present = f.present := by
  unfold Fan.checkOk
  (repeat' split) <;> rfl

@[simp] theorem Fan.checkFaulted_present (f : Fan) : f.checkFaulted.present = f.present := by
  unfold Fan.checkFaulted
  (repeat' split) <;> rfl

@[simp] theorem Fan.check_present (f : Fan) : f.check.present = f.present := by
  unfold Fan.check
  (repeat' split) <;> simp [Fan.passOver]

@[simp] theorem Fan.load_present (f : Fan) (c : Nat) : (f.load c).present = f.present := by
  unfold Fan.load
  split <;> rfl

@[simp] theorem Fan.load_faulted (f : Fan) (c : Nat) : (f.load c).faulted = f.faulted := by
  unfold Fan.load
  split <;> rfl

@[simp] theorem Fan.start_applyDrive_present (f : Fan) (base : Nat) :
    (f.start.applyDrive base).present = f.present := by
  unfold Fan.applyDrive Fan.start
  (repeat' split) <;> rfl

@[simp] theorem Fan.start_applyDrive_faulted (f : Fan) (base : Nat) :
    (f.start.applyDrive base).faulted = f.faulted := by
  unfold Fan.applyDrive Fan.start
  (repeat' split) <;> rfl

@[simp] theorem Fan.driveStep_present (f : Fan) (base : Nat) : (f.driveStep base).present = f.present := by
  unfold Fan.driveStep
  split <;> simp [Fan.stopDrive]

@[simp] theorem Fan.driveStep_faulted (f : Fan) (base : Nat) : (f.driveStep base).faulted = f.faulted := by
  unfold Fan.driveStep
  split <;> simp [Fan.stopDrive]

/-! ### Steps 1 and 3 for one fan -/

/-- What step 2 of every zone reads and no step of an interval changes: the interlock, the slot policies and the
presence of the fans. -/
def State.intervalInputs (s : State) : Bool × Vector SlotPolicy 16 × (FanId → Bool) :=
  (s.interlock, s.policies, fun f => (s.fan f).present)

theorem State.intervalInputs_eq_iff {s t : State} :
    t.intervalInputs = s.intervalInputs ↔
      t.interlock = s.interlock ∧ t.policies = s.policies ∧ ∀ f, (t.fan f).present = (s.fan f).present := by
  simp [State.intervalInputs, funext_iff]

/-- The report of a fan raises at most one event after the change of the fan's record. -/
theorem State.reportFan_cases (s : State) (f : FanId) :
    s.reportFan f = s ∨ s.reportFan f = s.updFan f (fun r => r.report.check) ∨
      ∃ e, s.reportFan f = (s.updFan f fun r => r.report.check).raise e := by
  unfold State.reportFan
  split
  · simp only
    split
    · exact .inr (.inl rfl)
    · split <;> exact .inr (.inr ⟨_, rfl⟩)
  · exact .inl rfl

@[simp] theorem State.reportFan_zone (s : State) (f : FanId) (z : ZoneId) : (s.reportFan f).zone z = s.zone z := by
  obtain h | h | ⟨e, h⟩ := s.reportFan_cases f <;> simp [h]

theorem State.reportFan_fan_ne (s : State) {f g : FanId} (h : g ≠ f) : (s.reportFan f).fan g = s.fan g := by
  obtain k | k | ⟨e, k⟩ := s.reportFan_cases f <;> simp [k, State.updFan_fan_ne s _ h]

theorem State.updFan_intervalInputs (s : State) (f : FanId) {g : Fan → Fan}
    (h : ∀ r, (g r).present = r.present) : (s.updFan f g).intervalInputs = s.intervalInputs := by
  refine State.intervalInputs_eq_iff.2 ⟨rfl, rfl, fun j => ?_⟩
  rw [State.updFan_fan]
  split
  · next e => rw [h, e]
  · rfl

theorem State.reportFan_intervalInputs (s : State) (f : FanId) :
    (s.reportFan f).intervalInputs = s.intervalInputs := by
  have hupd : (s.updFan f fun r => r.report.check).intervalInputs = s.intervalInputs :=
    s.updFan_intervalInputs f fun r => by simp [Fan.report]
  obtain h | h | ⟨e, h⟩ := s.reportFan_cases f
  · rw [h]
  · rw [h, hupd]
  · rw [h, ← hupd]
    simp [State.intervalInputs]

@[simp] theorem State.driveFan_zone (s : State) (f : FanId) (z : ZoneId) : (s.driveFan f).zone z = s.zone z := by
  unfold State.driveFan
  split <;> simp

theorem State.driveFan_intervalInputs (s : State) (f : FanId) :
    (s.driveFan f).intervalInputs = s.intervalInputs := by
  unfold State.driveFan
  split
  · exact s.updFan_intervalInputs f fun r => r.driveStep_present _
  · rfl

theorem State.driveFan_faulted (s : State) (f g : FanId) : ((s.driveFan f).fan g).faulted = (s.fan g).faulted := by
  unfold State.driveFan
  split
  · rw [State.updFan_fan]
    split
    · next e => rw [Fan.driveStep_faulted, e]
    · rfl
  · rfl

/-! ### The forced mark and the target -/

theorem State.zoneForced_congr {s t : State} {z : ZoneId} (h : t.intervalInputs = s.intervalInputs)
    (hf : ∀ f ∈ zoneFans z, (t.fan f).faulted = (s.fan f).faulted) : t.zoneForced z = s.zoneForced z := by
  obtain ⟨hlock, -, hpresent⟩ := State.intervalInputs_eq_iff.1 h
  unfold State.zoneForced
  rw [hlock]
  congr 1
  rw [Bool.eq_iff_iff, List.any_eq_true, List.any_eq_true]
  exact exists_congr fun f => and_congr_right fun hmem => by rw [hpresent f, hf f hmem]

theorem State.zoneTarget_congr {s t : State} {z : ZoneId} (d : Vector Nat 16)
    (h : t.intervalInputs = s.intervalInputs) (hz : t.zone z = s.zone z) : t.zoneTarget d z = s.zoneTarget d z := by
  obtain ⟨-, hpolicies, -⟩ := State.intervalInputs_eq_iff.1 h
  simp only [State.zoneTarget, State.policy, hpolicies, hz]

theorem State.reportFan_zoneForced (s : State) {f : FanId} {z : ZoneId} (h : f ∉ zoneFans z) :
    (s.reportFan f).zoneForced z = s.zoneForced z :=
  State.zoneForced_congr (s.reportFan_intervalInputs f) fun g hg => by
    rw [s.reportFan_fan_ne (ne_of_mem_of_not_mem hg h)]

theorem State.driveFan_zoneForced (s : State) (f : FanId) (z : ZoneId) :
    (s.driveFan f).zoneForced z = s.zoneForced z :=
  State.zoneForced_congr (s.driveFan_intervalInputs f) fun g _ => s.driveFan_faulted f g

@[simp] theorem State.commandZone_zoneForced (s : State) (d : Vector Nat 16) (y z : ZoneId) :
    (s.commandZone d y).zoneForced z = s.zoneForced z := rfl

/-! ### The zone record -/

/-- The zone record that step 2 leaves, from the forced mark and the target. -/
def Zone.commanded (forced : Bool) (target : Nat) (r : Zone) : Zone :=
  { r with
    forced := forced
    target := target
    command := if forced then 1000 else max r.minDemand (r.slewed target) }

section commanded

variable (forced : Bool) (target : Nat) (r : Zone)

@[simp] theorem Zone.commanded_minDemand : (r.commanded forced target).minDemand = r.minDemand := rfl
@[simp] theorem Zone.commanded_slewUp : (r.commanded forced target).slewUp = r.slewUp := rfl
@[simp] theorem Zone.commanded_slewDown : (r.commanded forced target).slewDown = r.slewDown := rfl
@[simp] theorem Zone.commanded_stopAllowed : (r.commanded forced target).stopAllowed = r.stopAllowed := rfl
@[simp] theorem Zone.commanded_forced : (r.commanded forced target).forced = forced := rfl
@[simp] theorem Zone.commanded_target : (r.commanded forced target).target = target := rfl
@[simp] theorem Zone.commanded_command :
    (r.commanded forced target).command = if forced then 1000 else max r.minDemand (r.slewed target) := rfl

end commanded

theorem State.commandZone_zone_self (s : State) (d : Vector Nat 16) (z : ZoneId) :
    (s.commandZone d z).zone z = (s.zone z).commanded (s.zoneForced z) (s.zoneTarget d z) :=
  s.updZone_zone_self z _

theorem State.commandZone_zone_ne (s : State) (d : Vector Nat 16) {y z : ZoneId} (h : z ≠ y) :
    (s.commandZone d y).zone z = s.zone z :=
  s.updZone_zone_ne _ h

theorem State.commandZone_intervalInputs (s : State) (d : Vector Nat 16) (z : ZoneId) :
    (s.commandZone d z).intervalInputs = s.intervalInputs := rfl

theorem Zone.slewed_of_lt {r : Zone} {target : Nat} (h : r.command < target) :
    r.slewed target = min target (r.command + r.slewUp) := by
  simp [Zone.slewed, h]

theorem Zone.slewed_of_gt {r : Zone} {target : Nat} (h : target < r.command) :
    r.slewed target = max target (r.command - r.slewDown) := by
  simp [Zone.slewed, h, Nat.lt_asymm h]

theorem Zone.slewed_of_eq {r : Zone} {target : Nat} (h : target = r.command) : r.slewed target = r.command := by
  simp [Zone.slewed, h]

/-! ### One zone's interval -/

theorem State.intervalZone_intervalInputs (d : Vector Nat 16) (s : State) (z : ZoneId) :
    (State.intervalZone d s z).intervalInputs = s.intervalInputs := by
  unfold State.intervalZone
  rw [foldl_kept State.intervalInputs fun s f _ => s.driveFan_intervalInputs f, State.commandZone_intervalInputs,
    foldl_kept State.intervalInputs fun s f _ => s.reportFan_intervalInputs f]

/-- Between step 2 and the end of the zone's interval its drives leave the forced mark's inputs as they are, so the mark
can be read off the state that the interval of the zone leaves. -/
theorem State.intervalZone_zone_self (d : Vector Nat 16) (s : State) (z : ZoneId) :
    (State.intervalZone d s z).zone z =
      (s.zone z).commanded ((State.intervalZone d s z).zoneForced z) (s.zoneTarget d z) := by
  let t := (zoneFans z).foldl State.reportFan s
  have hinputs : t.intervalInputs = s.intervalInputs :=
    foldl_kept State.intervalInputs (fun s f _ => s.reportFan_intervalInputs f) s
  have hzone : t.zone z = s.zone z := foldl_kept (·.zone z) (fun s f _ => s.reportFan_zone f z) s
  have hforced : (State.intervalZone d s z).zoneForced z = t.zoneForced z :=
    foldl_kept (·.zoneForced z) (fun s f _ => s.driveFan_zoneForced f z) (t.commandZone d z)
  calc (State.intervalZone d s z).zone z
      = (t.commandZone d z).zone z := foldl_kept (·.zone z) (fun s f _ => s.driveFan_zone f z) _
    _ = (t.zone z).commanded (t.zoneForced z) (t.zoneTarget d z) := t.commandZone_zone_self d z
    _ = _ := by rw [hzone, hforced, State.zoneTarget_congr d hinputs hzone]

theorem State.intervalZone_zone_ne (d : Vector Nat 16) (s : State) {y z : ZoneId} (h : y ≠ z) :
    (State.intervalZone d s y).zone z = s.zone z := by
  unfold State.intervalZone
  rw [foldl_kept (·.zone z) fun s f _ => s.driveFan_zone f z, State.commandZone_zone_ne _ d h.symm,
    foldl_kept (·.zone z) fun s f _ => s.reportFan_zone f z]

theorem State.intervalZone_zoneForced_ne (d : Vector Nat 16) (s : State) {y z : ZoneId} (h : y ≠ z) :
    (State.intervalZone d s y).zoneForced z = s.zoneForced z := by
  unfold State.intervalZone
  rw [foldl_kept (·.zoneForced z) fun s f _ => s.driveFan_zoneForced f z, State.commandZone_zoneForced,
    foldl_kept (·.zoneForced z) fun s f hf => s.reportFan_zoneForced (not_mem_zoneFans_of_ne h f hf)]

/-! ### The control interval -/

/-- The state that CONTROL_INTERVAL leaves (R113). -/
def State.afterInterval (s : State) : State := (List.finRange 3).foldl (State.intervalZone s.demands) s

theorem exec_controlInterval (s : State) : exec .controlInterval s = .next s.afterInterval := rfl

theorem State.afterInterval_intervalInputs (s : State) : s.afterInterval.intervalInputs = s.intervalInputs :=
  foldl_kept State.intervalInputs (fun t z _ => State.intervalZone_intervalInputs s.demands t z) s

/-- The zones before z leave what step 2 of z reads, and the zones after z leave what it wrote and found. -/
theorem State.afterInterval_zone (s : State) (z : ZoneId) :
    s.afterInterval.zone z = (s.zone z).commanded (s.afterInterval.zoneForced z) (s.zoneTarget s.demands z) := by
  obtain ⟨before, after, hsplit⟩ := List.append_of_mem (List.mem_finRange z)
  have hnodup : (before ++ z :: after).Nodup := hsplit ▸ List.nodup_finRange 3
  have hbefore : ∀ y ∈ before, y ≠ z := fun y hy e => by
    subst e
    exact (List.nodup_append.1 hnodup).2.2 y hy y List.mem_cons_self rfl
  have hafter : ∀ y ∈ after, y ≠ z := fun y hy e => by
    subst e
    exact (List.nodup_cons.1 hnodup.of_append_right).1 hy
  let d := s.demands
  let t := before.foldl (State.intervalZone d) s
  let u := State.intervalZone d t z
  have hfinal : s.afterInterval = after.foldl (State.intervalZone d) u := by
    rw [State.afterInterval, hsplit, List.foldl_append, List.foldl_cons]
  have hinputs : t.intervalInputs = s.intervalInputs :=
    foldl_kept State.intervalInputs (fun s y _ => State.intervalZone_intervalInputs d s y) s
  have hzone : t.zone z = s.zone z :=
    foldl_kept (·.zone z) (fun s y hy => State.intervalZone_zone_ne d s (hbefore y hy)) s
  have hforced : s.afterInterval.zoneForced z = u.zoneForced z := hfinal ▸
    foldl_kept (·.zoneForced z) (fun s y hy => State.intervalZone_zoneForced_ne d s (hafter y hy)) u
  calc s.afterInterval.zone z
      = u.zone z := hfinal ▸ foldl_kept (·.zone z) (fun s y hy => State.intervalZone_zone_ne d s (hafter y hy)) u
    _ = (t.zone z).commanded (u.zoneForced z) (t.zoneTarget d z) := State.intervalZone_zone_self d t z
    _ = _ := by rw [hzone, hforced, State.zoneTarget_congr d hinputs hzone]

/-- R114 at the end of the interval: interlock and presence as they were before it, fault states as step 1 left them. -/
theorem State.afterInterval_zoneForced (s : State) (z : ZoneId) :
    s.afterInterval.zoneForced z =
      (s.interlock || (zoneFans z).any fun f => !(s.fan f).present || (s.afterInterval.fan f).faulted) := by
  obtain ⟨hlock, -, hpresent⟩ := State.intervalInputs_eq_iff.1 s.afterInterval_intervalInputs
  simp only [State.zoneForced, hlock, hpresent]

/-! ### Contributions (R115) -/

theorem State.zoneTarget_demands (s : State) (z : ZoneId) :
    s.zoneTarget s.demands z =
      (allSlots.map fun i => s.slotDemand i * Tab.get (s.policy i).weights z / 8).foldl max (s.zone z).minDemand := by
  simp only [State.zoneTarget, State.demands, Tab.get_make, contribution]

theorem State.slotDemand_of_not_powered {s : State} {i : SlotId} (h : (s.slot i).state.powered = false) :
    s.slotDemand i = 0 := by
  unfold State.slotDemand
  cases hstate : (s.slot i).state <;> simp_all [SlotState.powered]

/-! ### The statement -/

/-- Settles O35: the records are `Zone.commanded` of the old ones, and the clauses are its fields, case by case. -/
theorem intervalSetsZoneCommand : Obligations.IntervalSetsZoneCommand := by
  unfold Obligations.IntervalSetsZoneCommand
  intro s
  refine ⟨s.afterInterval, exec_controlInterval s, fun z => ?_⟩
  rw [← s.afterInterval_zoneForced z, ← s.zoneTarget_demands z, s.afterInterval_zone z]
  simp only [Zone.commanded_minDemand, Zone.commanded_slewUp, Zone.commanded_slewDown, Zone.commanded_stopAllowed,
    Zone.commanded_forced, Zone.commanded_target, Zone.commanded_command, true_and]
  refine ⟨fun i hd hw => ?bounds, fun i hoff => ?unpowered, fun hforced => ?forced,
    fun hfree => ⟨fun hlt => ?rising, fun hgt => ?falling, fun heq => ?level⟩⟩
  case bounds =>
    have hproduct : s.slotDemand i * Tab.get (s.policy i).weights z ≤ 1000 * 8 := Nat.mul_le_mul hd hw
    exact ⟨hproduct, Nat.div_le_of_le_mul hproduct⟩
  case unpowered => simp [State.slotDemand_of_not_powered hoff]
  case forced => simp [hforced]
  case rising => simp [hfree, Zone.slewed_of_lt hlt]
  case falling => simp [hfree, Zone.slewed_of_gt hgt]
  case level => simp [hfree, Zone.slewed_of_eq heq]

end Sys2Proof.Machine

/-!
# Slot Meters (chapter 8): BUCKET_DEPTH_WRITE and the refill after it

The write changes two records of the slot, the depth in its uplink map entry and the tokens in its meter, where
`Meter.limit` keeps both codes. EPOCH reads the depth of the map entry, so the write reaches the next refill through
`State.setDepth_map`.
-/

namespace Sys2Proof.Machine

/-! ### The write (R163) -/

theorem clamp_of_inRange {lo hi v : Nat} (hlo : lo ≤ v) (hhi : v ≤ hi) : clamp lo hi v = v := by
  simp [clamp, hlo, hhi]

theorem exec_bucketDepthWrite_of_inRange (s : State) (i : SlotId) {kib : Nat} (hlo : 1 ≤ kib) (hhi : kib ≤ 256) :
    exec (.bucketDepthWrite i kib) s = .next (s.setDepth i kib) :=
  congrArg (fun n => Host.Outcome.next (s.setDepth i n)) (clamp_of_inRange hlo hhi)

theorem Meter.limit_of_lt {depth : Nat} {m : Meter} (h : depth < m.tokens) :
    m.limit depth = { m with tokens := depth } := by
  simp [Meter.limit, Nat.min_eq_right h.le]

theorem Meter.limit_of_le {depth : Nat} {m : Meter} (h : m.tokens ≤ depth) : m.limit depth = m := by
  simp [Meter.limit, Nat.min_eq_left h]

theorem State.setDepth_frame (s : State) (i : SlotId) (kib : Nat) :
    s.setDepth i kib = { s with uplinkMap := (s.setDepth i kib).uplinkMap, meters := (s.setDepth i kib).meters } := rfl

theorem State.setDepth_map (s : State) (i j : SlotId) (kib : Nat) :
    (s.setDepth i kib).map j = if j = i then { s.map i with depth := kib } else s.map j := by
  simp [State.setDepth, State.updMap_map]

@[simp] theorem State.setDepth_depthBytes_self (s : State) (i : SlotId) (kib : Nat) :
    ((s.setDepth i kib).map i).depthBytes = 1024 * kib := by
  simp [State.setDepth_map, UplinkMap.depthBytes]

@[simp] theorem State.setDepth_meter_self (s : State) (i : SlotId) (kib : Nat) :
    (s.setDepth i kib).meter i = (s.meter i).limit (1024 * kib) := by
  simp [State.setDepth]

theorem State.setDepth_meter_ne (s : State) {i j : SlotId} (kib : Nat) (h : j ≠ i) :
    (s.setDepth i kib).meter j = s.meter j := by
  simp [State.setDepth, State.updMeter_meter_ne _ _ h]

/-! ### The refill (R162) -/

/-- The state that EPOCH leaves (R162). -/
def State.afterEpoch (s : State) : State :=
  { s with
    clock := s.clock + 1
    meters := Tab.each (fun i m => m.epoch (s.map i).depthBytes) s.meters
    thermal := Tab.each (fun _ r => r.older) s.thermal }

theorem exec_epoch (s : State) : exec .epoch s = .next s.afterEpoch := rfl

@[simp] theorem State.afterEpoch_meter (s : State) (i : SlotId) :
    s.afterEpoch.meter i = (s.meter i).epoch (s.map i).depthBytes :=
  Tab.get_each _ _ i

theorem Meter.epoch_tokens_of_no_pending {m : Meter} (depth : Nat) (h : m.pending = none) :
    (m.epoch depth).tokens = refill m.effective depth m.tokens := by
  simp [Meter.epoch, h]

theorem refill_of_unlimited (depth tokens : Nat) : refill 0 depth tokens = depth := rfl

theorem refill_of_metered {code : RateCode} (depth tokens : Nat) (hfree : code ≠ 0) (hclosed : code ≠ 15) :
    refill code depth tokens = min depth (tokens + refillBytes code) := by
  simp [refill, hfree, hclosed]

/-- With no pending code, the epoch after a depth write refills to the depth that was written. -/
theorem State.setDepth_afterEpoch_tokens (s : State) (i : SlotId) (kib : Nat)
    (h : ((s.setDepth i kib).meter i).pending = none) :
    ((s.setDepth i kib).afterEpoch.meter i).tokens =
      refill ((s.setDepth i kib).meter i).effective (1024 * kib) ((s.setDepth i kib).meter i).tokens := by
  rw [State.afterEpoch_meter, State.setDepth_depthBytes_self, Meter.epoch_tokens_of_no_pending _ h]

/-! ### The statement -/

/-- Settles O29: the record after the write is `Meter.limit` of the old one, case by case, and the epoch after it is a
`refill` to the written depth. -/
theorem depthWriteLimitsTokens : Obligations.DepthWriteLimitsTokens := by
  unfold Obligations.DepthWriteLimitsTokens
  intro s i kib hlo hhi
  refine ⟨s.setDepth i kib, exec_bucketDepthWrite_of_inRange s i hlo hhi, s.setDepth_frame i kib,
    fun j => s.setDepth_map i j kib, fun j hj => s.setDepth_meter_ne kib hj, fun habove => ?lowered,
    fun hbelow => ?stands, fun hpending => ⟨_, exec_epoch _, ?refills⟩⟩
  case lowered => rw [State.setDepth_meter_self, Meter.limit_of_lt habove]
  case stands => rw [State.setDepth_meter_self, Meter.limit_of_le hbelow]
  case refills =>
    rw [s.setDepth_afterEpoch_tokens i kib hpending]
    refine ⟨fun hfree => ?_, fun hfree hclosed => ?_⟩
    · rw [hfree, refill_of_unlimited]
    · exact refill_of_metered _ _ hfree hclosed

end Sys2Proof.Machine

/-!
# Laws that every step keeps

The laws of O54 to O56, O58 and O59 are each kept by the elementary changes the units make to their records, some of them
under a condition the model tests before it makes the change. `KeptByUnits` lists those changes with their conditions, and
the lemmas after it carry a law through every operation of the units, once for all laws; `KeptByStep` adds the Service Unit
and the power-on reset. A law is a step invariant as soon as it is shown to be `KeptByStep`.
-/

namespace Sys2Proof.Machine

/-! ### The elementary changes -/

/-- What a law may lack in the middle of a handling: the slots whose capped mark is still to be re-evaluated (R76), and
C_avail as it was before a change that a capacity recomputation is to follow (R74). -/
structure Owed where
  marks : Set SlotId
  capacity : Option Nat

/-- Nothing is owed between two commands. -/
def Owed.nothing : Owed := ⟨∅, none⟩

/-- A slot's capped mark is owed. -/
def Owed.mark (k : Owed) (i : SlotId) : Owed := { k with marks := insert i k.marks }

/-- What a grant takes of C_avail: nothing while it is releasing (R77). -/
def Grant.held (g : Grant) : Nat := if g.releasing then 0 else g.grant

/-- The slot's grant record may become g: the mark stands, and the grant does not grow but within the headroom. -/
structure State.Affords (s : State) (i : SlotId) (g : Grant) : Prop where
  capped : g.capped = (s.grantOf i).capped
  held : g.held ≤ (s.grantOf i).held ∨ (g.held : Int) - ((s.grantOf i).held : Int) ≤ s.headroom

/-- The rail record may become r': the law of R28 and the power-cap line stand, and main enable is not asserted while the
interlock is. -/
structure Rail.Follows (interlock : Bool) (r r' : Rail) : Prop where
  lawful : r.lawful → r'.lawful
  main : interlock = true → r.mainEnable = false → r'.mainEnable = false
  powerCap : r'.powerCap = r.powerCap

@[simp] theorem Owed.mark_mark (k : Owed) (i : SlotId) : (k.mark i).mark i = k.mark i := by
  simp [Owed.mark]

theorem Grant.held_le_grant (g : Grant) : g.held ≤ g.grant := by
  unfold Grant.held
  split <;> omega

@[simp] theorem State.liftThermalCap_grant (s : State) (i : SlotId) :
    ((s.liftThermalCap i).grantOf i).grant = (s.grantOf i).grant := by
  unfold State.liftThermalCap
  split <;> simp

/-! ### Admission sequences -/

theorem State.renumberAdmissions_frame (s : State) :
    s.renumberAdmissions = { s with
      slots := s.renumberAdmissions.slots, grants := s.renumberAdmissions.grants,
      admissionCounter := s.renumberAdmissions.admissionCounter } := by
  unfold State.renumberAdmissions
  split <;> rfl

@[simp] theorem State.renumberAdmissions_grantOf (s : State) (j : SlotId) :
    ∃ a, s.renumberAdmissions.grantOf j = { s.grantOf j with admission := a } := by
  unfold State.renumberAdmissions
  split
  · exact ⟨(s.grantOf j).admission, rfl⟩
  · refine ⟨s.admissionRank j, ?_⟩
    simp only [State.grantOf, Tab.get_each]

theorem State.numberAdmission_frame (s : State) (i : SlotId) :
    s.numberAdmission i = { s with
      slots := (s.numberAdmission i).slots, grants := (s.numberAdmission i).grants,
      admissionCounter := (s.numberAdmission i).admissionCounter } := by
  unfold State.numberAdmission State.renumberAdmissions
  split <;> rfl

theorem State.numberAdmission_grants (s : State) (i : SlotId) :
    (s.numberAdmission i).grants =
      Tab.upd s.renumberAdmissions.grants i fun g =>
        { g with admission := s.renumberAdmissions.admissionCounter + 1 } := rfl

/-- A new admission sequence changes a grant record in its admission sequence alone. -/
theorem State.numberAdmission_grantOf (s : State) (i j : SlotId) :
    ∃ a, (s.numberAdmission i).grantOf j = { s.grantOf j with admission := a } := by
  obtain ⟨a, ha⟩ := s.renumberAdmissions_grantOf j
  simp only [State.grantOf] at ha
  by_cases hj : j = i
  · subst hj
    exact ⟨_, by rw [State.grantOf, State.numberAdmission_grants, Tab.get_upd_self, ha]; rfl⟩
  · exact ⟨a, by rw [State.grantOf, State.numberAdmission_grants, Tab.get_upd_ne _ _ hj, ha]; rfl⟩

/-! ### Rail records that follow one another -/

section Follows

variable (v : RailEnv) (r : Rail)

theorem Rail.rampUp_follows : r.Follows v.interlock (r.rampUp v).1 := by
  constructor <;>
    simp only [Rail.rampUp, Rail.assertMain, Rail.seePowerGood, Rail.startResetHold, Rail.releaseReset, Rail.lawful] <;>
    (repeat' split) <;> simp_all

theorem Rail.rampDown_follows (c : DrainCause) : r.Follows v.interlock (r.rampDown v c) := by
  constructor <;>
    simp only [Rail.rampDown, Rail.releaseMain, Rail.assertDischarge, RailEnv.timer, Rail.lawful] <;>
    (repeat' split) <;> simp_all

theorem Rail.resetPulse_follows : r.Follows v.interlock (r.resetPulse v).1 := by
  constructor <;>
    simp only [Rail.resetPulse, Rail.startResetHold, Rail.releaseReset, Rail.lawful] <;>
    (repeat' split) <;> simp_all

theorem Rail.deadExpiry_follows : r.Follows v.interlock (r.deadExpiry v).1 := by
  constructor <;>
    simp only [Rail.deadExpiry, Rail.assertMain, Rail.assertDischarge, Rail.seePowerGood, Rail.startResetHold,
      Rail.releaseReset, Rail.lawful, RailEnv.timer] <;>
    (repeat' split) <;> simp_all

theorem Rail.powerGoodRise_follows (b : Bool) : r.Follows b (r.powerGoodRise v).1 := by
  constructor <;>
    simp only [Rail.powerGoodRise, Rail.seePowerGood, Rail.startResetHold, Rail.releaseReset, Rail.lawful] <;>
    (repeat' split) <;> simp_all

theorem Rail.powerGoodFall_follows (b : Bool) : r.Follows b r.powerGoodFall.1 := by
  constructor <;> simp only [Rail.powerGoodFall, Rail.lawful] <;> (repeat' split) <;> simp_all

theorem Rail.powerGoodExpiry_follows (b : Bool) : r.Follows b r.powerGoodExpiry.1 := by
  constructor <;> simp only [Rail.powerGoodExpiry, Rail.lawful] <;> (repeat' split) <;> simp_all

theorem Rail.resetExpiry_follows (b : Bool) : r.Follows b r.resetExpiry.1 := by
  constructor <;> simp only [Rail.resetExpiry, Rail.releaseReset, Rail.lawful] <;> (repeat' split) <;> grind

theorem Rail.dischargeExpiry_follows (b : Bool) : r.Follows b (r.dischargeExpiry v).1 := by
  constructor <;> simp only [Rail.dischargeExpiry, Rail.lawful] <;> (repeat' split) <;> grind

end Follows

/-- The changes to uplinks, groups, links and the port role keep the law. -/
structure KeptByUplinks (P : Owed → State → Prop) : Prop where
  takeStackRole : ∀ {k s}, s.portRole = .slot → P k s → P k s.takeStackRole
  takeSlotRole : ∀ {k s}, P k s → P k s.takeSlotRole
  linkRise : ∀ {k s} p, s.link p = false → P k s → P k (s.linkRise p)
  linkFall : ∀ {k s} p, P k s → P k (s.linkFall p)
  holdDownExpiry : ∀ {k s} u, P k s →
    P k (if (s.uplink u).holdDown.isSome then (s.updUplink u fun r => { r with holdDown := none }).setUsable u true else s)
  groupMode : ∀ {k s} g m, P k s → P k (s.updGroup g fun r => { r with mode := m })
  setMembers : ∀ {k s} g l, P k s → P k (s.setMembers g l)

/-- The changes to the Station Table keep the law. -/
structure KeptByStations (P : Owed → State → Prop) : Prop where
  removeStation : ∀ {k s} n e, s.station n = some e → P k s → P k (s.removeStation n e)
  offer : ∀ {k s} i pos a, P k s → P k (s.offer i pos a)

/-- The changes on the notice side keep the law. -/
structure KeptByNotices (P : Owed → State → Prop) : Prop where
  transmit : ∀ {k s} p c l, P k s → P k (s.transmit p c l)
  raise : ∀ {k s} e, P k s → P k (s.raise e)
  attemptSend : ∀ {k s}, P k s → P k s.attemptSend
  spacing : ∀ {k s} t, P k s → P k { s with spacing := t }
  setNoticeCfg : ∀ {k s} c, P k s → P k (s.setNoticeCfg c)
  dropNotices : ∀ {k s}, P k s → P k { s with notices := [] }

/-- The state t is s but for records that none of the laws reads. -/
def State.LawlessOf (s t : State) : Prop :=
  t = { s with
    clock := t.clock, slots := t.slots, policies := t.policies, contexts := t.contexts, inventory := t.inventory,
    powerQueue := t.powerQueue, queueCounter := t.queueCounter, thermal := t.thermal, zones := t.zones,
    gateDrops := t.gateDrops, classify := t.classify, identities := t.identities, warmHeld := t.warmHeld,
    pending := t.pending }

/-- The elementary changes of all units but the Service Unit keep the law. -/
structure KeptByUnits (P : Owed → State → Prop) : Prop
    extends KeptByUplinks P, KeptByStations P, KeptByNotices P where
  lawless : ∀ {k s t}, s.LawlessOf t → P k s → P k t
  admissions : ∀ {k s} t n, (∀ i, ∃ a, Tab.get t i = { s.grantOf i with admission := a }) → P k s →
    P k { s with grants := t, admissionCounter := n }
  meters : ∀ {k s} t m, (s.tokensHeld → State.tokensHeld { s with meters := t, uplinkMap := m }) → P k s →
    P k { s with meters := t, uplinkMap := m }
  setRail : ∀ {k s} i r, (s.rail i).Follows s.interlock r → P k s → P k (s.setRail i r)
  interlock : ∀ {k s} v, P k s →
    P k { s with interlock := true, rails := Tab.each (fun _ r => Rail.interlock v r) s.rails }
  interlockOff : ∀ {k s}, P k s → P k { s with interlock := false }
  updGrant : ∀ {k s} i f, s.Affords i (f (s.grantOf i)) → P k s → P (k.mark i) (s.updGrant i f)
  releasing : ∀ {k s} i, P k s → P k (s.updGrant i fun g => { g with releasing := true })
  remark : ∀ {k s} i, P (k.mark i) s → P k (s.remark i)
  supplies : ∀ {k s} p f c, State.cAvail { s with psus := p, fans := f, chassis := c } = s.cAvail → P k s →
    P k { s with psus := p, fans := f, chassis := c }
  owe : ∀ {s} p f c, P .nothing s → P ⟨∅, some s.cAvail⟩ { s with psus := p, fans := f, chassis := c }
  settled : ∀ {X s} c, s.cAvail = c ∨ 0 ≤ s.headroom → P ⟨X, some c⟩ s → P ⟨X, none⟩ s

namespace KeptByUnits

section

variable {P : Owed → State → Prop} (h : KeptByUnits P) {k : Owed} {s : State}

include h

/-! ### One record -/

theorem slots (t : Vector Slot 16) (hs : P k s) : P k { s with slots := t } := h.lawless rfl hs

theorem queue (q : List PowerEntry) (n : Nat) (hs : P k s) : P k { s with powerQueue := q, queueCounter := n } :=
  h.lawless rfl hs

theorem updSlot (i : SlotId) (f : Slot → Slot) (hs : P k s) : P k (s.updSlot i f) := h.slots _ hs

theorem updPolicy (i : SlotId) (f : SlotPolicy → SlotPolicy) (hs : P k s) : P k (s.updPolicy i f) := h.lawless rfl hs

theorem updContext (i : SlotId) (f : Context → Context) (hs : P k s) : P k (s.updContext i f) := h.lawless rfl hs

theorem updInv (i : SlotId) (f : Inventory → Inventory) (hs : P k s) : P k (s.updInv i f) := h.lawless rfl hs

theorem updThermal (i : SlotId) (f : ThermalRecord → ThermalRecord) (hs : P k s) : P k (s.updThermal i f) :=
  h.lawless rfl hs

theorem updMeter (i : SlotId) (f : Meter → Meter)
    (hf : (s.meter i).tokens ≤ (s.map i).depthBytes → (f (s.meter i)).tokens ≤ (s.map i).depthBytes) (hs : P k s) :
    P k (s.updMeter i f) := by
  refine h.meters (s := s) (Tab.upd s.meters i f) s.uplinkMap (fun ht j => ?_) hs
  change ((s.updMeter i f).meter j).tokens ≤ (s.map j).depthBytes
  rw [State.updMeter_meter]
  split
  · next e => subst e; exact hf (ht j)
  · exact ht j

omit h in
theorem foldl {α : Type} (f : State → α → State) (l : List α) (hf : ∀ s, ∀ a ∈ l, P k s → P k (f s a)) :
    ∀ {s}, P k s → P k (l.foldl f s) := by
  induction l with
  | nil => exact fun hs => hs
  | cons a l ih =>
    exact fun hs => ih (fun s b hb => hf s b (List.mem_cons_of_mem a hb)) (hf _ a List.mem_cons_self hs)

/-! ### The slot's state and the reports that carry it upward -/

theorem setSlotState (i : SlotId) (st : SlotState) (hs : P k s) : P k (s.setSlotState i st) := h.updSlot i _ hs

theorem enter (i : SlotId) (st : SlotState) (hs : P k s) : P k (s.enter i st) := h.raise _ (h.setSlotState i st hs)

theorem takeReport (i : SlotId) (r : RailReport) (hs : P k s) : P k (s.takeReport i r) := by
  cases r with
  | powerGoodSeen => unfold State.takeReport; dsimp only; split; exacts [h.setSlotState i _ hs, hs]
  | resetReleased => unfold State.takeReport; dsimp only; split; exacts [h.updContext i _ (h.setSlotState i _ hs), hs]
  | powerGoodTimeout => exact hs
  | powerLost => exact hs
  | rampDownComplete => exact hs

theorem takeReports (i : SlotId) (l : List RailReport) (hs : P k s) : P k (s.takeReports i l) :=
  foldl _ l (fun _ r _ ht => h.takeReport i r ht) hs

/-! ### The Power Request Queue and the arbiter -/

theorem mono (i : SlotId) (hs : P k s) : P (k.mark i) s := by
  have hself : s.updGrant i (fun g => g) = s := by
    unfold State.updGrant
    rw [show Tab.upd s.grants i (fun g => g) = s.grants from Tab.ext_get fun j => by rw [Tab.get_upd]; split <;> simp_all]
  have := h.updGrant i (fun g => g) ⟨rfl, .inl le_rfl⟩ hs
  rwa [hself] at this

theorem remark' (i : SlotId) (hs : P k s) : P k (s.remark i) := h.remark i (h.mono i hs)

theorem enqueue (i : SlotId) (e : EntryKind) (hs : P k s) : P k (s.enqueue i e) := by
  unfold State.enqueue State.renumberQueue
  split
  · exact hs
  · split
    · exact h.queue _ _ hs
    · exact h.queue _ _ (h.queue _ _ hs)

theorem dequeue (i : SlotId) (e : EntryKind) (hs : P k s) : P k (s.dequeue i e) := h.queue _ s.queueCounter hs

theorem numberAdmission (i : SlotId) (hs : P k s) : P k (s.numberAdmission i) := by
  rw [State.numberAdmission_frame]
  exact h.slots (s := { s with
    grants := (s.numberAdmission i).grants, admissionCounter := (s.numberAdmission i).admissionCounter }) _
    (h.admissions _ _ (State.numberAdmission_grantOf s i) hs)

theorem startRamp (i : SlotId) (hs : P k s) : P k (s.startRamp i) :=
  h.raise _ (h.takeReports i _ (h.setSlotState i _ (h.setRail i _ (Rail.rampUp_follows s.railEnv _) hs)))

theorem admitBoot (i : SlotId) (hfit : ((s.policy i).bootAllowance : Int) ≤ s.headroom) (hs : P k s) :
    P k (s.admitBoot i) := by
  refine h.startRamp i (h.remark i (h.dequeue i _ (h.numberAdmission i (h.updGrant i _ ⟨rfl, .inr ?_⟩ hs))))
  have := Grant.held_le_grant { s.grantOf i with grant := (s.policy i).bootAllowance, target := (s.policy i).bootAllowance }
  dsimp only at this
  omega

theorem upgrade (i : SlotId)
    (hfit : ((s.grantOf i).target : Int) - ((s.grantOf i).grant : Int) ≤ s.headroom) (hs : P k s) :
    P k (s.upgrade i) := by
  refine h.remark i (h.dequeue i _ (h.updGrant i _ ⟨rfl, ?_⟩ hs))
  by_cases hr : (s.grantOf i).releasing = true
  · exact .inl (by simp [Grant.held, hr])
  · exact .inr (by simp [Grant.held, hr, hfit])

theorem partialStep (i : SlotId) (hs : P k s) : P k (s.partialStep i) := by
  unfold State.partialStep
  split
  · next hfit =>
    simp only [Bool.and_eq_true, decide_eq_true_eq] at hfit
    refine h.remark i (h.updGrant i _ ⟨rfl, ?_⟩ hs)
    by_cases hr : (s.grantOf i).releasing = true
    · exact .inl (by simp [Grant.held, hr])
    · exact .inr (by simp [Grant.held, hr, hfit.2])
  · exact hs

theorem serve (e : PowerEntry) (hfit : s.fits e = true) (hs : P k s) : P k (s.serve e) := by
  unfold State.fits at hfit
  unfold State.serve
  cases hk : e.kind with
  | boot => exact h.admitBoot e.slot (by simpa [hk] using hfit) hs
  | upgrade => exact h.upgrade e.slot (by simpa [hk] using hfit) hs

theorem stopAt (e : PowerEntry) (hs : P k s) : P k (s.stopAt e) := by
  unfold State.stopAt
  cases e.kind with
  | boot => exact hs
  | upgrade => exact h.partialStep e.slot hs

theorem arbiterLoop (n : Nat) : ∀ {s : State}, P k s → P k (Machine.arbiterLoop n s) := by
  induction n with
  | zero => exact fun hs => hs
  | succ n ih =>
    intro s hs
    unfold Machine.arbiterLoop
    split
    · exact hs
    · next e _ _ =>
      split
      · next hfit => exact ih (h.serve e hfit hs)
      · exact h.stopAt e hs

theorem arbiter (hs : P k s) : P k s.arbiter := by
  unfold State.arbiter
  split
  · exact hs
  · exact h.arbiterLoop _ hs

theorem withdraw (i : SlotId) (e : EntryKind) (hs : P k s) : P k (s.withdraw i e) := by
  unfold State.withdraw
  split
  · exact h.arbiter (h.dequeue i e hs)
  · exact hs

theorem powerRequest (i : SlotId) (hs : P k s) : P k (s.powerRequest i) := by
  have ht : P k (s.enqueue i .boot).arbiter := h.arbiter (h.enqueue i .boot hs)
  unfold State.powerRequest
  dsimp only
  split
  · exact h.enter i _ ht
  · exact ht

/-! ### Targets, the thermal cap, releases -/

theorem updGrant_of_le (i : SlotId) (f : Grant → Grant) (hcap : (f (s.grantOf i)).capped = (s.grantOf i).capped)
    (hle : (f (s.grantOf i)).held ≤ (s.grantOf i).held) (hs : P k s) : P (k.mark i) (s.updGrant i f) :=
  h.updGrant i f ⟨hcap, .inl hle⟩ hs

/-- A second change to a grant whose mark is owed already. -/
theorem updGrant_again (i : SlotId) (f : Grant → Grant) (hcap : (f (s.grantOf i)).capped = (s.grantOf i).capped)
    (hle : (f (s.grantOf i)).held ≤ (s.grantOf i).held) (hs : P (k.mark i) s) : P (k.mark i) (s.updGrant i f) := by
  have hagain := h.updGrant_of_le i f hcap hle hs
  rwa [Owed.mark_mark] at hagain

theorem liftThermalCap (i : SlotId) (hs : P (k.mark i) s) : P (k.mark i) (s.liftThermalCap i) := by
  unfold State.liftThermalCap
  split
  · exact h.raise _ (h.updGrant_again i _ rfl le_rfl hs)
  · exact hs

theorem acceptTarget (i : SlotId) (power : Nat) (hs : P k s) : P k (s.acceptTarget i power) := by
  have ht : P (k.mark i) ((s.liftThermalCap i).updGrant i fun g => { g with target := power }) :=
    h.updGrant_again i _ rfl le_rfl (h.liftThermalCap i (h.mono i hs))
  unfold State.acceptTarget
  dsimp only
  split
  · next hle =>
    have hu := h.updGrant_again i (fun r => { r with grant := power, budgetCapped := false }) rfl
      (by simp only [Grant.held, State.updGrant_grantOf_self, State.liftThermalCap_grant]; split <;> omega) ht
    refine h.remark i ?_
    split
    · exact h.arbiter hu
    · exact hu
  · exact h.remark i (h.arbiter (h.enqueue i _ ht))

theorem lowerTarget (i : SlotId) (power : Nat) (hs : P k s) : P k (s.lowerTarget i power) := by
  have ht := h.updGrant_of_le i (fun r => { r with target := power, grant := min (s.grantOf i).grant power }) rfl
    (by simp only [Grant.held]; split <;> omega) hs
  have hu := h.dequeue i .upgrade (h.updGrant_again i (fun r => { r with budgetCapped := false }) rfl le_rfl ht)
  unfold State.lowerTarget
  dsimp only
  refine h.remark i ?_
  (repeat' split)
  exacts [h.arbiter hu, h.arbiter ht, hu, ht]

theorem raiseTarget (i : SlotId) (power : Nat) (hs : P k s) : P k (s.raiseTarget i power) := by
  have ht := h.updGrant_of_le i (fun r => { r with target := power }) rfl le_rfl hs
  unfold State.raiseTarget
  refine h.remark i ?_
  split
  · exact h.arbiter (h.enqueue i _ ht)
  · exact ht

theorem refreshTarget (i : SlotId) (power : Nat) (hs : P k s) : P k (s.refreshTarget i power) := by
  unfold State.refreshTarget
  split
  · exact h.lowerTarget i power hs
  · exact h.raiseTarget i power hs

theorem setThermalCap (i : SlotId) (hs : P k s) : P k (s.setThermalCap i) := by
  unfold State.setThermalCap
  split
  · exact hs
  · have ht := h.dequeue i .upgrade
      (h.raise (.thermalCapOn i) (h.updGrant_of_le i (fun g => { g with thermalCap := true }) rfl le_rfl hs))
    exact h.arbiter (h.remark i (h.updGrant_again i _ rfl (by simp only [Grant.held]; split <;> omega) ht))

theorem clearThermalCap (i : SlotId) (hs : P k s) : P k (s.clearThermalCap i) := by
  have ht := h.liftThermalCap i (h.mono i hs)
  unfold State.clearThermalCap
  dsimp only
  split
  · refine h.remark i ?_
    split
    · exact h.arbiter (h.enqueue i _ ht)
    · exact ht
  · exact hs

theorem markReleasing (i : SlotId) (hs : P k s) : P k (s.markReleasing i) :=
  h.arbiter (h.dequeue i _ (h.releasing i hs))

theorem releaseGrant (i : SlotId) (hs : P k s) : P k (s.releaseGrant i) :=
  h.arbiter (h.remark i (h.liftThermalCap i (h.updGrant_of_le i _ rfl (Nat.zero_le _) hs)))

theorem movePriority (i : SlotId) (hs : P k s) : P k (s.movePriority i) := h.queue _ s.queueCounter hs

/-! ### The Thermal Record Unit -/

theorem setTest (i : SlotId) (xs : List Sensor) (hs : P k s) : P k (s.setTest i xs) := by
  unfold State.setTest
  split
  · exact h.updThermal i _ (h.setThermalCap i (h.updThermal i _ hs))
  · exact hs

theorem clearTest (i : SlotId) (hs : P k s) : P k (s.clearTest i) := by
  unfold State.clearTest
  split
  · exact h.clearThermalCap i (h.updThermal i _ hs)
  · exact hs

theorem takeReading (i : SlotId) (id : SensorId) (t : Int) (hs : P k s) : P k (s.takeReading i id t) := by
  unfold State.takeReading
  split
  · exact hs
  · split
    · exact h.clearTest i (h.setTest i _ (h.updThermal i _ hs))
    · exact h.clearTest i (h.updThermal i _ hs)

theorem takeReadings (i : SlotId) (payload : List Byte) (n : Nat) :
    ∀ (off : Nat) {s : State}, P k s → P k (Machine.takeReadings i payload n off s) := by
  induction n with
  | zero => exact fun _ _ hs => hs
  | succ n ih =>
    intro off s hs
    unfold Machine.takeReadings
    refine ih _ ?_
    split
    · exact h.takeReading i _ _ hs
    · exact hs

theorem takeTelemetry (i : SlotId) (payload : List Byte) (hs : P k s) : P k (s.takeTelemetry i payload) := by
  unfold State.takeTelemetry
  split
  · exact h.takeReadings i payload _ _ hs
  · exact hs

theorem rebuildThermal (i : SlotId) (l : List SensorLimits) (hs : P k s) : P k (s.rebuildThermal i l) := by
  have ht := h.updThermal i (fun r => { r with sensors := mergeSensors r.sensors l }) hs
  unfold State.rebuildThermal
  dsimp only
  (repeat' split)
  exacts [h.clearTest i ht, h.setTest i _ ht, ht]

/-! ### Drains and the passes of a capacity loss -/

theorem exitOnline (i : SlotId) (hs : P k s) : P k (s.exitOnline i) := by
  unfold State.exitOnline
  refine h.updThermal i _ ?_
  split
  · exact h.updContext i _ hs
  · exact hs

theorem drainGrant (i : SlotId) (c : DrainCause) (hs : P k s) : P k (s.drainGrant i c) := by
  unfold State.drainGrant
  split
  · exact hs
  · exact h.markReleasing i hs

theorem startDrain (i : SlotId) (c : DrainCause) (n : DrainNext) (f : FaultCause) (hs : P k s) :
    P k (s.startDrain i c n f) := by
  have hu := h.updSlot i (Slot.recordDrain c n f) hs
  unfold State.startDrain
  split
  · refine h.enter i _ (h.setRail i _ (Rail.rampDown_follows (State.railEnv _) _ c) (h.drainGrant i c ?_))
    (repeat' split)
    exacts [h.updContext i _ (h.exitOnline i hu), h.updContext i _ hu, h.exitOnline i hu, hu]
  · exact hs

theorem capSlot (i : SlotId) (hlt : s.capLevel i < (s.grantOf i).grant) (hs : P k s) : P k (s.capSlot i) := by
  have ht := h.updGrant_of_le i (fun g => { g with grant := s.capLevel i, budgetCapped := true }) rfl
    (by simp only [Grant.held]; split <;> omega) hs
  unfold State.capSlot
  refine h.remark i ?_
  split
  · exact h.enqueue i _ ht
  · exact ht

theorem cappingPass (l : List SlotId) : ∀ (did : Bool) {s : State}, P k s → P k (Machine.cappingPass l did s).1 := by
  induction l with
  | nil => exact fun _ _ hs => hs
  | cons i l ih =>
    intro did s hs
    unfold Machine.cappingPass
    (repeat' split)
    · exact hs
    · next hlt => exact ih true (h.capSlot i hlt hs)
    · exact ih did hs

theorem shedSlot (i : SlotId) (hs : P k s) : P k (s.shedSlot i) :=
  h.startDrain i _ _ _ (h.queue _ s.queueCounter (h.releasing i hs))

theorem sheddingPass (l : List SlotId) : ∀ (did : Bool) {s : State}, P k s → P k (Machine.sheddingPass l did s).1 := by
  induction l with
  | nil => exact fun _ _ hs => hs
  | cons i l ih =>
    intro did s hs
    unfold Machine.sheddingPass
    split
    · exact hs
    · exact ih true (h.shedSlot i hs)

theorem runCapping (hs : P k s) : P k s.runCapping.1 := by
  have hp := h.cappingPass s.passOrder false hs
  unfold State.runCapping
  dsimp only
  split
  exacts [h.raise _ hp, hp]

theorem runShedding (hs : P k s) : P k s.runShedding.1 := by
  have hp := h.sheddingPass s.passOrder false hs
  unfold State.runShedding
  dsimp only
  (repeat' split)
  exacts [hs, h.raise _ hp, hp]

theorem restoreBalance (hs : P k s) : P k s.restoreBalance.1 := by
  unfold State.restoreBalance
  split
  · exact hs
  · dsimp only
    exact h.runShedding (h.runCapping hs)

theorem recapacity_same (c : Nat) (hs : P k s) : P k (s.recapacity c) := by
  have hb := h.restoreBalance (h.raise .capacityChange hs)
  unfold State.recapacity
  dsimp only
  (repeat' split)
  exacts [hs, h.arbiter hb, hb]

end

end KeptByUnits

end Sys2Proof.Machine

/-!
# Laws that read none of a unit's records

Where a law reads nothing of the uplinks and groups, of the Station Table, or of the notice side, the changes made there
keep it.
-/

namespace Sys2Proof.Machine

section

variable {P : Owed → State → Prop}

/-! ### The notice side -/

theorem KeptByNotices.of_ignored
    (hset : ∀ {k s} c n sp q se, P k s →
      P k { s with noticeCfg := c, notices := n, spacing := sp, noticeSeq := q, sent := se }) : KeptByNotices P where
  transmit p c l hs := by rw [State.transmit_side]; exact hset _ _ _ _ _ hs
  raise e hs := by rw [State.raise_side]; exact hset _ _ _ _ _ hs
  attemptSend hs := by rw [State.attemptSend_side]; exact hset _ _ _ _ _ hs
  spacing t hs := hset _ _ _ _ _ hs
  setNoticeCfg {k s} c hs := by
    have ht : P k { s with noticeCfg := c, notices := if c.enable then s.notices else [] } :=
      hset c _ s.spacing s.noticeSeq s.sent hs
    unfold State.setNoticeCfg
    rw [State.attemptSend_side]
    exact hset c _ _ _ _ ht
  dropNotices hs := hset _ _ _ _ _ hs

/-! ### The Station Table -/

section

variable (hset : ∀ {k s} t v, P k s → P k { s with stations := t, inventory := v })
  (hraise : ∀ {k s} e, P k s → P k (s.raise e))
include hset

theorem State.install_kept {k : Owed} {s : State} (a : Addr) (i : SlotId) (hs : P k s) : P k (s.install a i) := by
  unfold State.install
  split
  · exact hs
  · exact hset _ s.inventory hs

include hraise

theorem State.reoffer_kept {k : Owed} {s : State} (a : Addr) (hs : P k s) : P k (s.reoffer a) := by
  unfold State.reoffer
  split
  · exact hs
  · exact hraise _ (hset (s := s.install a _) _ _ (State.install_kept hset a _ hs))

theorem KeptByStations.of_ignored : KeptByStations P where
  removeStation n e _ hs := State.reoffer_kept hset hraise e.addr (hraise _ (hset _ _ hs))
  offer {k s} i pos a hs := by
    have ht : P k (if s.offerAnswer a = .installed then s.install a i else s) := by
      split
      · exact State.install_kept hset a i hs
      · exact hs
    exact hraise _ (hset (s := if s.offerAnswer a = .installed then s.install a i else s) _ _ ht)

end

/-! ### Uplinks and groups -/

section

variable (hset : ∀ {k s} u g l r, P k s → P k { s with uplinks := u, groups := g, links := l, portRole := r })
  (hraise : ∀ {k s} e, P k s → P k (s.raise e))
include hset hraise

omit hset in
theorem State.raiseAll_kept {k : Owed} (l : List Event) : ∀ {s : State}, P k s → P k (s.raiseAll l) := by
  induction l with
  | nil => exact fun hs => hs
  | cons e l ih => exact fun hs => ih (hraise e hs)

theorem State.recomputeGroup_kept {k : Owed} {s : State} (g : GroupId) (l : List UplinkId) (hs : P k s) :
    P k (s.recomputeGroup g l) := by
  unfold State.recomputeGroup
  dsimp only
  split
  · exact hs
  · exact State.raiseAll_kept hraise _ (hset s.uplinks _ s.links s.portRole hs)

theorem State.setUsable_kept {k : Owed} {s : State} (u : UplinkId) (b : Bool) (hs : P k s) : P k (s.setUsable u b) := by
  unfold State.setUsable State.recomputeMembers
  split
  · exact hs
  · refine KeptByUnits.foldl _ _ (fun s g _ ht => ?_) (hraise _ (hset _ s.groups s.links s.portRole hs))
    split
    · exact State.recomputeGroup_kept hset hraise g _ ht
    · exact ht

theorem State.startHoldDown_kept {k : Owed} {s : State} (u : UplinkId) (hs : P k s) : P k (s.startHoldDown u) := by
  unfold State.startHoldDown
  split
  · exact State.setUsable_kept hset hraise u true (hset _ s.groups s.links s.portRole hs)
  · exact hset _ s.groups s.links s.portRole hs

theorem State.dropUplink_kept {k : Owed} {s : State} (u : UplinkId) (hs : P k s) : P k (s.dropUplink u) :=
  State.setUsable_kept hset hraise u false (hset _ s.groups s.links s.portRole hs)

theorem KeptByUplinks.of_ignored (hsend : ∀ {k s}, P k s → P k s.attemptSend) : KeptByUplinks P where
  takeStackRole {k s} _ hs := by
    have ht : P k { s with portRole := .stack } := hset s.uplinks s.groups s.links _ hs
    unfold State.takeStackRole
    dsimp only
    split
    · exact State.startHoldDown_kept hset hraise _ ht
    · exact ht
  takeSlotRole {k s} hs := State.dropUplink_kept hset hraise _ (hset s.uplinks s.groups s.links _ hs)
  linkRise {k s} p _ hs := by
    have ht : P k (s.updLink p fun _ => true) := hset s.uplinks s.groups _ s.portRole hs
    unfold State.linkRise
    cases portUplink p with
    | none =>
      dsimp only
      split
      · exact hsend ht
      · exact ht
    | some u =>
      have hu : P k ((s.updLink p fun _ => true).uplinkUp u) := by
        unfold State.uplinkUp
        split
        · exact State.startHoldDown_kept hset hraise _ ht
        · exact ht
      dsimp only
      split
      · exact hsend hu
      · exact hu
  linkFall {k s} p hs := by
    have ht : P k (s.updLink p fun _ => false) := hset s.uplinks s.groups _ s.portRole hs
    unfold State.linkFall
    dsimp only
    split
    · exact ht
    · exact State.dropUplink_kept hset hraise _ ht
  holdDownExpiry {k s} u hs := by
    split
    · exact State.setUsable_kept hset hraise u true (hset _ s.groups s.links s.portRole hs)
    · exact hs
  groupMode {k s} g m hs := hset s.uplinks _ s.links s.portRole hs
  setMembers {k s} g l hs :=
    State.recomputeGroup_kept hset hraise g _ (hset s.uplinks _ s.links s.portRole hs)

end

end

end Sys2Proof.Machine

/-!
# The budget (O55)

Inside a recomputation headroom may fall below 0; the law is then owed where C_avail has changed, and paid where the passes
have ended.
-/

namespace Sys2Proof.Machine

/-! ### Sums of grants -/

theorem State.grantsHeld_eq_sum (s : State) : s.grantsHeld = ∑ i, (s.grantOf i).held := by
  rw [Fin.sum_univ_def]
  rfl

/-- The sum of the grants held follows the one grant that is changed. -/
theorem State.updGrant_grantsHeld (s : State) (i : SlotId) (f : Grant → Grant) :
    (s.updGrant i f).grantsHeld + (s.grantOf i).held = s.grantsHeld + (f (s.grantOf i)).held := by
  have hrest : ∑ j ∈ Finset.univ.erase i, ((s.updGrant i f).grantOf j).held =
      ∑ j ∈ Finset.univ.erase i, (s.grantOf j).held :=
    Finset.sum_congr rfl fun j hj => by rw [State.updGrant_grantOf_ne _ _ (Finset.ne_of_mem_erase hj)]
  have hs := Finset.add_sum_erase Finset.univ (fun j => (s.grantOf j).held) (Finset.mem_univ i)
  have ht := Finset.add_sum_erase Finset.univ (fun j => ((s.updGrant i f).grantOf j).held) (Finset.mem_univ i)
  rw [hrest, State.updGrant_grantOf_self] at ht
  rw [State.grantsHeld_eq_sum, State.grantsHeld_eq_sum, ← hs, ← ht]
  omega

theorem State.grantsHeld_congr {s t : State} (h : ∀ i, (t.grantOf i).held = (s.grantOf i).held) :
    t.grantsHeld = s.grantsHeld := by
  simp only [State.grantsHeld_eq_sum, h]

theorem State.headroom_nonneg_of_none_held {s : State} (h : ∀ i, (s.grantOf i).held = 0) : 0 ≤ s.headroom := by
  have hsum : s.grantsHeld = 0 := by simp [State.grantsHeld_eq_sum, h]
  unfold State.headroom
  omega

/-- What the remark of a slot's capped mark changes. -/
theorem State.remark_grantOf (s : State) (i j : SlotId) :
    (s.remark i).grantOf j =
      if j = i then { s.grantOf i with capped := (s.grantOf i).shouldCap } else s.grantOf j := by
  unfold State.remark
  split
  · next h =>
    split
    · next e => subst e; rw [h]
    · rfl
  · simp only [State.refreshRate, State.updMeter_grantOf, State.updRail_grantOf, State.updGrant_grantOf]

theorem State.remark_frame (s : State) (i : SlotId) :
    s.remark i = { s with
      grants := (s.remark i).grants, rails := (s.remark i).rails, meters := (s.remark i).meters } := by
  unfold State.remark
  split <;> rfl

/-! ### The law -/

/-- Headroom is at least 0, but while a recomputation is owed for a change of C_avail. -/
def budgetLaw (k : Owed) (s : State) : Prop :=
  match k.capacity with
  | none => 0 ≤ s.headroom
  | some c => s.cAvail = c → 0 ≤ s.headroom

theorem budgetLaw_of {k : Owed} {s t : State} (hs : budgetLaw k s) (hc : t.cAvail = s.cAvail)
    (hg : 0 ≤ s.headroom → 0 ≤ t.headroom) : budgetLaw k t := by
  unfold budgetLaw at *
  split at hs
  · exact hg hs
  · exact fun h => hg (hs (hc ▸ h))

theorem State.cAvail_congr {s t : State} (hc : t.chassis = s.chassis) (hp : t.psus = s.psus) (hf : t.fans = s.fans) :
    t.cAvail = s.cAvail := by
  have hA : t.feedACapacity = s.feedACapacity := by simp only [State.feedACapacity, State.psu, hp]
  have hB : t.feedBCapacity = s.feedBCapacity := by simp only [State.feedBCapacity, State.psu, hp]
  have hL : t.largestCounted = s.largestCounted := by simp only [State.largestCounted, State.psu, hp]
  have hR : t.reserve = s.reserve := by unfold State.reserve State.fan; rw [hc, hf]
  unfold State.cAvail State.usableCapacity
  rw [hA, hB, hL, hR, hc]

/-- The law reads the supplies, the fans, the settings and the grants alone. -/
theorem budgetLaw_frame {k : Owed} {s t : State} (hs : budgetLaw k s) (hc : t.chassis = s.chassis)
    (hp : t.psus = s.psus) (hf : t.fans = s.fans) (hg : t.grants = s.grants) : budgetLaw k t :=
  budgetLaw_of hs (State.cAvail_congr hc hp hf) fun h => by
    unfold State.headroom State.grantsHeld State.grantOf at *
    rwa [State.cAvail_congr hc hp hf, hg]

theorem budgetLaw_congr {k : Owed} {s t : State} (hs : budgetLaw k s) (hc : t.cAvail = s.cAvail)
    (hg : ∀ i, (t.grantOf i).held = (s.grantOf i).held) : budgetLaw k t :=
  budgetLaw_of hs hc fun h => by unfold State.headroom at *; rw [hc, State.grantsHeld_congr hg]; exact h

theorem budgetLaw_updGrant {k : Owed} {s : State} (i : SlotId) (f : Grant → Grant)
    (hheld : (f (s.grantOf i)).held ≤ (s.grantOf i).held ∨
      ((f (s.grantOf i)).held : Int) - ((s.grantOf i).held : Int) ≤ s.headroom)
    (hs : budgetLaw k s) : budgetLaw k (s.updGrant i f) := by
  refine budgetLaw_of hs (State.cAvail_congr rfl rfl rfl) fun h => ?_
  have hsum := s.updGrant_grantsHeld i f
  have hc : (s.updGrant i f).cAvail = s.cAvail := State.cAvail_congr rfl rfl rfl
  unfold State.headroom at *
  rw [hc]
  omega

theorem budgetLaw_keptByNotices : KeptByNotices budgetLaw :=
  .of_ignored fun _ _ _ _ _ hs => budgetLaw_frame hs rfl rfl rfl rfl

theorem budgetLaw_keptByUnits : KeptByUnits budgetLaw where
  toKeptByNotices := budgetLaw_keptByNotices
  toKeptByStations :=
    .of_ignored (fun _ _ hs => budgetLaw_frame hs rfl rfl rfl rfl) budgetLaw_keptByNotices.raise
  toKeptByUplinks :=
    .of_ignored (fun _ _ _ _ hs => budgetLaw_frame hs rfl rfl rfl rfl) budgetLaw_keptByNotices.raise
      budgetLaw_keptByNotices.attemptSend
  lawless e hs := by rw [e]; exact budgetLaw_frame hs rfl rfl rfl rfl
  admissions t n ht hs := budgetLaw_congr hs (State.cAvail_congr rfl rfl rfl) fun i => by
    obtain ⟨a, ha⟩ := ht i
    simp only [State.grantOf] at *
    rw [ha]
    rfl
  meters _ _ _ hs := budgetLaw_frame hs rfl rfl rfl rfl
  setRail _ _ _ hs := budgetLaw_frame hs rfl rfl rfl rfl
  interlock _ hs := budgetLaw_frame hs rfl rfl rfl rfl
  interlockOff hs := budgetLaw_frame hs rfl rfl rfl rfl
  updGrant i f ha hs := budgetLaw_updGrant i f ha.held hs
  releasing i hs := budgetLaw_updGrant i _ (.inl (by simp [Grant.held])) hs
  remark i hs := budgetLaw_congr hs (by rw [State.remark_frame]; exact State.cAvail_congr rfl rfl rfl)
    fun j => by rw [State.remark_grantOf]; split <;> simp_all [Grant.held]
  supplies p f c hc hs := budgetLaw_congr hs hc fun _ => rfl
  owe p f c hs hc := by
    unfold State.headroom
    rw [hc]
    exact hs
  settled c hc hs := by
    rcases hc with hc | hc
    · exact hs hc
    · exact hc

/-! ### The passes end in balance -/

theorem mem_insertSlot (s : State) (i j : SlotId) (l : List SlotId) : j ∈ insertSlot s i l ↔ j = i ∨ j ∈ l := by
  induction l with
  | nil => simp [insertSlot]
  | cons a l ih =>
    unfold insertSlot
    split
    · simp
    · simp only [List.mem_cons, ih]
      tauto

theorem State.mem_passOrder (s : State) (i : SlotId) :
    i ∈ s.passOrder ↔ (s.grantOf i).grant ≠ 0 ∧ (s.grantOf i).releasing = false := by
  have hmem : ∀ l : List SlotId, i ∈ l.foldr (insertSlot s) [] ↔ i ∈ l := fun l => by
    induction l with
    | nil => rfl
    | cons a l ih => rw [List.foldr_cons, mem_insertSlot, ih, List.mem_cons]
  simp [State.passOrder, hmem, allSlots]

/-- A shed drain finds the grant marked and leaves every grant as it is. -/
theorem State.budgetShed_grants (s : State) (i : SlotId) : (s.budgetShed i).grants = s.grants := by
  unfold State.budgetShed State.startDrain
  split
  · simp only [State.enter, State.setSlotState, State.setRail, State.drainGrant, if_true, State.raise_grants,
      State.updSlot_grants, State.updRail_grants, State.closeContext, State.exitOnline, State.thermalExit]
    (repeat' split) <;> rfl
  · rfl

theorem State.shedSlot_grantOf (s : State) (i j : SlotId) :
    (s.shedSlot i).grantOf j = if j = i then { s.grantOf i with releasing := true } else s.grantOf j := by
  rw [State.grantOf, State.shedSlot, State.budgetShed_grants]
  exact State.updGrant_grantOf s i _ j

/-- The shed pass over every slot that holds a grant ends with the grants held within C_avail. -/
theorem sheddingPass_headroom (l : List SlotId) :
    ∀ (did : Bool) (s : State), (∀ i, (s.grantOf i).held ≠ 0 → i ∈ l) → 0 ≤ (sheddingPass l did s).1.headroom := by
  induction l with
  | nil =>
    intro _ s hl
    exact State.headroom_nonneg_of_none_held fun i => by_contra fun hne => List.not_mem_nil (hl i hne)
  | cons a l ih =>
    intro did s hl
    unfold sheddingPass
    split
    · next hpos => exact hpos
    · refine ih true _ fun i hne => ?_
      rw [State.shedSlot_grantOf] at hne
      split at hne
      · exact absurd rfl hne
      · next hia => exact (List.mem_cons.1 (hl i hne)).resolve_left hia

theorem State.runShedding_headroom (s : State) : 0 ≤ s.runShedding.1.headroom := by
  have hp : 0 ≤ (sheddingPass s.passOrder false s).1.headroom := sheddingPass_headroom _ _ _ fun i hne => by
    rw [State.mem_passOrder]
    unfold Grant.held at hne
    split at hne
    · exact absurd rfl hne
    · next hr => exact ⟨hne, by simpa using hr⟩
  unfold State.runShedding
  dsimp only
  (repeat' split)
  · next hpos => exact hpos
  · exact budgetLaw_keptByNotices.raise (k := .nothing) _ hp
  · exact hp

theorem State.restoreBalance_headroom (s : State) : 0 ≤ s.restoreBalance.1.headroom := by
  unfold State.restoreBalance
  split
  · next hpos => exact hpos
  · dsimp only
    exact s.runCapping.1.runShedding_headroom

/-- A recomputation ends in balance (R74, R77), where C_avail has changed or there was balance before. -/
theorem State.recapacity_headroom (s : State) (c : Nat) (hs : s.cAvail = c → 0 ≤ s.headroom) :
    0 ≤ (s.recapacity c).headroom := by
  have hb : 0 ≤ (s.raise .capacityChange).restoreBalance.1.headroom := State.restoreBalance_headroom _
  unfold State.recapacity
  dsimp only
  (repeat' split)
  · next hc => exact hs hc
  · exact budgetLaw_keptByUnits.arbiter (k := .nothing) hb
  · exact hb

end Sys2Proof.Machine

/-!
# Laws through the slot's courses, the announcements and the service requests

The rest of the operations, up to `step`.
-/

namespace Sys2Proof.Machine

/-! ### What C_avail is made of (R72, R73) -/

/-- C_avail rests on the mode, the overhead, what each supply counts for and what each fan needs. -/
theorem State.cAvail_of {s t : State} (hm : t.chassis.mode = s.chassis.mode)
    (ho : t.chassis.overhead = s.chassis.overhead)
    (hp : ∀ p, (t.psu p).countedCapacity = (s.psu p).countedCapacity)
    (hf : ∀ f, (t.fan f).present = (s.fan f).present ∧ (t.fan f).fullPower = (s.fan f).fullPower) :
    t.cAvail = s.cAvail := by
  have hA : t.feedACapacity = s.feedACapacity := by simp only [State.feedACapacity, hp]
  have hB : t.feedBCapacity = s.feedBCapacity := by simp only [State.feedBCapacity, hp]
  have hL : t.largestCounted = s.largestCounted := by simp only [State.largestCounted, hp]
  have hR : t.reserve = s.reserve := by simp only [State.reserve, ho, hf]
  unfold State.cAvail State.usableCapacity
  rw [hA, hB, hL, hR, hm]

theorem State.updPsu_cAvail (s : State) (p : PsuId) (f : Psu → Psu)
    (hf : (f (s.psu p)).countedCapacity = (s.psu p).countedCapacity) : (s.updPsu p f).cAvail = s.cAvail :=
  State.cAvail_of rfl rfl (fun q => by rw [State.updPsu_psu]; split <;> simp_all) fun _ => ⟨rfl, rfl⟩

theorem State.updFan_cAvail (s : State) (i : FanId) (f : Fan → Fan) (hp : (f (s.fan i)).present = (s.fan i).present)
    (hw : (f (s.fan i)).fullPower = (s.fan i).fullPower) : (s.updFan i f).cAvail = s.cAvail :=
  State.cAvail_of rfl rfl (fun _ => rfl) fun j => by rw [State.updFan_fan]; split <;> simp_all

@[simp] theorem Fan.check_fullPower (f : Fan) : f.check.fullPower = f.fullPower := by
  unfold Fan.check Fan.checkOk Fan.checkFaulted Fan.passOver
  (repeat' split) <;> rfl

@[simp] theorem Fan.driveStep_fullPower (f : Fan) (base : Nat) : (f.driveStep base).fullPower = f.fullPower := by
  unfold Fan.driveStep Fan.load Fan.applyDrive Fan.start Fan.stopDrive
  dsimp only
  (repeat' split) <;> rfl

theorem Meter.police_tokens_le (m : Meter) (n : Nat) : (m.police n).tokens ≤ m.tokens := by
  unfold Meter.police
  (repeat' split) <;> simp

namespace KeptByUnits

section

variable {P : Owed → State → Prop} (h : KeptByUnits P) {k : Owed} {s : State}

include h

/-- The recomputation pays what a change of C_avail owes. -/
theorem recapacity {X : Set SlotId} (c : Nat) (hs : P ⟨X, some c⟩ s) : P ⟨X, none⟩ (s.recapacity c) := by
  have hsettings : (s.recapacity c).settings = s.settings := s.recapacity_settings c
  have havail : (s.recapacity c).cAvail = s.cAvail :=
    State.cAvail_congr (State.chassis_of_settings hsettings) (State.psus_of_settings hsettings)
      (State.fans_of_settings hsettings)
  refine h.settled c ?_ (h.recapacity_same c hs)
  by_cases hc : s.cAvail = c
  · exact .inl (havail.trans hc)
  · exact .inr (s.recapacity_headroom c fun e => absurd e hc)

/-! ### Holds, ONLINE, EMPTY, DISABLED, FAULT -/

theorem enterHeld (i : SlotId) (st : SlotState) (hs : P k s) : P k (s.enterHeld i st) :=
  h.raise _ (h.enter i st (h.updSlot i _ hs))

theorem powerUpPath (i : SlotId) (hs : P k s) : P k (s.powerUpPath i) := by
  unfold State.powerUpPath
  split
  · exact h.enterHeld i _ hs
  · exact h.powerRequest i hs

theorem enterOnline (i : SlotId) (hs : P k s) : P k (s.enterOnline i) :=
  h.setTest i _ (h.enter i _ (h.updSlot i _ hs))

theorem removeStations (i : SlotId) (keep : List Addr) (hs : P k s) : P k (s.removeStations i keep) := by
  refine foldl _ _ (fun s n _ hs => ?_) hs
  split
  · exact hs
  · next e he =>
    split
    · exact h.removeStation n e he hs
    · exact hs

theorem clearBlade (i : SlotId) (hs : P k s) : P k (s.clearBlade i) :=
  h.updThermal i _ (h.removeStations i [] (h.updInv i _ hs))

theorem stackIfDue (i : SlotId) (hs : P k s) : P k (s.stackIfDue i) := by
  unfold State.stackIfDue
  split
  · next hdue => exact h.takeStackRole hdue.2.2 hs
  · exact hs

theorem enterDisabled (i : SlotId) (hs : P k s) : P k (s.enterDisabled i) :=
  h.stackIfDue i (h.enter i _ (h.updSlot i _ (h.clearBlade i hs)))

theorem enterEmpty (i : SlotId) (hs : P k s) : P k (s.enterEmpty i) := by
  have ht := h.updSlot i (fun r => { r with faultCause := .none, drainCause := .none, retryCount := 0 }) hs
  unfold State.enterEmpty
  dsimp only
  (repeat' split)
  exacts [h.enterDisabled i ht, h.enter i _ (h.updSlot i _ ht), h.enter i _ ht]

theorem enterFault (i : SlotId) (hs : P k s) : P k (s.enterFault i) := h.enter i _ (h.updSlot i _ hs)

theorem takeNext (i : SlotId) (n : DrainNext) (hs : P k s) : P k (s.takeNext i n) := by
  cases n with
  | none => exact hs
  | empty => exact h.enterEmpty i hs
  | present => exact h.enter i _ hs
  | powerWait => exact h.powerRequest i hs
  | fault => exact h.enterFault i hs
  | disabled =>
    unfold State.takeNext
    dsimp only
    split
    · exact h.enterDisabled i hs
    · exact h.enterEmpty i (h.clearBlade i hs)

theorem drainComplete (i : SlotId) (hs : P k s) : P k (s.drainComplete i) := by
  unfold State.drainComplete
  split
  · exact h.takeNext i _ (h.updSlot i _ (h.releaseGrant i hs))
  · exact hs

theorem removeBlade (i : SlotId) (hs : P k s) : P k (s.removeBlade i) := by
  have ht := h.clearBlade i hs
  have hdrain := h.startDrain i .removed .empty .none ht
  have hstop := h.enterEmpty i (h.updSlot i Slot.stopTimers ht)
  unfold State.removeBlade
  cases (s.slot i).state with
  | empty => exact hs
  | debounce => exact hs
  | disabled => exact hs
  | present => exact hstop
  | heldPower => exact hstop
  | fault => exact hstop
  | powerWait => exact h.enterEmpty i (h.withdraw i _ ht)
  | ramping => exact hdrain
  | resetHold => exact hdrain
  | announcing => exact hdrain
  | heldOnline => exact hdrain
  | online => exact hdrain
  | draining => exact h.updSlot i _ ht

theorem applyDisable (i : SlotId) (hs : P k s) : P k (s.applyDisable i) := by
  have hdrain := h.startDrain i .admin .disabled .none hs
  have hstop := h.enterDisabled i (h.updSlot i Slot.stopTimers hs)
  unfold State.applyDisable
  cases (s.slot i).state with
  | disabled => exact hs
  | draining => exact h.updSlot i _ hs
  | ramping => exact hdrain
  | resetHold => exact hdrain
  | announcing => exact hdrain
  | heldOnline => exact hdrain
  | online => exact hdrain
  | empty => exact hstop
  | debounce => exact hstop
  | present => exact hstop
  | heldPower => exact hstop
  | fault => exact hstop
  | powerWait => exact h.enterDisabled i (h.withdraw i _ (h.updSlot i _ hs))

theorem applyEnable (i : SlotId) (hs : P k s) : P k (s.applyEnable i) := by
  unfold State.applyEnable
  split
  · exact h.enterEmpty i hs
  · exact hs

theorem thermalShed (i : SlotId) (hs : P k s) : P k (s.thermalShed i) := by
  unfold State.thermalShed
  split
  · exact h.startDrain i _ _ _ hs
  · exact hs

theorem emergency (i : SlotId) (hs : P k s) : P k (s.emergency i) := by
  unfold State.emergency
  split
  · exact h.updSlot i _ hs
  · exact h.startDrain i _ _ _ hs

/-! ### Reports of the Rail Unit -/

theorem handleReport (i : SlotId) (r : RailReport) (hs : P k s) : P k (s.handleReport i r) := by
  cases r with
  | powerGoodSeen => exact hs
  | resetReleased => exact hs
  | powerGoodTimeout => unfold State.handleReport; dsimp only; split; exacts [h.startDrain i _ _ _ hs, hs]
  | powerLost => unfold State.handleReport; dsimp only; split; exacts [h.startDrain i _ _ _ hs, hs]
  | rampDownComplete => exact h.drainComplete i hs

theorem climb (i : SlotId) (l : List RailReport) (hs : P k s) : P k (s.climb i l) := by
  have ht := h.takeReports i l hs
  unfold State.climb
  dsimp only
  split
  · exact ht
  · exact h.raise _ ht

theorem railStep (i : SlotId) (r : Rail × List RailReport) (hr : (s.rail i).Follows s.interlock r.1) (hs : P k s) :
    P k (s.railStep i r) := by
  have ht := h.setRail i r.1 hr hs
  unfold State.railStep
  dsimp only
  split
  exacts [ht, h.handleReport i _ ht, h.handleReport i _ ht, h.handleReport i _ ht, h.climb i _ ht, h.climb i _ ht]

/-! ### Announcements -/

theorem sendReply (i : SlotId) (l : List Byte) (hs : P k s) : P k (s.sendReply i l) := h.transmit _ _ _ hs

theorem failContext (i : SlotId) (r : RefuseReason) (c : FaultCause) (hs : P k s) : P k (s.failContext i r c) := by
  have ht := h.updContext i (fun _ => contextClosed) (h.sendReply i (refusePayload r) hs)
  unfold State.failContext
  cases (s.context i).mode with
  | closed => exact hs
  | window => dsimp only; split; exacts [h.startDrain i _ _ _ ht, ht]
  | refresh => exact h.raise _ ht

theorem rejectFragment (i : SlotId) (hs : P k s) : P k (s.rejectFragment i) := by
  unfold State.rejectFragment
  split
  · exact h.updContext i _ (h.sendReply i _ (h.updContext i _ hs))
  · exact h.failContext i _ _ hs

theorem rejectRecord (i : SlotId) (hs : P k s) : P k (s.rejectRecord i) := by
  unfold State.rejectRecord
  split
  · exact h.updContext i _ (h.sendReply i _ (h.updContext i _ hs))
  · exact h.failContext i _ _ hs

theorem setAddrStatus (i : SlotId) (n : Nat) (st : AddrStatus) (hs : P k s) : P k (s.setAddrStatus i n st) :=
  h.updInv i _ hs

theorem offerAll (i : SlotId) (l : List Addr) :
    ∀ (earlier : List Addr) {s : State}, P k s → P k (Machine.offerAll i earlier l s) := by
  induction l with
  | nil => exact fun _ _ hs => hs
  | cons a l ih =>
    intro earlier s hs
    unfold Machine.offerAll
    refine ih _ ?_
    (repeat' split)
    exacts [h.setAddrStatus i _ _ hs, h.setAddrStatus i _ _ hs, h.offer i _ _ hs]

theorem updateStations (i : SlotId) (l : List Addr) (hs : P k s) : P k (s.updateStations i l) :=
  h.offerAll i l [] (h.removeStations i l hs)

theorem handOffPower (i : SlotId) (m : ContextMode) (old : Option InvRecord) (power : Nat) (hs : P k s) :
    P k (s.handOffPower i m old power) := by
  cases m with
  | closed => exact hs
  | window => exact h.acceptTarget i power hs
  | refresh => unfold State.handOffPower; dsimp only; split; exacts [hs, h.refreshTarget i power hs]

theorem reportAccepted (i : SlotId) (m : ContextMode) (hs : P k s) : P k (s.reportAccepted i m) := by
  cases m with
  | closed => exact hs
  | refresh => exact h.raise _ hs
  | window =>
    have ht := h.raise (.accepted i) hs
    unfold State.reportAccepted
    dsimp only
    (repeat' split)
    exacts [h.enterHeld i _ ht, h.enterOnline i ht, ht]

theorem acceptRecord (i : SlotId) (r : Announced) (hs : P k s) : P k (s.acceptRecord i r) :=
  h.reportAccepted i _ (h.updContext i _ (h.sendReply i _ (h.handOffPower i _ _ _ (h.rebuildThermal i _
    (h.updateStations i _ (h.updInv i _ hs))))))

theorem checkRecord (i : SlotId) (hs : P k s) : P k (s.checkRecord i) := by
  unfold State.checkRecord
  dsimp only
  (repeat' split)
  exacts [h.failContext i _ _ hs, h.acceptRecord i _ hs, h.rejectRecord i hs]

theorem expectedFragment (i : SlotId) (l : List Byte) (hs : P k s) : P k (s.expectedFragment i l) := by
  have ht := h.updContext i (fun c => c.declare (nat8At l 0) (nat8At l 1)) hs
  have hu : ∀ n c b, P k (State.appendFragment _ i n c b) := fun n c b => h.updContext i _ ht
  unfold State.expectedFragment
  dsimp only
  (repeat' split)
  exacts [h.checkRecord i (hu _ _ _), hu _ _ _, h.rejectFragment i ht, h.rejectFragment i hs]

theorem takeFragment (i : SlotId) (l : List Byte) (hs : P k s) : P k (s.takeFragment i l) := by
  unfold State.takeFragment
  (repeat' split)
  exacts [h.expectedFragment i l hs, hs, h.rejectFragment i hs, h.rejectFragment i hs]

theorem takeAnnounce (i : SlotId) (f : ServiceFrame) (hs : P k s) : P k (s.takeAnnounce i f) := by
  unfold State.takeAnnounce
  split
  · exact hs
  · exact h.takeFragment i _ (h.updContext i _ hs)

theorem takeExtend (i : SlotId) (f : ServiceFrame) (hs : P k s) : P k (s.takeExtend i f) := by
  have ht : P k (s.noteSender i f) := h.updContext i _ hs
  unfold State.takeExtend
  dsimp only
  (repeat' split)
  exacts [hs, h.updContext i _ ht, ht]

theorem startRefresh (i : SlotId) (hs : P k s) : P k (s.startRefresh i) := h.updContext i _ (h.transmit _ _ _ hs)

/-! ### Supplies, fans, thermal events -/

theorem updPsu_of_cAvail (p : PsuId) (f : Psu → Psu) (hf : (f (s.psu p)).countedCapacity = (s.psu p).countedCapacity)
    (hs : P k s) : P k (s.updPsu p f) :=
  h.supplies (s := s) _ s.fans s.chassis (State.updPsu_cAvail s p f hf) hs

theorem updFan_of_cAvail (i : FanId) (f : Fan → Fan) (hp : (f (s.fan i)).present = (s.fan i).present)
    (hw : (f (s.fan i)).fullPower = (s.fan i).fullPower) (hs : P k s) : P k (s.updFan i f) :=
  h.supplies (s := s) s.psus _ s.chassis (State.updFan_cAvail s i f hp hw) hs

theorem graceExpired (i : SlotId) (hs : P k s) : P k (s.graceExpired i) := by
  have ht := h.updThermal i (fun r => { r with grace := none }) hs
  unfold State.graceExpired
  dsimp only
  split
  · exact h.thermalShed i ht
  · exact ht

theorem setCounted (p : PsuId) (b : Bool) (hs : P .nothing s) : P .nothing (s.setCounted p b) :=
  h.recapacity _ (h.raise _ (h.owe _ s.fans s.chassis hs))

theorem startSettle (p : PsuId) (hs : P .nothing s) : P .nothing (s.startSettle p) := by
  unfold State.startSettle
  split
  · exact h.setCounted p true hs
  · exact h.updPsu_of_cAvail p _ rfl hs

theorem psuRise (p : PsuId) (l : PsuLine) (hs : P .nothing s) : P .nothing (s.psuRise p l) := by
  have ht := h.updPsu_of_cAvail p (Psu.withLine l true) (by cases l <;> rfl) hs
  unfold State.psuRise
  dsimp only
  split
  · exact h.startSettle p ht
  · exact ht

theorem psuFall (p : PsuId) (l : PsuLine) (hs : P .nothing s) : P .nothing (s.psuFall p l) := by
  have ht := h.updPsu_of_cAvail p (fun r => { r.withLine l false with settle := none }) (by cases l <;> rfl) hs
  unfold State.psuFall
  dsimp only
  split
  · exact h.setCounted p false ht
  · exact ht

theorem reportFan (f : FanId) (hs : P k s) : P k (s.reportFan f) := by
  have ht := h.updFan_of_cAvail f (fun r => r.report.check) (by simp [Fan.report]) (by simp [Fan.report]) hs
  obtain e | e | ⟨x, e⟩ := s.reportFan_cases f <;> rw [e]
  exacts [hs, ht, h.raise x ht]

theorem driveFan (f : FanId) (hs : P k s) : P k (s.driveFan f) := by
  unfold State.driveFan
  split
  · exact h.updFan_of_cAvail f _ (by simp) (by simp) hs
  · exact hs

theorem intervalZone (d : Vector Nat 16) (z : ZoneId) (hs : P k s) : P k (State.intervalZone d s z) :=
  foldl _ _ (fun _ f _ ht => h.driveFan f ht)
    (h.lawless (s := (zoneFans z).foldl State.reportFan s) rfl
      (foldl _ _ (fun _ f _ ht => h.reportFan f ht) hs))

/-- A fan's presence changes: the recomputation, then the event (R125, R126). -/
theorem fanPresenceChanged (f : FanId) (g : Fan → Fan) (hs : P .nothing s) :
    P .nothing (s.fanPresenceChanged (s.updFan f g) f) :=
  h.raise _ (h.recapacity _ (h.owe s.psus _ s.chassis hs))

/-! ### Writes -/

theorem setCapacity (p : PsuId) (w : Nat) (hs : P .nothing s) : P .nothing (s.setCapacity p w) :=
  h.recapacity _ (h.owe _ s.fans s.chassis hs)

theorem setRedundancy (m : RedundancyMode) (w : Nat) (hs : P .nothing s) : P .nothing (s.setRedundancy m w) :=
  h.recapacity _ (h.owe s.psus s.fans _ hs)

theorem updFan_recapacity (f : FanId) (g : Fan → Fan) (hs : P .nothing s) :
    P .nothing ((s.updFan f g).recapacity s.cAvail) :=
  h.recapacity _ (h.owe s.psus _ s.chassis hs)

theorem chassis_of_cAvail (hs : P k s) (c : Chassis) (hm : c.mode = s.chassis.mode)
    (ho : c.overhead = s.chassis.overhead) : P k { s with chassis := c } :=
  h.supplies (s := s) s.psus s.fans c (State.cAvail_of hm ho (fun _ => rfl) fun _ => ⟨rfl, rfl⟩) hs

theorem actOnPower (i : SlotId) (p : SlotPolicy) (hs : P k s) : P k (s.actOnPower i p) := by
  unfold State.actOnPower
  dsimp only
  (repeat' split)
  exacts [hs, h.movePriority i hs, h.arbiter hs, h.arbiter (h.movePriority i hs)]

theorem actOnAdmin (i : SlotId) (p : SlotPolicy) (hs : P k s) : P k (s.actOnAdmin i p) := by
  unfold State.actOnAdmin
  (repeat' split)
  exacts [hs, h.applyEnable i hs, h.applyDisable i hs]

theorem setPolicy (i : SlotId) (p : SlotPolicy) (hs : P k s) : P k (s.setPolicy i p) :=
  h.actOnPower i _ (h.actOnAdmin i _ (h.updPolicy i _ hs))

theorem setStaleLimit (n : Nat) (hs : P k s) : P k (s.setStaleLimit n) := by
  refine foldl _ _ (fun t i _ ht => ?_) (h.chassis_of_cAvail hs { s.chassis with staleLimit := n } rfl rfl)
  split
  · exact h.clearTest i ht
  · exact ht

theorem setRole (r : PortRole) (hs : P k s) : P k (s.setRole r) := by
  have ht : ∀ x, P k { s with chassis := { s.chassis with roleSetting := x } } := fun x =>
    h.chassis_of_cAvail hs { s.chassis with roleSetting := x } rfl rfl
  unfold State.setRole
  split
  · exact hs
  · cases r with
    | stack =>
      have hu := h.applyDisable slot15 (ht .stack)
      change P k (State.setRoleStack s)
      unfold State.setRoleStack State.stackIfDisabled
      split
      · exact h.stackIfDue slot15 hu
      · exact hu
    | slot =>
      change P k (State.setRoleSlot s)
      unfold State.setRoleSlot
      dsimp only
      split
      · exact h.applyEnable slot15 (h.takeSlotRole (ht .slot))
      · exact ht .slot

theorem setChassis (c : Chassis) (hs : P .nothing s) : P .nothing (s.setChassis c) := by
  have ht := h.setStaleLimit c.staleLimit (h.setRedundancy c.mode c.overhead hs)
  unfold State.setChassis
  generalize (s.setRedundancy c.mode c.overhead).setStaleLimit c.staleLimit = t at ht ⊢
  have hu := h.setRole c.roleSetting (h.chassis_of_cAvail ht
    { t.chassis with staleDemand := c.staleDemand, bootDemand := c.bootDemand } rfl rfl)
  dsimp only
  generalize State.setRole _ c.roleSetting = u at hu ⊢
  exact h.chassis_of_cAvail hu _ rfl rfl

theorem updMap (i : SlotId) (f : UplinkMap → UplinkMap) (hf : (f (s.map i)).depth = (s.map i).depth) (hs : P k s) :
    P k (s.updMap i f) := by
  refine h.meters (s := s) s.meters (Tab.upd s.uplinkMap i f) (fun ht j => ?_) hs
  change (s.meter j).tokens ≤ ((s.updMap i f).map j).depthBytes
  have hj := ht j
  rw [State.updMap_map]
  split
  · next e => subst e; simpa [UplinkMap.depthBytes, hf] using hj
  · exact hj

theorem setRates (i : SlotId) (a b : RateCode) (hs : P k s) : P k (s.setRates i a b) :=
  h.updMeter i _ id (h.updMap i _ rfl hs)

theorem setDepth (i : SlotId) (n : Nat) (hs : P k s) : P k (s.setDepth i n) := by
  rw [State.setDepth_frame]
  refine h.meters (s := s) _ _ (fun ht j => ?_) hs
  change ((s.setDepth i n).meter j).tokens ≤ ((s.setDepth i n).map j).depthBytes
  by_cases e : j = i
  · subst e
    rw [State.setDepth_meter_self, State.setDepth_depthBytes_self]
    exact Nat.min_le_right _ _
  · rw [State.setDepth_meter_ne _ _ e, State.setDepth_map, if_neg e]
    exact ht j

theorem setMap (i : SlotId) (m : UplinkMap) (hs : P k s) : P k (s.setMap i m) :=
  h.setDepth i _ (h.setRates i _ _ (h.updMap i _ rfl hs))

theorem applyItem (n : Nat) (x : Item) (hs : P .nothing s) : P .nothing (s.applyItem n x) := by
  cases x with
  | classify e => exact h.lawless rfl hs
  | uplinkMap m => exact h.setMap _ m hs
  | group m l => exact h.setMembers _ l (h.groupMode _ m hs)
  | slotPolicy p => exact h.setPolicy _ p hs
  | psu c => exact h.setCapacity _ c hs
  | fan a b c d => exact h.updFan_recapacity _ _ hs
  | zone a b c d => exact h.lawless rfl hs
  | chassis c => exact h.setChassis c hs
  | identity r => exact h.lawless rfl hs
  | noticeCfg c => exact h.setNoticeCfg c hs

/-! ### Slot commands, wires and timers -/

theorem releaseHeld (i : SlotId) (hs : P k s) : P k (s.releaseHeld i) := by
  have ht := h.updSlot i Slot.stopHold hs
  unfold State.releaseHeld
  (repeat' split)
  exacts [h.powerRequest i ht, h.enterOnline i ht, hs]

theorem commandRelease (i : SlotId) (hs : P k s) : P k (s.commandRelease i).1 := by
  unfold State.commandRelease
  split
  · exact h.releaseHeld i hs
  · exact hs

theorem commandPowerOn (i : SlotId) (hs : P k s) : P k (s.commandPowerOn i).1 := by
  unfold State.commandPowerOn
  split
  exacts [h.powerUpPath i hs, h.powerUpPath i (h.updSlot i _ hs), hs, hs, hs, hs, hs, hs, hs, hs, hs, hs, hs]

theorem commandPowerOff (i : SlotId) (hs : P k s) : P k (s.commandPowerOff i).1 := by
  have hdrain := h.startDrain i .command .present .none hs
  unfold State.commandPowerOff
  split
  exacts [hdrain, hdrain, hdrain, hdrain, hdrain, h.enter i _ (h.updSlot i _ hs), h.enter i _ (h.withdraw i _ hs),
    hs, hs, hs, hs, hs, hs]

theorem resetSlot (i : SlotId) (hs : P k s) : P k (s.resetSlot i) :=
  have ht := h.withdraw i .upgrade (h.exitOnline i hs)
  h.raise _ (h.takeReports i _ (h.setSlotState i _ (h.setRail i _ (Rail.resetPulse_follows (State.railEnv _) _) ht)))

theorem commandReset (i : SlotId) (hs : P k s) : P k (s.commandReset i).1 := by
  unfold State.commandReset
  split
  · exact h.resetSlot i hs
  · exact hs

theorem commandClearFault (i : SlotId) (hs : P k s) : P k (s.commandClearFault i).1 := by
  unfold State.commandClearFault
  split
  · exact h.enter i _ (h.updSlot i _ hs)
  · exact hs

theorem commandRefresh (i : SlotId) (hs : P k s) : P k (s.commandRefresh i).1 := by
  unfold State.commandRefresh
  (repeat' split)
  exacts [h.startRefresh i hs, hs, hs, hs]

theorem presenceRise (i : SlotId) (hs : P k s) : P k (s.presenceRise i) := by
  have ht := h.updSlot i (fun r => { r with presence := true }) hs
  unfold State.presenceRise
  dsimp only
  split
  · exact h.enter i _ (h.updSlot i _ ht)
  · exact ht

theorem presenceFall (i : SlotId) (hs : P k s) : P k (s.presenceFall i) := by
  have ht := h.updSlot i (fun r => { r with presence := false }) hs
  unfold State.presenceFall
  dsimp only
  split
  · exact h.enterEmpty i (h.updSlot i _ ht)
  · exact h.removeBlade i ht

theorem debounced (i : SlotId) (hs : P k s) : P k (s.debounced i) := by
  have ht := h.updInv i (fun v => { v with generation := 0 }) (h.updSlot i (fun r => { r with debounce := none }) hs)
  unfold State.debounced
  dsimp only
  split
  · exact h.powerUpPath i ht
  · exact h.enter i _ ht

theorem holdExpired (i : SlotId) (hs : P k s) : P k (s.holdExpired i) := by
  unfold State.holdExpired
  (repeat' split)
  exacts [h.releaseHeld i hs, h.enter i _ (h.updSlot i _ hs), h.startDrain i _ _ _ hs, hs]

theorem retryExpired (i : SlotId) (hs : P k s) : P k (s.retryExpired i) := h.powerUpPath i (h.updSlot i _ hs)

theorem interlockOn (hs : P k s) : P k s.interlockOn :=
  h.raise _ (foldl _ _ (fun _ i _ ht => h.emergency i ht) (h.interlock (s := s) _ hs))

/-! ### The frame path -/

theorem sendUp (i : SlotId) (f : Received) (e : Option ClassEntry) (hs : P k s) : P k (s.sendUp i f e) := by
  unfold State.sendUp
  split
  · exact hs
  · exact h.transmit _ _ _ hs

theorem policed (i : SlotId) (f : Received) (e : Option ClassEntry) (hs : P k s) : P k (s.policed i f e) := by
  have ht := h.updMeter i (fun m => m.police f.raw.length)
    (fun hle => le_trans (Meter.police_tokens_le _ _) hle) hs
  unfold State.policed
  dsimp only
  split
  · exact h.sendUp i f e ht
  · exact ht

theorem upstream (i : SlotId) (f : Received) (hs : P k s) : P k (s.upstream i f) := by
  unfold State.upstream
  dsimp only
  (repeat' split)
  exacts [hs, h.policed i f _ hs, h.policed i f _ hs, h.policed i f _ (h.takeTelemetry i _ hs), h.policed i f _ hs]

theorem deliver (u : UplinkId) (f : Received) (hs : P k s) : P k (s.deliver u f) :=
  foldl _ _ (fun _ _ _ ht => h.transmit _ _ _ ht) hs

end

end KeptByUnits

end Sys2Proof.Machine

/-!
# Laws through one step

The Service Unit's changes, the commands one by one, and the step.
-/

namespace Sys2Proof.Machine

/-! ### No unit but the Service Unit changes the requests -/

/-- The requests that wait and the WRITE in application are these. -/
def requestsAre (l : List Request) (j : Option WriteJob) (_ : Owed) (s : State) : Prop :=
  s.requests = l ∧ s.writeJob = j

theorem requestsAre_keptByNotices (l : List Request) (j : Option WriteJob) : KeptByNotices (requestsAre l j) :=
  .of_ignored fun _ _ _ _ _ hs => hs

theorem requestsAre_keptByUnits (l : List Request) (j : Option WriteJob) : KeptByUnits (requestsAre l j) where
  toKeptByNotices := requestsAre_keptByNotices l j
  toKeptByStations := .of_ignored (fun _ _ hs => hs) (requestsAre_keptByNotices l j).raise
  toKeptByUplinks :=
    .of_ignored (fun _ _ _ _ hs => hs) (requestsAre_keptByNotices l j).raise (requestsAre_keptByNotices l j).attemptSend
  lawless e hs := by rw [e]; exact hs
  admissions _ _ _ hs := hs
  meters _ _ _ hs := hs
  setRail _ _ _ hs := hs
  interlock _ hs := hs
  interlockOff hs := hs
  updGrant _ _ _ hs := hs
  releasing _ hs := hs
  remark i hs := by rw [State.remark_frame]; exact hs
  supplies _ _ _ _ hs := hs
  owe _ _ _ hs := hs
  settled _ _ hs := hs

@[simp] theorem State.applyItem_requests (s : State) (n : Nat) (x : Item) : (s.applyItem n x).requests = s.requests :=
  ((requestsAre_keptByUnits s.requests s.writeJob).applyItem n x ⟨rfl, rfl⟩).1

@[simp] theorem State.applyItem_writeJob (s : State) (n : Nat) (x : Item) : (s.applyItem n x).writeJob = s.writeJob :=
  ((requestsAre_keptByUnits s.requests s.writeJob).applyItem n x ⟨rfl, rfl⟩).2

/-! ### The Service Unit -/

/-- The changes to the service input queue that no row makes on its own keep the law. -/
structure KeptByRequests (P : Owed → State → Prop) : Prop where
  takeRequest : ∀ {k s} p c f, P k s → P k (s.takeRequest p c f)
  complete : ∀ {k s} r st l, P k s → P k (s.complete r st l)
  dropRequests : ∀ {k s}, P k s → P k { s with requests := [], writeJob := none }

/-- The elementary changes of every unit keep the law. -/
structure KeptByStep (P : Owed → State → Prop) : Prop extends KeptByUnits P, KeptByRequests P where
  powerOn : ∀ pins sent pending, P .nothing { State.powerOn pins with sent := sent, pending := pending }
  startJob : ∀ {k s} j, s.requests ≠ [] → P k s → P k { s with writeJob := some j }

/-- Where a law does not read the requests, and a WRITE that ends takes nothing from it, the service input queue keeps it. -/
theorem KeptByRequests.of_ignored {P : Owed → State → Prop} (hsend : ∀ {k s} p c l, P k s → P k (s.transmit p c l))
    (hset : ∀ {k s} l, P k s → P k { s with requests := l }) (hend : ∀ {k s}, P k s → P k { s with writeJob := none }) :
    KeptByRequests P := by
  have hloop : ∀ {k : Owed} (n : Nat) {s : State}, P k s → P k (beginLoop n s) := fun {k} n => by
    induction n with
    | zero => exact fun hs => hs
    | succ n ih =>
      intro s hs
      unfold beginLoop
      split
      · exact hs
      · next r rest _ =>
        split
        · exact ih (hset (s := s.respond r _ _) rest (hsend _ _ _ hs))
        · exact hs
  refine ⟨fun {k s} p c f hs => ?_, fun {k s} r st l hs => ?_, fun {k s} hs => ?_⟩
  · have ht := hset (s.requests ++ [⟨p, f.src, c, f.dst, f.sequence, f.payload⟩]) hs
    unfold State.takeRequest State.begin
    dsimp only
    (repeat' split)
    exacts [hs, hloop _ ht, ht, hs]
  · exact hloop _ (hend (s := { s.respond r st l with requests := s.requests.tail })
      (hset (s := s.respond r st l) _ (hsend _ _ _ hs)))
  · exact hend (s := { s with requests := [] }) (hset [] hs)

/-- Where a law reads neither the requests nor the WRITE in application, the Service Unit's queue keeps it. -/
theorem KeptByStep.of_units {P : Owed → State → Prop} (h : KeptByUnits P)
    (hset : ∀ {k s} l j, P k s → P k { s with requests := l, writeJob := j })
    (hon : ∀ pins sent pending, P .nothing { State.powerOn pins with sent := sent, pending := pending }) :
    KeptByStep P where
  toKeptByUnits := h
  toKeptByRequests := .of_ignored h.transmit (fun {_ s} l hs => hset l s.writeJob hs)
    (fun {_ s} hs => hset s.requests none hs)
  powerOn := hon
  startJob {_ s} j _ hs := hset s.requests (some j) hs

theorem Meter.epoch_tokens_le {m : Meter} (depth : Nat) (h : m.tokens ≤ depth) : (m.epoch depth).tokens ≤ depth := by
  simp only [Meter.epoch, refill]
  (repeat' split)
  · exact le_rfl
  · exact h
  · exact Nat.min_le_left _ _

@[simp] theorem Fan.newPeriod_needs (f : Fan) : f.newPeriod.present = f.present ∧ f.newPeriod.fullPower = f.fullPower := by
  unfold Fan.newPeriod
  split <;> exact ⟨rfl, rfl⟩

@[simp] theorem Fan.edge_needs (f : Fan) (n : Nat) :
    (f.edge n).present = f.present ∧ (f.edge n).fullPower = f.fullPower := by
  unfold Fan.edge
  split <;> exact ⟨rfl, rfl⟩

@[simp] theorem Fan.overflowed_needs (f : Fan) :
    f.overflowed.present = f.present ∧ f.overflowed.fullPower = f.fullPower := by
  unfold Fan.overflowed
  split <;> exact ⟨rfl, rfl⟩

namespace KeptByStep

section

variable {P : Owed → State → Prop} (h : KeptByStep P) {k : Owed} {s : State}

include h

theorem admitRequest (p : PortId) (f : ServiceFrame) (hs : P k s) : P k (s.admitRequest p f) := by
  unfold State.admitRequest
  (repeat' split)
  exacts [hs, h.takeRequest p _ f hs, hs]

theorem executeRead (r : Request) (hs : P k s) : P k (s.executeRead r) := by
  unfold State.executeRead
  (repeat' split)
  exacts [h.complete r _ _ hs, h.complete r _ _ hs, h.complete r _ _ hs]

theorem executeWrite (r : Request) (hne : s.requests ≠ []) (hs : P k s) : P k (s.executeWrite r) := by
  unfold State.executeWrite
  (repeat' split)
  exacts [h.complete r _ _ hs, h.complete r _ _ hs, h.complete r _ _ hs, h.startJob _ hne hs]

theorem executeItem (r : Request) (job : WriteJob) (hne : s.requests ≠ []) (hs : P .nothing s) :
    P .nothing (s.executeItem r job) := by
  unfold State.executeItem
  split
  · exact h.complete r _ _ hs
  · next n x rest _ =>
    have ht := h.applyItem n x hs
    dsimp only
    split
    · exact h.complete r _ _ ht
    · exact h.startJob (s := s.applyItem n x) _ (by simpa using hne) ht

theorem executeSlot (r : Request) (act : State → SlotId → State × Status) (hact : ∀ i, P k (act s i).1)
    (hs : P k s) : P k (s.executeSlot r act) := by
  unfold State.executeSlot
  split
  · exact h.complete r _ _ hs
  · exact h.complete r _ _ (hact _)

theorem warmReset (hs : P k s) : P k s.warmReset :=
  h.meters (s := { s with
    requests := [], writeJob := none, notices := [], contexts := Tab.each (fun _ c => s.warmContext c) s.contexts })
    (Tab.each (fun i m => { m with tokens := (s.map i).depthBytes }) s.meters) s.uplinkMap
    (fun _ i => by simp only [State.meter, State.map, Tab.get_each]; exact le_rfl)
    (h.lawless (s := { s with requests := [], writeJob := none, notices := [] }) rfl
      (h.dropNotices (s := { s with requests := [], writeJob := none }) (h.dropRequests hs)))

theorem executeReset (r : Request) (hs : P k s) : P k (s.executeReset r) := by
  unfold State.executeReset
  split
  · exact h.complete r _ _ hs
  · exact h.raise _ (h.warmReset (h.transmit _ _ _ hs))

omit h in
theorem onHead (row : RequestRow) (act : State → Request → State)
    (hact : ∀ r, s.requests ≠ [] → P k (act s r)) (hs : P k s) : P k (s.onHead row act) := by
  unfold State.onHead State.headFor
  split
  · exact hs
  · next r he =>
    refine hact r fun hnil => ?_
    simp [hnil] at he

theorem onCommand (c : CommandCode) (act : State → SlotId → State × Status) (hact : ∀ i, P k (act s i).1)
    (hs : P k s) : P k (s.onHead (.command c) fun s r => s.executeSlot r act) :=
  onHead _ _ (fun r _ => h.executeSlot r act hact hs) hs

/-! ### The frame path -/

theorem partFromSlot (i : SlotId) (f : Received) (hs : P k s) : P k (s.partFromSlot i f) := by
  unfold State.partFromSlot
  (repeat' split)
  exacts [h.takeAnnounce i _ hs, h.takeExtend i _ hs, h.takeTelemetry i _ hs, hs, h.admitRequest _ _ hs, hs, hs]

theorem fromSlot (i : SlotId) (f : Received) (hs : P k s) : P k (s.fromSlot i f) := by
  unfold State.fromSlot
  (repeat' split)
  exacts [h.partFromSlot i f hs, h.upstream i f hs, h.lawless rfl hs]

theorem fromUplink (u : UplinkId) (f : Received) (hs : P k s) : P k (s.fromUplink u f) := by
  unfold State.fromUplink State.partFromUplink
  (repeat' split)
  exacts [h.admitRequest _ _ hs, hs, hs, h.deliver u f hs, h.deliver u f hs, h.deliver u f hs]

theorem arriveSlot (i : SlotId) (l : List Byte) (hs : P k s) : P k (s.arriveSlot i l) := by
  unfold State.arriveSlot
  (repeat' split)
  exacts [hs, h.fromSlot i _ hs, h.fromUplink _ _ hs]

theorem arriveUplink (u : UplinkId) (l : List Byte) (hs : P k s) : P k (s.arriveUplink u l) := by
  unfold State.arriveUplink
  (repeat' split)
  exacts [hs, h.fromSlot _ _ hs, h.fromUplink u _ hs]

/-! ### Time -/

theorem afterEpoch (hs : P k s) : P k s.afterEpoch :=
  h.lawless (s := { s with meters := Tab.each (fun i m => m.epoch (s.map i).depthBytes) s.meters }) rfl
    (h.meters (s := s) _ s.uplinkMap (fun ht i => by
      simp only [State.meter, State.map, Tab.get_each]
      exact Meter.epoch_tokens_le _ (ht i)) hs)

/-! ### The commands -/

omit h in
/-- A branch of a command that changes nothing in the other one. -/
theorem ite {c : Prop} [Decidable c] {t u : State} (ht : P k t) (hu : P k u) : P k (if c then t else u) := by
  split
  · exact ht
  · exact hu

/-- Every command keeps the law. -/
theorem exec (c : Instr) (hs : P .nothing s) : ∃ t, Machine.exec c s = .next t ∧ P .nothing t := by
  cases c with
  | powerOnReset pins => exact ⟨_, rfl, h.powerOn pins s.sent s.pending⟩
  | presenceAsserted i => exact ⟨_, rfl, ite hs (h.presenceRise i hs)⟩
  | presenceDeasserted i => exact ⟨_, rfl, ite (h.presenceFall i hs) hs⟩
  | debounceExpiry i => exact ⟨_, rfl, ite (h.debounced i hs) hs⟩
  | holdTimerExpiry i => exact ⟨_, rfl, ite (h.holdExpired i hs) hs⟩
  | retryTimerExpiry i => exact ⟨_, rfl, ite (h.retryExpired i hs) hs⟩
  | deadIntervalExpiry i => exact ⟨_, rfl, h.railStep i _ (Rail.deadExpiry_follows s.railEnv _) hs⟩
  | powerGoodAsserted i => exact ⟨_, rfl, ite hs (h.railStep i _ (Rail.powerGoodRise_follows s.railEnv _ _) hs)⟩
  | powerGoodFall i => exact ⟨_, rfl, ite (h.railStep i _ (Rail.powerGoodFall_follows _ _) hs) hs⟩
  | powerGoodTimerExpiry i => exact ⟨_, rfl, h.railStep i _ (Rail.powerGoodExpiry_follows _ _) hs⟩
  | resetHoldExpiry i => exact ⟨_, rfl, h.railStep i _ (Rail.resetExpiry_follows _ _) hs⟩
  | dischargeTimerExpiry i => exact ⟨_, rfl, h.railStep i _ (Rail.dischargeExpiry_follows s.railEnv _ _) hs⟩
  | interlockAsserted => exact ⟨_, rfl, ite hs (h.interlockOn hs)⟩
  | interlockReleased => exact ⟨_, rfl, ite (h.raise _ (h.arbiter (h.interlockOff hs))) hs⟩
  | psuLineAsserted p l => exact ⟨_, rfl, ite hs (h.psuRise p l hs)⟩
  | psuLineDeasserted p l => exact ⟨_, rfl, ite (h.psuFall p l hs) hs⟩
  | settleTimerExpiry p => exact ⟨_, rfl, ite (h.setCounted p true hs) hs⟩
  | announce i f => exact ⟨_, rfl, ite (h.takeAnnounce i f hs) hs⟩
  | waitExtend i f => exact ⟨_, rfl, ite (h.takeExtend i f hs) hs⟩
  | announceDeadlineExpiry i => exact ⟨_, rfl, ite (h.failContext i _ _ hs) hs⟩
  | telemetry i f => exact ⟨_, rfl, ite (h.takeTelemetry i _ hs) hs⟩
  | sensorStale i x => exact ⟨_, rfl, ite (h.clearTest i (h.updThermal i _ hs)) hs⟩
  | criticalGraceExpiry i => exact ⟨_, rfl, ite (h.graceExpired i hs) hs⟩
  | controlInterval => exact ⟨_, rfl, KeptByUnits.foldl _ _ (fun _ z _ ht => h.intervalZone _ z ht) hs⟩
  | pwmPeriodStart f => exact ⟨_, rfl, h.updFan_of_cAvail f _ (by simp) (by simp) hs⟩
  | tachEdge f n => exact ⟨_, rfl, h.updFan_of_cAvail f _ (by simp) (by simp) hs⟩
  | overflowTimerExpiry f => exact ⟨_, rfl, h.updFan_of_cAvail f _ (by simp) (by simp) hs⟩
  | fanPresenceDeasserted f => exact ⟨_, rfl, ite (h.fanPresenceChanged f _ hs) hs⟩
  | fanPresenceAsserted f => exact ⟨_, rfl, ite hs (h.fanPresenceChanged f _ hs)⟩
  | linkUp p =>
    refine ⟨_, rfl, ?_⟩
    split
    · exact hs
    · next hdown => exact h.linkRise p (by simpa using hdown) hs
  | linkDown p => exact ⟨_, rfl, ite (h.linkFall p hs) hs⟩
  | holdDownExpiry u => exact ⟨_, rfl, h.holdDownExpiry u hs⟩
  | slotPortFrame i l => exact ⟨_, rfl, h.arriveSlot i l hs⟩
  | uplinkPortFrame u l => exact ⟨_, rfl, h.arriveUplink u l hs⟩
  | epoch => exact ⟨_, rfl, h.afterEpoch hs⟩
  | request p f => exact ⟨_, rfl, h.admitRequest p f hs⟩
  | read => exact ⟨_, rfl, onHead _ _ (fun r _ => h.executeRead r hs) hs⟩
  | write => exact ⟨_, rfl, onHead _ _ (fun r hne => h.executeWrite r hne hs) hs⟩
  | powerOn => exact ⟨_, rfl, h.onCommand _ _ (fun i => h.commandPowerOn i hs) hs⟩
  | powerOff => exact ⟨_, rfl, h.onCommand _ _ (fun i => h.commandPowerOff i hs) hs⟩
  | release => exact ⟨_, rfl, h.onCommand _ _ (fun i => h.commandRelease i hs) hs⟩
  | reset => exact ⟨_, rfl, h.onCommand _ _ (fun i => h.commandReset i hs) hs⟩
  | refresh => exact ⟨_, rfl, h.onCommand _ _ (fun i => h.commandRefresh i hs) hs⟩
  | clearFault => exact ⟨_, rfl, h.onCommand _ _ (fun i => h.commandClearFault i hs) hs⟩
  | controllerReset => exact ⟨_, rfl, onHead _ _ (fun r _ => h.executeReset r hs) hs⟩
  | adminEnableWrite i b => exact ⟨_, rfl, h.actOnAdmin i _ (h.updPolicy i _ hs)⟩
  | roleSettingStackWrite => exact ⟨_, rfl, h.setRole .stack hs⟩
  | roleSettingSlotWrite => exact ⟨_, rfl, h.setRole .slot hs⟩
  | powerPolicyWrite i a b c => exact ⟨_, rfl, h.actOnPower i _ (h.updPolicy i _ hs)⟩
  | psuCapacityWrite p w => exact ⟨_, rfl, h.setCapacity p _ hs⟩
  | redundancyModeWrite m w => exact ⟨_, rfl, h.setRedundancy m _ hs⟩
  | fanFullPowerWrite f w => exact ⟨_, rfl, h.updFan_recapacity f _ hs⟩
  | minDemandWrite z w => exact ⟨_, rfl, h.lawless rfl hs⟩
  | staleLimitWrite n => exact ⟨_, rfl, h.setStaleLimit _ hs⟩
  | rateCodeWrite i a b => exact ⟨_, rfl, h.setRates i a b hs⟩
  | bucketDepthWrite i n => exact ⟨_, rfl, h.setDepth i _ hs⟩
  | memberListWrite g l => exact ⟨_, rfl, ite (h.setMembers g _ hs) hs⟩
  | classifyEntryWrite n e => exact ⟨_, rfl, h.lawless rfl hs⟩
  | serviceEthertypeWrite v =>
    exact ⟨_, rfl, ite (h.chassis_of_cAvail hs { s.chassis with etherType := v } rfl rfl) hs⟩
  | noticeCfgWrite c => exact ⟨_, rfl, h.setNoticeCfg _ hs⟩
  | writeItem =>
    refine ⟨_, rfl, ?_⟩
    split
    · next job r _ _ hr => exact h.executeItem r job (by simp [hr]) hs
    · exact hs
    · exact hs
  | warmResetInputAsserted => exact ⟨_, rfl, ite hs (h.lawless (s := s.warmReset) rfl (h.warmReset hs))⟩
  | warmResetInputDeasserted => exact ⟨_, rfl, ite (h.raise _ (h.lawless (s := s) rfl hs)) hs⟩
  | spacingTimerExpiry => exact ⟨_, rfl, h.attemptSend (h.spacing _ hs)⟩

/-- Every step keeps the law. -/
theorem step {t : State} (hs : P .nothing s) (ht : Machine.step s = .next t) : P .nothing t := by
  unfold Machine.step at ht
  split at ht
  · cases ht
    exact hs
  · next c rest _ =>
    obtain ⟨u, hu, hP⟩ := h.exec c (h.lawless (s := s) (t := { s with pending := rest }) rfl hs)
    rw [hu] at ht
    cases ht
    exact hP

end

end KeptByStep

end Sys2Proof.Machine

/-!
# The invariants O54, O55, O56, O59 and the Station Table of O58

Each law is `KeptByStep`; what it does not read is left to the `of_ignored` lemmas.
-/

namespace Sys2Proof.Machine

/-! ### Rails (O54) -/

/-- A remark changes a rail record in its power-cap line alone. -/
theorem State.remark_rail (s : State) (i j : SlotId) : ∃ b, (s.remark i).rail j = { s.rail j with powerCap := b } := by
  unfold State.remark State.refreshRate
  split
  · exact ⟨_, rfl⟩
  · by_cases e : j = i
    · subst e
      exact ⟨(s.grantOf j).shouldCap, by simp⟩
    · exact ⟨(s.rail j).powerCap, by simp [State.updRail_rail_ne _ _ e]⟩

theorem Rail.lawful_withCap (r : Rail) (b : Bool) : Rail.lawful { r with powerCap := b } ↔ r.lawful := Iff.rfl

theorem Rail.interlock_lawful (v : RailEnv) (r : Rail) (h : r.lawful) :
    (r.interlock v).lawful ∧ (r.interlock v).mainEnable = false := by
  simp only [Rail.interlock, Rail.releaseMain, Rail.lawful] at *
  (repeat' split) <;> grind

theorem State.setRail_rail (s : State) (i j : SlotId) (r : Rail) :
    (s.setRail i r).rail j = if j = i then r else s.rail j :=
  State.updRail_rail s i _ j

/-- The law of the rails, owing nothing. -/
def railsLaw (_ : Owed) (s : State) : Prop := s.railsLawful

theorem railsLaw_keptByNotices : KeptByNotices railsLaw := .of_ignored fun _ _ _ _ _ hs => hs

theorem railsLaw_keptByUnits : KeptByUnits railsLaw where
  toKeptByNotices := railsLaw_keptByNotices
  toKeptByStations := .of_ignored (fun _ _ hs => hs) railsLaw_keptByNotices.raise
  toKeptByUplinks := .of_ignored (fun _ _ _ _ hs => hs) railsLaw_keptByNotices.raise railsLaw_keptByNotices.attemptSend
  lawless e hs := by rw [e]; exact hs
  admissions _ _ _ hs := hs
  meters _ _ _ hs := hs
  setRail {k s} i r hr hs j := by
    rw [State.setRail_rail]
    split
    · exact ⟨hr.lawful (hs i).1, fun hi => hr.main hi ((hs i).2 hi)⟩
    · exact hs j
  interlock v hs j := by
    obtain ⟨hlaw, hmain⟩ := Rail.interlock_lawful v _ (hs j).1
    simp only [State.rail, Tab.get_each] at *
    exact ⟨hlaw, fun _ => hmain⟩
  interlockOff hs j := ⟨(hs j).1, fun hi => absurd hi (by simp)⟩
  updGrant _ _ _ hs := hs
  releasing _ hs := hs
  remark {k s} i hs j := by
    obtain ⟨b, hb⟩ := s.remark_rail i j
    have hi : (s.remark i).interlock = s.interlock := State.interlock_of_settings (s.remark_settings i)
    rw [hb, hi]
    exact hs j
  supplies _ _ _ _ hs := hs
  owe _ _ _ hs := hs
  settled _ _ hs := hs

theorem railPowerOn_lawful (b : Bool) : (railPowerOn b).lawful ∧ (railPowerOn b).mainEnable = false := by
  simp [Rail.lawful, railPowerOn]

theorem railsLaw_powerOn (pins : Pins) : (State.powerOn pins).railsLawful := fun i => by
  simp only [State.rail, State.powerOn, Tab.get_make]
  exact ⟨(railPowerOn_lawful _).1, fun _ => (railPowerOn_lawful _).2⟩

/-- Settles O54: the law of the rails is kept by every elementary change. -/
theorem stepKeepsRailsLawful : Obligations.StepKeepsRailsLawful := by
  unfold Obligations.StepKeepsRailsLawful
  intro s t hs ht
  exact (KeptByStep.of_units railsLaw_keptByUnits (fun _ _ hs => hs) fun pins _ _ => railsLaw_powerOn pins).step hs ht

/-! ### The budget (O55) -/

theorem budgetLaw_powerOn (pins : Pins) : (State.powerOn pins).budgetHeld :=
  State.headroom_nonneg_of_none_held fun i => by simp [State.grantOf, State.powerOn, grantPowerOn, Grant.held]

/-- Settles O55: a grant grows only within the headroom, and what a change of C_avail takes the recomputation restores. -/
theorem stepKeepsBudget : Obligations.StepKeepsBudget := by
  unfold Obligations.StepKeepsBudget
  intro s t hs ht
  have hon : ∀ (pins : Pins) (l : List Sent) (p : List Instr),
      budgetLaw .nothing { State.powerOn pins with sent := l, pending := p } := fun pins _ _ =>
    budgetLaw_frame (k := .nothing) (s := State.powerOn pins) (budgetLaw_powerOn pins) rfl rfl rfl rfl
  exact (KeptByStep.of_units budgetLaw_keptByUnits
    (fun _ _ hs => budgetLaw_frame hs rfl rfl rfl rfl) hon).step (P := budgetLaw) hs ht

/-! ### Cap lines (O56) -/

/-- Each power-cap line is the capped mark, and the mark, where it is not owed, what R76 asks. -/
def capLinesLaw (k : Owed) (s : State) : Prop :=
  ∀ i, (s.rail i).powerCap = (s.grantOf i).capped ∧ (i ∉ k.marks → (s.grantOf i).capped = (s.grantOf i).shouldCap)

theorem capLinesLaw_nothing (s : State) : capLinesLaw .nothing s ↔ s.capLinesLawful := by
  simp only [capLinesLaw, State.capLinesLawful, Owed.nothing, Set.mem_empty_iff_false, not_false_eq_true, true_imp_iff]
  exact forall_congr' fun i => and_comm

theorem Rail.interlock_powerCap (v : RailEnv) (r : Rail) : (r.interlock v).powerCap = r.powerCap := by
  simp only [Rail.interlock, Rail.releaseMain]
  cases r.op <;> (repeat' split) <;> rfl

theorem State.remark_powerCap (s : State) (i : SlotId) (h : (s.rail i).powerCap = (s.grantOf i).capped) :
    ((s.remark i).rail i).powerCap = (s.grantOf i).shouldCap := by
  unfold State.remark State.refreshRate
  split
  · next e => rw [h, e]
  · simp

theorem State.remark_rail_ne (s : State) {i j : SlotId} (h : j ≠ i) : (s.remark i).rail j = s.rail j := by
  unfold State.remark State.refreshRate
  split
  · rfl
  · simp [State.updRail_rail_ne _ _ h]

theorem capLinesLaw_keptByNotices : KeptByNotices capLinesLaw := .of_ignored fun _ _ _ _ _ hs => hs

theorem capLinesLaw_keptByUnits : KeptByUnits capLinesLaw where
  toKeptByNotices := capLinesLaw_keptByNotices
  toKeptByStations := .of_ignored (fun _ _ hs => hs) capLinesLaw_keptByNotices.raise
  toKeptByUplinks :=
    .of_ignored (fun _ _ _ _ hs => hs) capLinesLaw_keptByNotices.raise capLinesLaw_keptByNotices.attemptSend
  lawless e hs := by rw [e]; exact hs
  admissions t n ht hs i := by
    obtain ⟨a, ha⟩ := ht i
    have hi := hs i
    simp only [State.grantOf, State.rail] at *
    rw [ha]
    exact hi
  meters _ _ _ hs := hs
  setRail {k s} i r hr hs j := by
    rw [State.setRail_rail]
    refine ⟨?_, (hs j).2⟩
    split
    · next e => subst e; exact hr.powerCap.trans (hs j).1
    · exact (hs j).1
  interlock v hs j := by
    have hj := hs j
    simp only [State.rail, State.grantOf, Tab.get_each, Rail.interlock_powerCap] at *
    exact hj
  interlockOff hs := hs
  updGrant {k s} i f ha hs j := by
    rw [State.updGrant_grantOf, State.updGrant_rail]
    by_cases e : j = i
    · subst e
      rw [if_pos rfl]
      exact ⟨(hs j).1.trans ha.capped.symm, fun hj => absurd (Set.mem_insert j _) hj⟩
    · rw [if_neg e]
      exact ⟨(hs j).1, fun hj => (hs j).2 fun hk => hj (Set.mem_insert_of_mem _ hk)⟩
  releasing i hs j := by
    rw [State.updGrant_grantOf, State.updGrant_rail]
    split
    · next e => subst e; exact hs j
    · exact hs j
  remark {k s} i hs j := by
    by_cases e : j = i
    · subst e
      rw [State.remark_powerCap s j (hs j).1, State.remark_grantOf, if_pos rfl]
      exact ⟨rfl, fun _ => rfl⟩
    · rw [State.remark_rail_ne s e, State.remark_grantOf, if_neg e]
      exact ⟨(hs j).1, fun hk => (hs j).2 fun hj => (Set.mem_insert_iff.1 hj).elim e hk⟩
  supplies _ _ _ _ hs := hs
  owe _ _ _ hs := hs
  settled _ _ hs := hs

theorem capLinesLawful_powerOn (pins : Pins) : (State.powerOn pins).capLinesLawful := fun i => by
  simp [State.grantOf, State.rail, State.powerOn, grantPowerOn, railPowerOn, Grant.shouldCap]

/-- Settles O56: every change of a grant that the mark rests on is followed by a remark of its slot. -/
theorem stepKeepsCapLines : Obligations.StepKeepsCapLines := by
  unfold Obligations.StepKeepsCapLines
  intro s t hs ht
  rw [← capLinesLaw_nothing] at hs ⊢
  exact (KeptByStep.of_units capLinesLaw_keptByUnits (fun _ _ hs => hs)
    fun pins _ _ => (capLinesLaw_nothing (State.powerOn pins)).2 (capLinesLawful_powerOn pins)).step hs ht

/-! ### Tokens (O59) -/

/-- The law of the buckets, owing nothing. -/
def tokensLaw (_ : Owed) (s : State) : Prop := s.tokensHeld

theorem State.remark_tokens (s : State) (i j : SlotId) : ((s.remark i).meter j).tokens = (s.meter j).tokens := by
  unfold State.remark State.refreshRate
  split
  · rfl
  · rw [State.updMeter_meter]
    split
    · next e => subst e; rfl
    · rfl

theorem tokensLaw_keptByNotices : KeptByNotices tokensLaw := .of_ignored fun _ _ _ _ _ hs => hs

theorem tokensLaw_keptByUnits : KeptByUnits tokensLaw where
  toKeptByNotices := tokensLaw_keptByNotices
  toKeptByStations := .of_ignored (fun _ _ hs => hs) tokensLaw_keptByNotices.raise
  toKeptByUplinks :=
    .of_ignored (fun _ _ _ _ hs => hs) tokensLaw_keptByNotices.raise tokensLaw_keptByNotices.attemptSend
  lawless e hs := by rw [e]; exact hs
  admissions _ _ _ hs := hs
  meters _ _ hm hs := hm hs
  setRail _ _ _ hs := hs
  interlock _ hs := hs
  interlockOff hs := hs
  updGrant _ _ _ hs := hs
  releasing _ hs := hs
  remark {k s} i hs j := by
    have hmap : (s.remark i).uplinkMap = s.uplinkMap := State.uplinkMap_of_settings (s.remark_settings i)
    rw [State.remark_tokens, State.map, hmap]
    exact hs j
  supplies _ _ _ _ hs := hs
  owe _ _ _ hs := hs
  settled _ _ hs := hs

theorem tokensHeld_powerOn (pins : Pins) : (State.powerOn pins).tokensHeld := fun i => by
  simp [State.meter, State.map, State.powerOn, meterPowerOn, UplinkMap.depthBytes]

theorem stepKeepsTokens {s t : State} (hs : s.tokensHeld) (ht : step s = .next t) : t.tokensHeld :=
  (KeptByStep.of_units tokensLaw_keptByUnits (fun _ _ hs => hs) fun pins _ _ => tokensHeld_powerOn pins).step
    (P := tokensLaw) hs ht

/-! ### Requests (O59) -/

/-- The law of the service input queue, owing nothing. -/
def requestsLaw (_ : Owed) (s : State) : Prop := s.requestsHeld

theorem requestsLaw_keptByNotices : KeptByNotices requestsLaw := .of_ignored fun _ _ _ _ _ hs => hs

theorem requestsLaw_keptByUnits : KeptByUnits requestsLaw where
  toKeptByNotices := requestsLaw_keptByNotices
  toKeptByStations := .of_ignored (fun _ _ hs => hs) requestsLaw_keptByNotices.raise
  toKeptByUplinks :=
    .of_ignored (fun _ _ _ _ hs => hs) requestsLaw_keptByNotices.raise requestsLaw_keptByNotices.attemptSend
  lawless e hs := by rw [e]; exact hs
  admissions _ _ _ hs := hs
  meters _ _ _ hs := hs
  setRail _ _ _ hs := hs
  interlock _ hs := hs
  interlockOff hs := hs
  updGrant _ _ _ hs := hs
  releasing _ hs := hs
  remark i hs := by rw [State.remark_frame]; exact hs
  supplies _ _ _ _ hs := hs
  owe _ _ _ hs := hs
  settled _ _ hs := hs

/-- Requests that no row names leave the head one by one; no WRITE comes into application by it. -/
theorem beginLoop_requests (n : Nat) :
    ∀ s : State, (beginLoop n s).writeJob = s.writeJob ∧ (beginLoop n s).requests.length ≤ s.requests.length := by
  induction n with
  | zero => exact fun s => ⟨rfl, le_rfl⟩
  | succ n ih =>
    intro s
    unfold beginLoop
    split
    · exact ⟨rfl, le_rfl⟩
    · next r rest hr =>
      split
      · obtain ⟨hjob, hlen⟩ := ih { s.respond r ((s.checkRequest r).getD .badValue) [] with requests := rest }
        refine ⟨hjob.trans ?_, hlen.trans ?_⟩
        · simp [State.respond]
        · simp [hr]
      · exact ⟨rfl, le_rfl⟩

theorem requestsHeld_of_noJob {s : State} (hj : s.writeJob = none) (hl : s.requests.length ≤ 4) : s.requestsHeld :=
  ⟨hl, fun h => absurd hj h⟩

theorem State.begin_requestsHeld {s : State} (hj : s.writeJob = none) (hl : s.requests.length ≤ 4) :
    s.begin.requestsHeld := by
  obtain ⟨hjob, hlen⟩ := beginLoop_requests s.requests.length s
  exact requestsHeld_of_noJob (hjob.trans hj) (hlen.trans hl)

theorem State.takeRequest_requestsHeld {s : State} (p : PortId) (k : IdentityId) (f : ServiceFrame)
    (hs : s.requestsHeld) : (s.takeRequest p k f).requestsHeld := by
  obtain ⟨hlen, hjob⟩ := hs
  unfold State.takeRequest
  dsimp only
  (repeat' split)
  · exact ⟨hlen, hjob⟩
  · next hnil => exact State.begin_requestsHeld (by_contra fun hj => hjob hj hnil) (by simp [hnil])
  · next hlt _ =>
    refine ⟨?_, fun _ => by simp⟩
    simp only [Config.serviceQueuePlaces] at hlt
    simp only [List.length_append, List.length_singleton]
    omega
  · exact ⟨hlen, hjob⟩

theorem requestsLaw_keptByStep : KeptByStep requestsLaw where
  toKeptByUnits := requestsLaw_keptByUnits
  powerOn _ _ _ := requestsHeld_of_noJob rfl (Nat.zero_le _)
  takeRequest p c f hs := State.takeRequest_requestsHeld p c f hs
  complete {k s} r st l hs := State.begin_requestsHeld rfl (by
    have h4 : s.requests.length ≤ 4 := hs.1
    simp only [List.length_tail]
    omega)
  startJob j hne hs := ⟨hs.1, fun _ => hne⟩
  dropRequests _ := requestsHeld_of_noJob rfl (Nat.zero_le _)

/-! ### Notices (O59) -/

/-- The law of the Notice Queue, owing nothing. -/
def noticesLaw (_ : Owed) (s : State) : Prop := s.noticesHeld

theorem Source.code_lt (x : Source) : x.code < 32 := by
  cases x <;> simp only [Source.code] <;> omega

theorem Source.code_injective : Function.Injective Source.code := by
  intro x y h
  cases x <;> cases y <;> simp only [Source.code, Source.slot.injEq, Source.psu.injEq, Source.zone.injEq,
    Source.uplink.injEq, reduceCtorEq, Fin.ext_iff] at * <;> omega

/-- There are 32 sources. -/
theorem length_le_of_nodup_sources {l : List Notice} (h : (l.map Notice.source).Nodup) : l.length ≤ 32 := by
  have hcodes : ((l.map Notice.source).map Source.code).Nodup := h.map Source.code_injective
  have hsub : ((l.map Notice.source).map Source.code).Subperm (List.range 32) :=
    hcodes.subperm fun n hn => by
      obtain ⟨x, -, rfl⟩ := List.mem_map.1 hn
      exact List.mem_range.2 x.code_lt
  simpa using hsub.length_le

theorem noticesHeld_iff (s : State) : s.noticesHeld ↔ (s.notices.map Notice.source).Nodup :=
  ⟨And.left, fun h => ⟨h, length_le_of_nodup_sources h⟩⟩

theorem noticesHeld_of_sublist {s t : State} (h : (t.notices.map Notice.source).Sublist (s.notices.map Notice.source))
    (hs : s.noticesHeld) : t.noticesHeld := by
  rw [noticesHeld_iff] at *
  exact hs.sublist h

theorem State.attemptSend_sublist (s : State) :
    (s.attemptSend.notices.map Notice.source).Sublist (s.notices.map Notice.source) := by
  unfold State.attemptSend
  split
  · exact List.Sublist.refl _
  · next n rest hn =>
    split
    · rw [State.sendNotice, State.transmit_frame, hn]
      exact List.sublist_cons_self _ _
    · exact List.Sublist.refl _

theorem State.attemptSend_noticesHeld {s : State} (hs : s.noticesHeld) : s.attemptSend.noticesHeld :=
  noticesHeld_of_sublist s.attemptSend_sublist hs

theorem State.raise_noticesHeld {s : State} (e : Event) (hs : s.noticesHeld) : (s.raise e).noticesHeld := by
  unfold State.raise
  split
  · split
    · refine noticesHeld_of_sublist (s := s) ?_ hs
      have hsource : ∀ n : Notice, (if n.source = e.source then n.fold e else n).source = n.source := fun n => by
        split <;> rfl
      simp [List.map_map, Function.comp_def, hsource]
    · next hnew =>
      refine State.attemptSend_noticesHeld ((noticesHeld_iff _).2 ?_)
      rw [noticesHeld_iff] at hs
      simp only [List.any_eq_true, decide_eq_true_eq, not_exists, not_and] at hnew
      simp only [List.map_append, List.map_cons, List.map_nil]
      refine List.nodup_append.2 ⟨hs, List.nodup_singleton _, fun x hx y hy => ?_⟩
      obtain ⟨n, hn, rfl⟩ := List.mem_map.1 hx
      rw [List.mem_singleton.1 hy]
      exact hnew n hn
  · exact hs

theorem noticesLaw_keptByNotices : KeptByNotices noticesLaw where
  transmit p c l hs := by rw [State.transmit_frame]; exact hs
  raise e hs := State.raise_noticesHeld e hs
  attemptSend hs := State.attemptSend_noticesHeld hs
  spacing _ hs := hs
  setNoticeCfg {k s} c hs := State.attemptSend_noticesHeld (noticesHeld_of_sublist (s := s) (by
    dsimp only
    split
    · exact List.Sublist.refl _
    · exact List.nil_sublist _) hs)
  dropNotices _ := ⟨List.nodup_nil, Nat.zero_le _⟩

theorem noticesLaw_keptByUnits : KeptByUnits noticesLaw where
  toKeptByNotices := noticesLaw_keptByNotices
  toKeptByStations := .of_ignored (fun _ _ hs => hs) noticesLaw_keptByNotices.raise
  toKeptByUplinks :=
    .of_ignored (fun _ _ _ _ hs => hs) noticesLaw_keptByNotices.raise noticesLaw_keptByNotices.attemptSend
  lawless e hs := by rw [e]; exact hs
  admissions _ _ _ hs := hs
  meters _ _ _ hs := hs
  setRail _ _ _ hs := hs
  interlock _ hs := hs
  interlockOff hs := hs
  updGrant _ _ _ hs := hs
  releasing _ hs := hs
  remark i hs := by rw [State.remark_frame]; exact hs
  supplies _ _ _ _ hs := hs
  owe _ _ _ hs := hs
  settled _ _ hs := hs

theorem noticesHeld_powerOn (pins : Pins) : (State.powerOn pins).noticesHeld := ⟨List.nodup_nil, Nat.zero_le _⟩

theorem stepKeepsNotices {s t : State} (hs : s.noticesHeld) (ht : step s = .next t) : t.noticesHeld :=
  (KeptByStep.of_units noticesLaw_keptByUnits (fun _ _ hs => hs) fun pins _ _ => noticesHeld_powerOn pins).step
    (P := noticesLaw) hs ht

/-- Settles O59: the three laws of the buckets, the requests and the notices are kept by every elementary change. -/
theorem stepKeepsQueuesBounded : Obligations.StepKeepsQueuesBounded := by
  unfold Obligations.StepKeepsQueuesBounded
  exact ⟨fun _ _ => stepKeepsTokens, fun _ _ hs ht => requestsLaw_keptByStep.step hs ht, fun _ _ => stepKeepsNotices⟩

end Sys2Proof.Machine

/-!
# The frame path's tables (O58), and the laws at reset (O60)
-/

namespace Sys2Proof.Machine

/-! ### The Station Table (R157) -/

theorem holdsAddr_iff (a : Addr) (e : Option Station) : holdsAddr a e = true ↔ ∃ x, e = some x ∧ x.addr = a := by
  cases e <;> simp [holdsAddr]

/-- An address without a holder stands in no entry. -/
theorem State.not_held_of_holder {s : State} {a : Addr} (h : (s.holder a).isSome = false) (n : Fin 64) (x : Station)
    (hx : s.station n = some x) : x.addr ≠ a := by
  intro he
  unfold State.holder at h
  split at h
  · next hnone =>
    rw [List.find?_eq_none] at hnone
    exact hnone n (List.mem_finRange n) ((holdsAddr_iff _ _).2 ⟨x, hx, he⟩)
  · next m hm =>
    have hheld : holdsAddr a (s.station m) = true := List.find?_some (p := fun n => holdsAddr a (s.station n)) hm
    obtain ⟨y, hy, -⟩ := (holdsAddr_iff _ _).1 hheld
    rw [hy] at h
    exact absurd h (by simp)

theorem State.install_stationsDistinct {s : State} {a : Addr} (i : SlotId) (hs : s.stationsDistinct)
    (hfree : ∀ n x, s.station n = some x → x.addr ≠ a) : (s.install a i).stationsDistinct := by
  unfold State.install
  split
  · exact hs
  · intro j l x y hx hy hxy
    rw [State.updStation_station] at hx hy
    split at hx <;> split at hy
    · next ej el => rw [ej, el]
    · cases hx
      exact absurd hxy.symm (hfree l y hy)
    · cases hy
      exact absurd hxy (hfree j x hx)
    · exact hs j l x y hx hy hxy

theorem stationsDistinct_congr {s t : State} (h : t.stations = s.stations) (hs : s.stationsDistinct) :
    t.stationsDistinct := by
  simp only [State.stationsDistinct, State.station, h]
  exact hs

theorem State.updStation_none_distinct {s : State} (n : Fin 64) (hs : s.stationsDistinct) :
    (s.updStation n fun _ => none).stationsDistinct := by
  intro j l x y hx hy hxy
  rw [State.updStation_station] at hx hy
  split at hx
  · cases hx
  · split at hy
    · cases hy
    · exact hs j l x y hx hy hxy

theorem State.reoffer_stationsDistinct {s : State} (a : Addr) (hs : s.stationsDistinct)
    (hfree : ∀ n x, s.station n = some x → x.addr ≠ a) : (s.reoffer a).stationsDistinct := by
  unfold State.reoffer
  split
  · exact hs
  · next i _ =>
    exact stationsDistinct_congr (s := s.install a i) (by simp) (State.install_stationsDistinct i hs hfree)

/-- Once its entry is removed a distinct address is held by no entry. -/
theorem State.removeStation_stationsDistinct {s : State} {n : Fin 64} {e : Station} (he : s.station n = some e)
    (hs : s.stationsDistinct) : (s.removeStation n e).stationsDistinct := by
  have hgone : ((s.updStation n fun _ => none).raise (.addressChange e.slot)).stationsDistinct :=
    stationsDistinct_congr (by simp) (State.updStation_none_distinct n hs)
  refine State.reoffer_stationsDistinct e.addr hgone fun m x hx hxa => ?_
  rw [State.raise_station, State.updStation_station] at hx
  split at hx
  · cases hx
  · next hne => exact hne (hs m n x e hx he hxa)

theorem State.offer_stationsDistinct {s : State} (i : SlotId) (pos : Nat) (a : Addr) (hs : s.stationsDistinct) :
    (s.offer i pos a).stationsDistinct := by
  have ht : (if s.offerAnswer a = .installed then s.install a i else s).stationsDistinct := by
    split
    · next hans =>
      refine State.install_stationsDistinct i hs (State.not_held_of_holder ?_)
      unfold State.offerAnswer at hans
      (repeat' split at hans) <;> simp_all
    · exact hs
  exact stationsDistinct_congr (by simp [State.offer, State.setAddrStatus]) ht

/-- The law of the Station Table, owing nothing. -/
def stationsLaw (_ : Owed) (s : State) : Prop := s.stationsDistinct

theorem stationsLaw_keptByNotices : KeptByNotices stationsLaw := .of_ignored fun _ _ _ _ _ hs => hs

theorem stationsLaw_keptByUnits : KeptByUnits stationsLaw where
  toKeptByNotices := stationsLaw_keptByNotices
  removeStation _ _ he hs := State.removeStation_stationsDistinct he hs
  offer i pos a hs := State.offer_stationsDistinct i pos a hs
  toKeptByUplinks :=
    .of_ignored (fun _ _ _ _ hs => hs) stationsLaw_keptByNotices.raise stationsLaw_keptByNotices.attemptSend
  lawless e hs := by rw [e]; exact hs
  admissions _ _ _ hs := hs
  meters _ _ _ hs := hs
  setRail _ _ _ hs := hs
  interlock _ hs := hs
  interlockOff hs := hs
  updGrant _ _ _ hs := hs
  releasing _ hs := hs
  remark i hs := by rw [State.remark_frame]; exact hs
  supplies _ _ _ _ hs := hs
  owe _ _ _ hs := hs
  settled _ _ hs := hs

theorem stationsDistinct_powerOn (pins : Pins) : (State.powerOn pins).stationsDistinct := by
  intro j k x y hx
  simp [State.station, State.powerOn] at hx

/-! ### Uplinks and active lists (R146 to R150) -/

theorem State.recomputeGroup_group (s : State) (g h : GroupId) (l : List UplinkId) :
    (s.recomputeGroup g l).group h =
      if h = g then { s.group g with active := s.usableMembers (s.group g).members } else s.group h := by
  split
  · next e =>
    subst e
    unfold State.recomputeGroup
    dsimp only
    split
    · next he => rw [he]
    · simp
  · next e => exact s.recomputeGroup_group_ne g h l e

theorem State.usableMembers_congr {s t : State} (h : t.uplinks = s.uplinks) (l : List UplinkId) :
    t.usableMembers l = s.usableMembers l := by
  simp only [State.usableMembers, State.uplink, h]

/-- The recomputation of an uplink's groups: each of its groups has its usable members active, the others stand. -/
theorem State.recomputeMembers_spec (s : State) (u : UplinkId) :
    (s.recomputeMembers u).uplinks = s.uplinks ∧
    ∀ g, (s.recomputeMembers u).group g =
      if u ∈ (s.group g).members then { s.group g with active := s.usableMembers (s.group g).members }
      else s.group g := by
  have hfold : ∀ (l : List GroupId) (s : State),
      let t := l.foldl (fun s g =>
        if (s.group g).members.contains u then s.recomputeGroup g (s.group g).members else s) s
      t.uplinks = s.uplinks ∧ ∀ g, t.group g =
        if g ∈ l ∧ u ∈ (s.group g).members then { s.group g with active := s.usableMembers (s.group g).members }
        else s.group g := by
    intro l
    induction l with
    | nil => exact fun s => ⟨rfl, fun g => by simp⟩
    | cons a l ih =>
      intro s
      dsimp only at ih ⊢
      rw [List.foldl_cons]
      by_cases ha : u ∈ (s.group a).members
      · rw [if_pos (by simpa using ha)]
        obtain ⟨hup, hgroup⟩ := ih (s.recomputeGroup a (s.group a).members)
        have hsame := s.recomputeGroup_uplinks a (s.group a).members
        refine ⟨hup.trans hsame, fun g => ?_⟩
        rw [hgroup, s.recomputeGroup_members, State.usableMembers_congr hsame, s.recomputeGroup_group]
        by_cases hg : g = a
        · subst hg
          simp [ha]
        · simp [hg]
      · rw [if_neg (by simpa using ha)]
        obtain ⟨hup, hgroup⟩ := ih s
        refine ⟨hup, fun g => ?_⟩
        rw [hgroup]
        by_cases hg : g = a
        · subst hg
          simp [ha]
        · simp [hg]
  obtain ⟨hup, hgroup⟩ := hfold (List.finRange 4) s
  exact ⟨hup, fun g => by simpa [State.recomputeMembers] using hgroup g⟩

/-- The law of the uplinks but for the records of one uplink, whose use may be about to change. -/
structure State.UplinksLawfulBut (s : State) (u : UplinkId) : Prop where
  usable : ∀ v, v ≠ u → (s.uplink v).usable = true →
    s.uplinkLink v = true ∧ s.uplinkInRole v = true ∧ (s.uplink v).holdDown = none
  held : ∀ v, v ≠ u → (s.uplink v).holdDown ≠ none → s.uplinkLink v = true ∧ s.uplinkInRole v = true
  active : ∀ g, (s.group g).active = s.usableMembers (s.group g).members

theorem State.uplinksLawful.but {s : State} (h : s.uplinksLawful) (u : UplinkId) : s.UplinksLawfulBut u :=
  ⟨fun v _ => h.1 v, fun v _ => h.2.1 v, h.2.2⟩

theorem State.usableMembers_updUplink (s : State) (u : UplinkId) (f : Uplink → Uplink)
    (hf : (f (s.uplink u)).usable = (s.uplink u).usable) (l : List UplinkId) :
    (s.updUplink u f).usableMembers l = s.usableMembers l := by
  refine List.filter_congr fun v _ => ?_
  rw [State.updUplink_uplink]
  split
  · next e => subst e; rw [hf]
  · rfl

/-- A change of the uplink's own timer. -/
theorem State.UplinksLawfulBut.updHoldDown {s : State} {u : UplinkId} (h : s.UplinksLawfulBut u) (x : Timer) :
    (s.updUplink u fun r => { r with holdDown := x }).UplinksLawfulBut u where
  usable v hv := by rw [State.updUplink_uplink_ne _ _ hv]; exact h.usable v hv
  held v hv := by rw [State.updUplink_uplink_ne _ _ hv]; exact h.held v hv
  active g := by rw [State.usableMembers_updUplink _ _ _ rfl]; exact h.active g

theorem State.setUsable_uplink (s : State) (u v : UplinkId) (b : Bool) :
    (s.setUsable u b).uplink v = if v = u then { s.uplink u with usable := b } else s.uplink v := by
  unfold State.setUsable
  split
  · next hb =>
    split
    · next e => subst e; rw [← hb]
    · rfl
  · rw [State.uplink, (State.recomputeMembers_spec _ u).1]
    change State.uplink (State.raise _ _) v = _
    rw [State.raise_uplink, State.updUplink_uplink]

theorem State.setUsable_settings_portRole (s : State) (u : UplinkId) (b : Bool) :
    (s.setUsable u b).portRole = s.portRole := by
  unfold State.setUsable
  split
  · rfl
  · rw [State.recomputeMembers, foldl_kept State.portRole]
    · simp
    · intro t g _
      split
      · unfold State.recomputeGroup
        dsimp only
        split <;> simp
      · rfl

/-- Where the change of use is due, the law holds after it. -/
theorem State.UplinksLawfulBut.setUsable {s : State} {u : UplinkId} {b : Bool} (h : s.UplinksLawfulBut u)
    (hdue : b = true → s.uplinkLink u = true ∧ s.uplinkInRole u = true) (hstop : (s.uplink u).holdDown = none) :
    (s.setUsable u b).uplinksLawful := by
  have hlink : ∀ v, (s.setUsable u b).uplinkLink v = s.uplinkLink v := fun v => by
    simp only [State.uplinkLink, State.link, State.links_of_settings (s.setUsable_settings u b)]
  have hrole : ∀ v, (s.setUsable u b).uplinkInRole v = s.uplinkInRole v := fun v => by
    simp only [State.uplinkInRole, s.setUsable_settings_portRole]
  refine ⟨fun v hv => ?_, fun v hv => ?_, fun g => ?_⟩
  · rw [hlink, hrole, State.setUsable_uplink] at *
    split at hv
    · next e =>
      subst e
      rw [if_pos rfl]
      exact ⟨(hdue hv).1, (hdue hv).2, hstop⟩
    · next e => rw [if_neg e]; exact h.usable v e hv
  · rw [hlink, hrole, State.setUsable_uplink] at *
    split at hv
    · exact absurd hstop hv
    · next e => exact h.held v e hv
  · unfold State.setUsable
    split
    · exact h.active g
    · obtain ⟨hup, hgroup⟩ := State.recomputeMembers_spec
        ((s.updUplink u fun r => { r with usable := b }).raise (.usableChange u)) u
      rw [hgroup, State.usableMembers_congr hup]
      split
      · rfl
      · next hu =>
        rw [State.raise_group, State.updUplink_group] at *
        rw [h.active g]
        refine List.filter_congr fun v hv => ?_
        have hvu : v ≠ u := fun e => hu (e ▸ hv)
        rw [State.raise_uplink, State.updUplink_uplink_ne _ _ hvu]

theorem State.UplinksLawfulBut.dropUplink {s : State} {u : UplinkId} (h : s.UplinksLawfulBut u) :
    (s.dropUplink u).uplinksLawful :=
  (h.updHoldDown none).setUsable (fun hb => absurd hb (by simp)) (by simp)

/-- The hold-down timer starts for an uplink not in use, its link up and itself in role. -/
theorem State.startHoldDown_uplinksLawful {s : State} {u : UplinkId} (h : s.uplinksLawful)
    (hlink : s.uplinkLink u = true) (hrole : s.uplinkInRole u = true) (hoff : (s.uplink u).usable = false) :
    (s.startHoldDown u).uplinksLawful := by
  unfold State.startHoldDown
  split
  · exact ((h.but u).updHoldDown none).setUsable (fun _ => ⟨hlink, hrole⟩) (by simp)
  · have hbut := (h.but u).updHoldDown (s.timer s.chassis.holdDown)
    refine ⟨fun v hv => ?_, fun v hv => ?_, hbut.active⟩
    · by_cases e : v = u
      · subst e
        rw [State.updUplink_uplink_self] at hv
        exact absurd (hoff.symm.trans hv) (by simp)
      · exact hbut.usable v e hv
    · by_cases e : v = u
      · subst e
        exact ⟨hlink, hrole⟩
      · exact hbut.held v e hv

theorem uplinkPort_injective : Function.Injective uplinkPort := by decide

theorem portUplink_eq_some_iff (p : PortId) (u : UplinkId) : portUplink p = some u ↔ uplinkPort u = p := by
  revert p u
  decide

theorem State.uplinkLink_updLink (s : State) (p : PortId) (b : Bool) (u : UplinkId) :
    (s.updLink p fun _ => b).uplinkLink u = if uplinkPort u = p then b else s.uplinkLink u := by
  simp only [State.uplinkLink, State.updLink_link]

/-- The law does not read the notice side. -/
theorem uplinksLawful_attemptSend {s : State} (h : s.uplinksLawful) : s.attemptSend.uplinksLawful := by
  rw [State.attemptSend_side]
  exact h

theorem State.linkRise_uplinksLawful {s : State} (p : PortId) (hdown : s.link p = false) (h : s.uplinksLawful) :
    (s.linkRise p).uplinksLawful := by
  have hmono : ∀ u, s.uplinkLink u = true → (s.updLink p fun _ => true).uplinkLink u = true := fun u hu => by
    rw [State.uplinkLink_updLink]
    split
    · rfl
    · exact hu
  have ht : (s.updLink p fun _ => true).uplinksLawful :=
    ⟨fun v hv => ⟨hmono v (h.1 v hv).1, (h.1 v hv).2⟩, fun v hv => ⟨hmono v (h.2.1 v hv).1, (h.2.1 v hv).2⟩, h.2.2⟩
  unfold State.linkRise
  cases hp : portUplink p with
  | none =>
    dsimp only
    split
    · exact uplinksLawful_attemptSend ht
    · exact ht
  | some u =>
    rw [portUplink_eq_some_iff] at hp
    have hu : ((s.updLink p fun _ => true).uplinkUp u).uplinksLawful := by
      unfold State.uplinkUp
      split
      · next hrole =>
        refine State.startHoldDown_uplinksLawful ht (by rw [State.uplinkLink_updLink, if_pos hp]) hrole ?_
        by_contra hon
        have hlink := (h.1 u (by simpa using hon)).1
        rw [State.uplinkLink, hp, hdown] at hlink
        exact absurd hlink (by simp)
      · exact ht
    dsimp only
    split
    · exact uplinksLawful_attemptSend hu
    · exact hu

theorem State.linkFall_uplinksLawful {s : State} (p : PortId) (h : s.uplinksLawful) : (s.linkFall p).uplinksLawful := by
  have hkeep : ∀ u, uplinkPort u ≠ p → (s.updLink p fun _ => false).uplinkLink u = s.uplinkLink u := fun u hu => by
    rw [State.uplinkLink_updLink, if_neg hu]
  unfold State.linkFall
  cases hp : portUplink p with
  | none =>
    have hne : ∀ u, uplinkPort u ≠ p := fun u hu => by
      rw [(portUplink_eq_some_iff p u).2 hu] at hp
      cases hp
    exact ⟨fun v hv => by rw [hkeep v (hne v)]; exact h.1 v hv, fun v hv => by rw [hkeep v (hne v)]; exact h.2.1 v hv,
      h.2.2⟩
  | some u =>
    rw [portUplink_eq_some_iff] at hp
    have hne : ∀ v, v ≠ u → uplinkPort v ≠ p := fun v hv e => hv (uplinkPort_injective (e.trans hp.symm))
    refine State.UplinksLawfulBut.dropUplink ⟨fun v hv hus => ?_, fun v hv hh => ?_, h.2.2⟩
    · rw [hkeep v (hne v hv)]; exact h.1 v hus
    · rw [hkeep v (hne v hv)]; exact h.2.1 v hh

theorem State.takeStackRole_uplinksLawful {s : State} (hslot : s.portRole = .slot) (h : s.uplinksLawful) :
    s.takeStackRole.uplinksLawful := by
  have hrole : ∀ u, State.uplinkInRole { s with portRole := .stack } u = true := fun u => by simp [State.uplinkInRole]
  have ht : State.uplinksLawful { s with portRole := .stack } :=
    ⟨fun v hv => ⟨(h.1 v hv).1, hrole v, (h.1 v hv).2.2⟩, fun v hv => ⟨(h.2.1 v hv).1, hrole v⟩, h.2.2⟩
  unfold State.takeStackRole
  dsimp only
  split
  · next hlink =>
    refine State.startHoldDown_uplinksLawful ht hlink (hrole _) ?_
    by_contra hon
    rw [Bool.not_eq_false] at hon
    have hin := (h.1 uplink4 hon).2.1
    simp [State.uplinkInRole, hslot] at hin
  · exact ht

theorem State.takeSlotRole_uplinksLawful {s : State} (h : s.uplinksLawful) : s.takeSlotRole.uplinksLawful := by
  have hrole : ∀ u, u ≠ uplink4 → State.uplinkInRole { s with portRole := .slot } u = true := fun u hu => by
    simp [State.uplinkInRole, hu]
  exact State.UplinksLawfulBut.dropUplink
    ⟨fun v hv hus => ⟨(h.1 v hus).1, hrole v hv, (h.1 v hus).2.2⟩, fun v hv hh => ⟨(h.2.1 v hh).1, hrole v hv⟩, h.2.2⟩

theorem State.setMembers_uplinksLawful {s : State} (g : GroupId) (l : List UplinkId) (h : s.uplinksLawful) :
    (s.setMembers g l).uplinksLawful := by
  have hup : (s.setMembers g l).uplinks = s.uplinks := State.recomputeGroup_uplinks _ _ _
  have hrole : (s.setMembers g l).portRole = s.portRole := by
    unfold State.setMembers State.recomputeGroup
    dsimp only
    split <;> simp
  have hlinks : (s.setMembers g l).links = s.links := by
    simp only [State.setMembers, State.links_of_settings (State.recomputeGroup_settings _ _ _), State.updGroup_links]
  refine ⟨fun v hv => ?_, fun v hv => ?_, fun j => ?_⟩
  · simp only [State.uplink, State.uplinkLink, State.link, State.uplinkInRole, hup, hrole, hlinks] at *
    exact h.1 v hv
  · simp only [State.uplink, State.uplinkLink, State.link, State.uplinkInRole, hup, hrole, hlinks] at *
    exact h.2.1 v hv
  · rw [State.usableMembers_congr hup, State.setMembers, State.recomputeGroup_group]
    by_cases e : j = g
    · subst e
      rw [if_pos rfl]
      exact State.usableMembers_congr rfl _
    · rw [if_neg e, State.updGroup_group_ne _ _ e]
      exact h.2.2 j

/-- The law of the uplinks and active lists, owing nothing. -/
def uplinksLaw (_ : Owed) (s : State) : Prop := s.uplinksLawful

theorem uplinksLaw_keptByNotices : KeptByNotices uplinksLaw := .of_ignored fun _ _ _ _ _ hs => hs

theorem uplinksLaw_keptByUnits : KeptByUnits uplinksLaw where
  toKeptByNotices := uplinksLaw_keptByNotices
  toKeptByStations := .of_ignored (fun _ _ hs => hs) uplinksLaw_keptByNotices.raise
  takeStackRole hslot hs := State.takeStackRole_uplinksLawful hslot hs
  takeSlotRole hs := State.takeSlotRole_uplinksLawful hs
  linkRise p hdown hs := State.linkRise_uplinksLawful p hdown hs
  linkFall p hs := State.linkFall_uplinksLawful p hs
  holdDownExpiry {k s} u hs := by
    split
    · next hrun =>
      have hdue := hs.2.1 u (Option.isSome_iff_ne_none.1 hrun)
      exact ((hs.but u).updHoldDown none).setUsable (fun _ => hdue) (by simp)
    · exact hs
  groupMode {k s} g m hs := ⟨hs.1, hs.2.1, fun j => by
    rw [State.updGroup_group]
    split
    · next e => subst e; exact hs.2.2 j
    · exact hs.2.2 j⟩
  setMembers g l hs := State.setMembers_uplinksLawful g l hs
  lawless e hs := by rw [e]; exact hs
  admissions _ _ _ hs := hs
  meters _ _ _ hs := hs
  setRail _ _ _ hs := hs
  interlock _ hs := hs
  interlockOff hs := hs
  updGrant _ _ _ hs := hs
  releasing _ hs := hs
  remark i hs := by rw [State.remark_frame]; exact hs
  supplies _ _ _ _ hs := hs
  owe _ _ _ hs := hs
  settled _ _ hs := hs

theorem uplinksLawful_powerOn (pins : Pins) : (State.powerOn pins).uplinksLawful := by
  simp [State.uplinksLawful, State.usableMembers, State.powerOn, State.uplink, State.group, groupPowerOn]

/-- Settles O58: the Station Table and the uplinks each keep their law at every elementary change. -/
theorem stepKeepsFramePathTables : Obligations.StepKeepsFramePathTables := by
  unfold Obligations.StepKeepsFramePathTables
  exact ⟨fun s t hs ht => (KeptByStep.of_units stationsLaw_keptByUnits (fun _ _ hs => hs)
      fun pins _ _ => stationsDistinct_powerOn pins).step (P := stationsLaw) hs ht,
    fun s t hs ht => (KeptByStep.of_units uplinksLaw_keptByUnits (fun _ _ hs => hs)
      fun pins _ _ => uplinksLawful_powerOn pins).step (P := uplinksLaw) hs ht⟩

/-! ### Reset (O60) -/

theorem lifecycleLawful_powerOn (pins : Pins) : (State.powerOn pins).lifecycleLawful := by
  refine ⟨fun i => ?_, List.nodup_nil, fun i => ?_, fun job k p hj => by simp [State.powerOn] at hj⟩
  · cases hp : Tab.get pins.presence i <;>
      simp [State.slotLawful, State.powerOn, State.slot, State.grantOf, State.hasEntry, State.context, State.inv,
        slotPowerOn, grantPowerOn, contextClosed, SlotState.powered, hp]
  · simp [State.policy, State.powerOn, policyPowerOn, SlotPolicy.powerLawful]

/-- Settles O60: the state after reset is a power-on, which meets every law whatever the levels sampled. -/
theorem resetMeetsInvariants : Obligations.ResetMeetsInvariants := by
  unfold Obligations.ResetMeetsInvariants State.reset
  exact ⟨railsLaw_powerOn _, budgetLaw_powerOn _, capLinesLawful_powerOn _, lifecycleLawful_powerOn _,
    stationsDistinct_powerOn _, uplinksLawful_powerOn _, tokensHeld_powerOn _, requestsHeld_of_noJob rfl (Nat.zero_le _),
    noticesHeld_powerOn _⟩

end Sys2Proof.Machine

/-!
# The lifecycle (O57): views

What the lifecycle's law says of a slot reads ten values of the state, its `View`. The operations are told by what they do
to views: most change the view of their own slot alone, and the arbiter takes every slot's view along `View.Serves`.
-/

namespace Sys2Proof.Machine

/-- What State.slotLawful reads of one slot. -/
structure View where
  state : SlotState
  drainNext : DrainNext
  grant : Nat
  target : Nat
  releasing : Bool
  thermalCap : Bool
  boot : Bool
  upgrade : Bool
  power : Option Nat
  mode : ContextMode

/-- The view of a slot. -/
def State.view (s : State) (i : SlotId) : View where
  state := (s.slot i).state
  drainNext := (s.slot i).drainNext
  grant := (s.grantOf i).grant
  target := (s.grantOf i).target
  releasing := (s.grantOf i).releasing
  thermalCap := (s.grantOf i).thermalCap
  boot := s.hasEntry i .boot
  upgrade := s.hasEntry i .upgrade
  power := (s.inv i).record.map InvRecord.power
  mode := (s.context i).mode

theorem State.view_releasing (s : State) (i : SlotId) : (s.view i).releasing = (s.grantOf i).releasing := rfl

theorem State.view_state (s : State) (i : SlotId) : (s.view i).state = (s.slot i).state := rfl

theorem State.view_boot (s : State) (i : SlotId) : (s.view i).boot = s.hasEntry i .boot := rfl

theorem State.view_upgrade (s : State) (i : SlotId) : (s.view i).upgrade = s.hasEntry i .upgrade := rfl

theorem State.view_thermalCap (s : State) (i : SlotId) : (s.view i).thermalCap = (s.grantOf i).thermalCap := rfl

/-- What State.slotLawful says of a view, but for the declared power. -/
structure View.Sound (v : View) : Prop where
  unpowered : v.state.powered = false → v.grant = 0 ∧ v.target = 0
  powered : v.state.powered = true → 1 ≤ v.grant ∧ v.grant ≤ v.target ∧ v.target ≤ 1000
  releasing : v.releasing = true ↔ v.state = .draining
  drainNext : v.drainNext ≠ .none ↔ v.state = .draining
  boot : v.boot = true ↔ v.state = .powerWait
  upgrade : v.upgrade = true ↔
    (v.state = .heldOnline ∨ v.state = .online) ∧ v.grant < v.target ∧ v.thermalCap = false ∧ v.releasing = false
  window : v.mode = .window ↔ v.state = .announcing
  refresh : v.mode = .refresh → v.state = .online

/-- State.slotLawful, of a view. -/
structure View.Lawful (v : View) : Prop extends v.Sound where
  power : v.state = .heldOnline ∨ v.state = .online → v.power = some v.target

theorem State.slotLawful_iff (s : State) (i : SlotId) : s.slotLawful i ↔ (s.view i).Lawful :=
  ⟨fun ⟨h1, h2, h3, h4, h5, h6, h7, h8, h9⟩ => ⟨⟨h1, h2, h3, h4, h5, h6, h8, h9⟩, h7⟩,
    fun ⟨⟨h1, h2, h3, h4, h5, h6, h8, h9⟩, h7⟩ => ⟨h1, h2, h3, h4, h5, h6, h7, h8, h9⟩⟩

/-! ### Views of the elementary changes -/

section

variable (s : State) (i j : SlotId)

/-- A view follows from the records it reads. -/
theorem State.view_congr {s t : State} {j : SlotId} (hstate : (t.slot j).state = (s.slot j).state)
    (hnext : (t.slot j).drainNext = (s.slot j).drainNext) (hgrant : (t.grantOf j).grant = (s.grantOf j).grant)
    (htarget : (t.grantOf j).target = (s.grantOf j).target)
    (hrel : (t.grantOf j).releasing = (s.grantOf j).releasing)
    (hcap : (t.grantOf j).thermalCap = (s.grantOf j).thermalCap)
    (hentry : ∀ k, t.hasEntry j k = s.hasEntry j k)
    (hpower : (t.inv j).record.map InvRecord.power = (s.inv j).record.map InvRecord.power)
    (hmode : (t.context j).mode = (s.context j).mode) : t.view j = s.view j := by
  simp only [State.view, hstate, hnext, hgrant, htarget, hrel, hcap, hentry, hpower, hmode]

@[simp] theorem State.noticeSideOf_view (t : State) : (s.noticeSideOf t).view j = s.view j := rfl

@[simp] theorem State.raise_view (e : Event) : (s.raise e).view j = s.view j := by rw [State.raise_side]; rfl

@[simp] theorem State.transmit_view (p : PortId) (k : SentKind) (l : List Byte) :
    (s.transmit p k l).view j = s.view j := by rw [State.transmit_side]; rfl

@[simp] theorem State.updRail_view (f : Rail → Rail) : (s.updRail i f).view j = s.view j := rfl

@[simp] theorem State.setRail_view (r : Rail) : (s.setRail i r).view j = s.view j := rfl

@[simp] theorem State.updMeter_view (f : Meter → Meter) : (s.updMeter i f).view j = s.view j := rfl

@[simp] theorem State.updThermal_view (f : ThermalRecord → ThermalRecord) : (s.updThermal i f).view j = s.view j := rfl

@[simp] theorem State.updPolicy_view (f : SlotPolicy → SlotPolicy) : (s.updPolicy i f).view j = s.view j := rfl

theorem State.updSlot_view (f : Slot → Slot) :
    (s.updSlot i f).view j =
      if j = i then { s.view i with state := (f (s.slot i)).state, drainNext := (f (s.slot i)).drainNext }
      else s.view j := by
  split
  · next e => subst e; simp only [State.view, State.updSlot_slot_self]; rfl
  · next e => simp only [State.view, State.updSlot_slot_ne _ _ e]; rfl

theorem State.updGrant_view (f : Grant → Grant) :
    (s.updGrant i f).view j =
      if j = i then
        { s.view i with
          grant := (f (s.grantOf i)).grant, target := (f (s.grantOf i)).target,
          releasing := (f (s.grantOf i)).releasing, thermalCap := (f (s.grantOf i)).thermalCap }
      else s.view j := by
  split
  · next e => subst e; simp only [State.view, State.updGrant_grantOf_self]; rfl
  · next e => simp only [State.view, State.updGrant_grantOf_ne _ _ e]; rfl

theorem State.updContext_view (f : Context → Context) :
    (s.updContext i f).view j =
      if j = i then { s.view i with mode := (f (s.context i)).mode } else s.view j := by
  split
  · next e => subst e; simp only [State.view, State.updContext_context_self]; rfl
  · next e => simp only [State.view, State.updContext_context_ne _ _ e]; rfl

theorem State.updInv_view (f : Inventory → Inventory) :
    (s.updInv i f).view j =
      if j = i then { s.view i with power := (f (s.inv i)).record.map InvRecord.power } else s.view j := by
  split
  · next e => subst e; simp only [State.view, State.updInv_inv_self]; rfl
  · next e => simp only [State.view, State.updInv_inv_ne _ _ e]; rfl

theorem State.setSlotState_view (st : SlotState) :
    (s.setSlotState i st).view j = if j = i then { s.view i with state := st } else s.view j :=
  s.updSlot_view i j _

theorem State.enter_view (st : SlotState) :
    (s.enter i st).view j = if j = i then { s.view i with state := st } else s.view j := by
  rw [State.enter, State.raise_view, State.setSlotState_view]

@[simp] theorem State.remark_view : (s.remark i).view j = s.view j := by
  have hframe := s.remark_frame i
  have hgrant : ∃ b, (s.remark i).grantOf j = { s.grantOf j with capped := b } := by
    rw [State.remark_grantOf]
    split
    · next e => exact ⟨_, by rw [e]⟩
    · exact ⟨_, rfl⟩
  obtain ⟨b, hb⟩ := hgrant
  refine State.view_congr ?_ ?_ (by rw [hb]) (by rw [hb]) (by rw [hb]) (by rw [hb]) (fun k => ?_) ?_ ?_
  all_goals
    rw [hframe]
    rfl

theorem State.numberAdmission_slot : ∃ a, (s.numberAdmission i).slot j = { s.slot j with admission := a } := by
  have hren : ∃ a, s.renumberAdmissions.slot j = { s.slot j with admission := a } := by
    unfold State.renumberAdmissions
    split
    · exact ⟨(s.slot j).admission, rfl⟩
    · exact ⟨s.admissionRank j, by simp only [State.slot, Tab.get_each]⟩
  obtain ⟨a, ha⟩ := hren
  have hslots : (s.numberAdmission i).slots = Tab.upd s.renumberAdmissions.slots i fun r =>
      { r with admission := s.renumberAdmissions.admissionCounter + 1 } := rfl
  simp only [State.slot] at ha
  by_cases hj : j = i
  · subst hj
    exact ⟨_, by rw [State.slot, hslots, Tab.get_upd_self, ha]; rfl⟩
  · exact ⟨a, by rw [State.slot, hslots, Tab.get_upd_ne _ _ hj, ha]; rfl⟩

@[simp] theorem State.numberAdmission_view : (s.numberAdmission i).view j = s.view j := by
  obtain ⟨a, ha⟩ := s.numberAdmission_slot i j
  obtain ⟨b, hb⟩ := s.numberAdmission_grantOf i j
  have hframe := s.numberAdmission_frame i
  have hq : ∀ k, (s.numberAdmission i).hasEntry j k = s.hasEntry j k := fun k => by rw [hframe]; rfl
  have hinv : (s.numberAdmission i).inv j = s.inv j := by rw [hframe]; rfl
  have hctx : (s.numberAdmission i).context j = s.context j := by rw [hframe]; rfl
  exact State.view_congr (by rw [ha]) (by rw [ha]) (by rw [hb]) (by rw [hb]) (by rw [hb]) (by rw [hb]) hq
    (by rw [hinv]) (by rw [hctx])

end

/-! ### The queue -/

theorem insertEntry_perm (e : PowerEntry) (q : List PowerEntry) : (insertEntry e q).Perm (e :: q) := by
  induction q with
  | nil => exact List.Perm.refl _
  | cons f q ih =>
    unfold insertEntry
    split
    · exact List.Perm.refl _
    · exact (ih.cons f).trans (List.Perm.swap e f q)

/-- No slot has two entries. -/
def State.oneEntryEach (s : State) : Prop := (s.powerQueue.map PowerEntry.slot).Nodup

theorem State.hasEntry_iff (s : State) (i : SlotId) (k : EntryKind) :
    s.hasEntry i k = true ↔ ∃ e ∈ s.powerQueue, e.slot = i ∧ e.kind = k := by
  simp [State.hasEntry]

theorem State.not_mem_slots {s : State} {i : SlotId} (hb : s.hasEntry i .boot = false)
    (hu : s.hasEntry i .upgrade = false) : i ∉ s.powerQueue.map PowerEntry.slot := by
  intro hmem
  obtain ⟨e, he, rfl⟩ := List.mem_map.1 hmem
  cases hk : e.kind with
  | boot => exact absurd ((s.hasEntry_iff _ _).2 ⟨e, he, rfl, hk⟩) (by simp [hb])
  | upgrade => exact absurd ((s.hasEntry_iff _ _).2 ⟨e, he, rfl, hk⟩) (by simp [hu])

theorem State.renumberQueue_hasEntry (s : State) (i : SlotId) (k : EntryKind) :
    s.renumberQueue.hasEntry i k = s.hasEntry i k := by
  unfold State.renumberQueue
  split
  · rfl
  · simp only [State.hasEntry, renumbered, List.any_map]
    rfl

theorem State.renumberQueue_slots (s : State) :
    s.renumberQueue.powerQueue.map PowerEntry.slot = s.powerQueue.map PowerEntry.slot := by
  unfold State.renumberQueue
  split
  · rfl
  · simp [renumbered, Function.comp_def]

theorem State.enqueue_powerQueue {s : State} {i : SlotId} {k : EntryKind} (h : s.hasEntry i k = false) :
    (s.enqueue i k).powerQueue.Perm
      (⟨i, k, (s.renumberQueue.policy i).priority, s.renumberQueue.queueCounter + 1⟩ :: s.renumberQueue.powerQueue) := by
  unfold State.enqueue
  rw [if_neg (by simp [h])]
  exact insertEntry_perm _ _

theorem State.enqueue_hasEntry (s : State) (i j : SlotId) (k l : EntryKind) :
    (s.enqueue i k).hasEntry j l = (s.hasEntry j l || (j = i && l = k)) := by
  by_cases h : s.hasEntry i k = true
  · have hsame : s.enqueue i k = s := by rw [State.enqueue, if_pos h]
    rw [hsame]
    by_cases e : j = i ∧ l = k
    · obtain ⟨rfl, rfl⟩ := e
      simp [h]
    · have hno : (decide (j = i) && decide (l = k)) = false := by simpa using fun h1 h2 => e ⟨h1, h2⟩
      rw [hno, Bool.or_false]
  · have hp := (State.enqueue_powerQueue (by simpa using h)).any_eq (f := fun e => e.slot = j && e.kind = l)
    change (s.enqueue i k).powerQueue.any _ = _
    rw [hp, List.any_cons, ← s.renumberQueue_hasEntry j l, State.hasEntry, Bool.or_comm]
    congr 1
    simp only [eq_comm]

theorem State.enqueue_oneEntryEach {s : State} {i : SlotId} (k : EntryKind) (hb : s.hasEntry i .boot = false)
    (hu : s.hasEntry i .upgrade = false) (h : s.oneEntryEach) : (s.enqueue i k).oneEntryEach := by
  have hk : s.hasEntry i k = false := by cases k <;> assumption
  have hp := (State.enqueue_powerQueue hk).map PowerEntry.slot
  refine hp.nodup_iff.2 ?_
  rw [List.map_cons, State.renumberQueue_slots]
  exact List.nodup_cons.2 ⟨State.not_mem_slots hb hu, h⟩

theorem State.enqueue_frame (s : State) (i : SlotId) (k : EntryKind) :
    s.enqueue i k =
      { s with powerQueue := (s.enqueue i k).powerQueue, queueCounter := (s.enqueue i k).queueCounter } := by
  unfold State.enqueue State.renumberQueue
  (repeat' split) <;> rfl

theorem State.enqueue_view (s : State) (i j : SlotId) (k : EntryKind) :
    (s.enqueue i k).view j =
      { s.view j with
        boot := (s.view j).boot || (j = i && EntryKind.boot = k)
        upgrade := (s.view j).upgrade || (j = i && EntryKind.upgrade = k) } := by
  have hb := s.enqueue_hasEntry i j k .boot
  have hu := s.enqueue_hasEntry i j k .upgrade
  simp only [State.view, hb, hu]
  rw [State.enqueue_frame]
  rfl

theorem State.dequeue_hasEntry (s : State) (i j : SlotId) (k l : EntryKind) :
    (s.dequeue i k).hasEntry j l = (s.hasEntry j l && !(j = i && l = k)) := by
  rw [Bool.eq_iff_iff, State.hasEntry_iff, Bool.and_eq_true, State.hasEntry_iff]
  simp only [State.dequeue, List.mem_filter]
  constructor
  · rintro ⟨e, ⟨he, hne⟩, rfl, rfl⟩
    exact ⟨⟨e, he, rfl, rfl⟩, hne⟩
  · rintro ⟨⟨e, he, rfl, rfl⟩, hne⟩
    exact ⟨e, ⟨he, hne⟩, rfl, rfl⟩

theorem State.dequeue_view (s : State) (i j : SlotId) (k : EntryKind) :
    (s.dequeue i k).view j =
      { s.view j with
        boot := (s.view j).boot && !(j = i && EntryKind.boot = k)
        upgrade := (s.view j).upgrade && !(j = i && EntryKind.upgrade = k) } := by
  have hb := s.dequeue_hasEntry i j k .boot
  have hu := s.dequeue_hasEntry i j k .upgrade
  simp only [State.view, hb, hu]
  rfl

theorem State.oneEntryEach_of_sublist {s t : State} (h : t.powerQueue.Sublist s.powerQueue) (hs : s.oneEntryEach) :
    t.oneEntryEach := hs.sublist (h.map _)

theorem State.dequeue_oneEntryEach {s : State} (i : SlotId) (k : EntryKind) (h : s.oneEntryEach) :
    (s.dequeue i k).oneEntryEach := State.oneEntryEach_of_sublist List.filter_sublist h

/-! ### Reports that carry a slot upward -/

/-- From v, the reports power-good seen and reset released lead to w. -/
def View.Climbs (v w : View) : Prop :=
  w = v ∨ (v.state = .ramping ∨ v.state = .resetHold) ∧
    (w = { v with state := .resetHold } ∨ w = { v with state := .announcing, mode := .window })

theorem State.takeReport_view (s : State) (i : SlotId) (r : RailReport) :
    (s.view i).Climbs ((s.takeReport i r).view i) ∧ ∀ j, j ≠ i → (s.takeReport i r).view j = s.view j := by
  cases r with
  | powerGoodSeen =>
    unfold State.takeReport
    dsimp only
    split
    · next h =>
      exact ⟨.inr ⟨.inl h, .inl (by simp [State.setSlotState_view])⟩, fun j hj => by
        simp [State.setSlotState_view, hj]⟩
    · exact ⟨.inl rfl, fun _ _ => rfl⟩
  | resetReleased =>
    unfold State.takeReport
    dsimp only
    split
    · next h =>
      exact ⟨.inr ⟨.inr h, .inr (by simp [State.openWindow, State.updContext_view, State.setSlotState_view])⟩,
        fun j hj => by simp [State.openWindow, State.updContext_view, State.setSlotState_view, hj]⟩
    · exact ⟨.inl rfl, fun _ _ => rfl⟩
  | powerGoodTimeout => exact ⟨.inl rfl, fun _ _ => rfl⟩
  | powerLost => exact ⟨.inl rfl, fun _ _ => rfl⟩
  | rampDownComplete => exact ⟨.inl rfl, fun _ _ => rfl⟩

theorem View.Climbs.trans {u v w : View} (h : u.Climbs v) (k : v.Climbs w) : u.Climbs w := by
  rcases h with rfl | ⟨hu, rfl | rfl⟩
  · exact k
  · rcases k with rfl | ⟨-, rfl | rfl⟩
    · exact .inr ⟨hu, .inl rfl⟩
    · exact .inr ⟨hu, .inl rfl⟩
    · exact .inr ⟨hu, .inr rfl⟩
  · rcases k with rfl | ⟨hv, -⟩
    · exact .inr ⟨hu, .inr rfl⟩
    · simp at hv

theorem State.takeReports_view (l : List RailReport) : ∀ (s : State) (i : SlotId),
    (s.view i).Climbs ((s.takeReports i l).view i) ∧ ∀ j, j ≠ i → (s.takeReports i l).view j = s.view j := by
  induction l with
  | nil => exact fun _ _ => ⟨.inl rfl, fun _ _ => rfl⟩
  | cons r l ih =>
    intro s i
    obtain ⟨hself, hne⟩ := s.takeReport_view i r
    obtain ⟨hself', hne'⟩ := ih (s.takeReport i r) i
    exact ⟨hself.trans hself', fun j hj => (hne' j hj).trans (hne j hj)⟩

@[simp] theorem State.takeReports_powerQueue (s : State) (i : SlotId) (l : List RailReport) :
    (s.takeReports i l).powerQueue = s.powerQueue := by
  refine foldl_kept State.powerQueue (fun s r _ => ?_) s
  unfold State.takeReport
  (repeat' split) <;> rfl

/-! ### The arbiter -/

/-- One thing the arbiter does to a view: an UPGRADE granted, its partial step, an admission. -/
inductive View.Serves1 : View → View → Prop where
  | upgrade {v : View} : v.upgrade = true → Serves1 v { v with grant := v.target, upgrade := false }
  | partialStep {v : View} (g : Nat) : v.upgrade = true → v.grant < g → g < v.target → Serves1 v { v with grant := g }
  | admitted {v w : View} (b : Nat) : v.boot = true → 1 ≤ b → b ≤ 1000 →
      View.Climbs { v with grant := b, target := b, boot := false, state := .ramping } w → Serves1 v w

/-- What a run of the arbiter may do to a view. -/
def View.Serves : View → View → Prop := Relation.ReflTransGen View.Serves1

/-- From s to t the arbiter may have run. -/
structure State.Arbitrated (s t : State) : Prop where
  view : ∀ j, (s.view j).Serves (t.view j)
  one : s.oneEntryEach → t.oneEntryEach

theorem State.Arbitrated.refl (s : State) : s.Arbitrated s := ⟨fun _ => .refl, id⟩

theorem State.Arbitrated.trans {s t u : State} (h : s.Arbitrated t) (k : t.Arbitrated u) : s.Arbitrated u :=
  ⟨fun j => (h.view j).trans (k.view j), k.one ∘ h.one⟩

/-- Only one slot's view changes, by one service. -/
theorem State.Arbitrated.of_one {s t : State} {i : SlotId} (hself : (s.view i).Serves1 (t.view i))
    (hne : ∀ j, j ≠ i → t.view j = s.view j) (hone : s.oneEntryEach → t.oneEntryEach) : s.Arbitrated t := by
  refine ⟨fun j => ?_, hone⟩
  by_cases e : j = i
  · subst e; exact .single hself
  · rw [hne j e]; exact .refl

theorem State.remark_powerQueue (s : State) (i : SlotId) : (s.remark i).powerQueue = s.powerQueue := by
  rw [State.remark_frame]

theorem State.numberAdmission_powerQueue (s : State) (i : SlotId) : (s.numberAdmission i).powerQueue = s.powerQueue := by
  rw [State.numberAdmission_frame]

theorem State.startRamp_view (s : State) (i : SlotId) :
    View.Climbs { s.view i with state := .ramping } ((s.startRamp i).view i) ∧
    ∀ j, j ≠ i → (s.startRamp i).view j = s.view j := by
  obtain ⟨hself, hne⟩ := State.takeReports_view ((s.rail i).rampUp s.railEnv).2
    ((s.setRail i ((s.rail i).rampUp s.railEnv).1).setSlotState i .ramping) i
  simp only [State.setSlotState_view, State.setRail_view, if_true] at hself
  refine ⟨by simpa [State.startRamp] using hself, fun j hj => ?_⟩
  have hj' := hne j hj
  simp only [State.setSlotState_view, State.setRail_view, if_neg hj] at hj'
  simpa [State.startRamp] using hj'

theorem State.startRamp_powerQueue (s : State) (i : SlotId) : (s.startRamp i).powerQueue = s.powerQueue := by
  simp [State.startRamp, State.setRail, State.setSlotState]

theorem State.admitBoot_arbitrated {s : State} {i : SlotId} (hpol : (s.policy i).powerLawful)
    (hb : s.hasEntry i .boot = true) : s.Arbitrated (s.admitBoot i) := by
  obtain ⟨h1, h2, -⟩ := hpol
  obtain ⟨hself, hne⟩ := State.startRamp_view (((((s.updGrant i fun g =>
    { g with grant := (s.policy i).bootAllowance, target := (s.policy i).bootAllowance }).numberAdmission i).dequeue i
      .boot).remark i)) i
  refine .of_one (i := i) (.admitted _ hb h1 h2 ?_) (fun j hj => ?_) fun hs => ?_
  · simpa [State.admitBoot, State.dequeue_view, State.updGrant_view, State.view_releasing, State.view_thermalCap] using
      hself
  · have hj' := hne j hj
    simpa [State.admitBoot, State.dequeue_view, State.updGrant_view, hj] using hj'
  · refine State.oneEntryEach_of_sublist ?_ hs
    rw [State.admitBoot, State.startRamp_powerQueue, State.remark_powerQueue]
    change List.Sublist (List.filter _ (State.numberAdmission _ i).powerQueue) _
    rw [State.numberAdmission_powerQueue]
    exact List.filter_sublist

theorem State.upgrade_arbitrated {s : State} {i : SlotId} (hu : s.hasEntry i .upgrade = true) :
    s.Arbitrated (s.upgrade i) := by
  have hview : (s.upgrade i).view i = { s.view i with grant := (s.view i).target, upgrade := false } := by
    simp [State.upgrade, State.dequeue_view, State.updGrant_view]
    simp [State.view]
  refine .of_one (i := i) (hview ▸ .upgrade hu) (fun j hj => ?_) fun hs => ?_
  · simp [State.upgrade, State.dequeue_view, State.updGrant_view, hj]
  · refine State.oneEntryEach_of_sublist ?_ hs
    rw [State.upgrade, State.remark_powerQueue]
    exact List.filter_sublist

theorem State.partialStep_arbitrated {s : State} {i : SlotId} (hu : s.hasEntry i .upgrade = true)
    (hfit : ¬ ((s.grantOf i).target : Int) - ((s.grantOf i).grant : Int) ≤ s.headroom) :
    s.Arbitrated (s.partialStep i) := by
  unfold State.partialStep
  split
  · next hstep =>
    simp only [Bool.and_eq_true, decide_eq_true_eq] at hstep
    have hview : ((s.updGrant i fun g => { g with grant := s.capLevel i }).remark i).view i =
        { s.view i with grant := s.capLevel i } := by
      simp [State.updGrant_view]
      simp [State.view]
    have hlt : s.capLevel i < (s.grantOf i).target := by omega
    refine .of_one (i := i) (hview ▸ .partialStep _ hu hstep.1 hlt) (fun j hj => ?_) fun hs => ?_
    · simp [State.updGrant_view, hj]
    · exact State.oneEntryEach_of_sublist (by rw [State.remark_powerQueue]; exact List.Sublist.refl _) hs
  · exact .refl s

/-- The policies' bounds that the grants rest on. -/
def State.policiesLawful (s : State) : Prop := ∀ i, (s.policy i).powerLawful

theorem State.policiesLawful_of_settings {s t : State} (h : t.settings = s.settings) (hs : s.policiesLawful) :
    t.policiesLawful := fun i => by
  rw [State.policy, State.policies_of_settings h]
  exact hs i

theorem arbiterLoop_arbitrated (n : Nat) : ∀ s : State, s.policiesLawful → s.Arbitrated (arbiterLoop n s) := by
  induction n with
  | zero => exact fun s _ => .refl s
  | succ n ih =>
    intro s hpol
    unfold arbiterLoop
    split
    · exact .refl s
    · next e rest hq =>
      have hentry : s.hasEntry e.slot e.kind = true := (s.hasEntry_iff _ _).2 ⟨e, by simp [hq], rfl, rfl⟩
      split
      · have hserve : s.Arbitrated (s.serve e) := by
          unfold State.serve
          cases hk : e.kind with
          | boot => exact State.admitBoot_arbitrated (hpol _) (hk ▸ hentry)
          | upgrade => exact State.upgrade_arbitrated (hk ▸ hentry)
        exact hserve.trans (ih _ (State.policiesLawful_of_settings (s.serve_settings e) hpol))
      · next hfit =>
        unfold State.stopAt
        cases hk : e.kind with
        | boot => exact .refl s
        | upgrade =>
          exact State.partialStep_arbitrated (hk ▸ hentry) (by simpa [State.fits, hk] using hfit)

theorem State.arbiter_arbitrated {s : State} (hpol : s.policiesLawful) : s.Arbitrated s.arbiter := by
  unfold State.arbiter
  split
  · exact .refl s
  · exact arbiterLoop_arbitrated _ s hpol

end Sys2Proof.Machine

/-!
# The lifecycle (O57): what the rules ask of a view

The views between two commands are `Lawful`. Inside a handling the slot handled may lack a part of the law; the predicates
here name what is left of it, and the lemmas say how a rule's changes restore it.
-/

namespace Sys2Proof.Machine

/-! ### The arbiter and the reports -/

theorem SlotState.powered_powerWait : SlotState.powerWait.powered = false := rfl

theorem View.Sound.climbs {v w : View} (h : v.Climbs w) (hv : v.Sound) : w.Sound := by
  obtain ⟨h1, h2, h3, h4, h5, h6, h7, h8⟩ := hv
  rcases h with rfl | ⟨hst, rfl | rfl⟩
  · exact ⟨h1, h2, h3, h4, h5, h6, h7, h8⟩
  all_goals rcases hst with hst | hst <;> constructor <;> simp_all [SlotState.powered]

theorem View.Lawful.climbs {v w : View} (h : v.Climbs w) (hv : v.Lawful) : w.Lawful := by
  refine ⟨hv.toSound.climbs h, ?_⟩
  rcases h with rfl | ⟨hst, rfl | rfl⟩
  · exact hv.power
  · simp
  · simp

/-- The view admits nothing the arbiter could serve. -/
def View.inert (v : View) : Prop := v.boot = false ∧ v.upgrade = false

theorem View.inert.not_serves1 {v w : View} (h : v.inert) : ¬ v.Serves1 w := by
  obtain ⟨hb, hu⟩ := h
  intro hs
  cases hs <;> simp_all

theorem View.Sound.serves1 {v w : View} (h : v.Serves1 w) (hv : v.Sound) : w.Sound := by
  cases h with
  | upgrade hu =>
    obtain ⟨h1, h2, h3, h4, h5, h6, h7, h8⟩ := hv
    obtain ⟨hst, hlt, -, -⟩ := h6.1 hu
    constructor <;> rcases hst with hst | hst <;> simp_all [SlotState.powered] <;> omega
  | partialStep g hu hlt hg =>
    obtain ⟨h1, h2, h3, h4, h5, h6, h7, h8⟩ := hv
    obtain ⟨hst, -, -, -⟩ := h6.1 hu
    constructor <;> rcases hst with hst | hst <;> simp_all [SlotState.powered] <;> omega
  | admitted b hb h1b hb1000 hc =>
    obtain ⟨h1, h2, h3, h4, h5, h6, h7, h8⟩ := hv
    have hst := h5.1 hb
    refine View.Sound.climbs hc ?_
    constructor <;> simp_all [SlotState.powered]

/-- The arbiter leaves state, declared power, target, context mode and drain of a slot that does not wait for power. -/
theorem View.Serves1.steady {v w : View} (h : v.Serves1 w) (hb : v.boot = false) :
    w.state = v.state ∧ w.power = v.power ∧ w.target = v.target ∧ w.mode = v.mode ∧ w.boot = false ∧
      w.drainNext = v.drainNext := by
  cases h with
  | upgrade => exact ⟨rfl, rfl, rfl, rfl, hb, rfl⟩
  | partialStep => exact ⟨rfl, rfl, rfl, rfl, hb, rfl⟩
  | admitted b hb' => simp [hb] at hb'

theorem View.Climbs.unheld {v w : View} (h : v.Climbs w) (hv : ¬ (v.state = .heldOnline ∨ v.state = .online)) :
    ¬ (w.state = .heldOnline ∨ w.state = .online) := by
  rcases h with rfl | ⟨-, rfl | rfl⟩
  · exact hv
  · simp
  · simp

theorem View.Lawful.serves1 {v w : View} (h : v.Serves1 w) (hv : v.Lawful) : w.Lawful := by
  refine ⟨hv.toSound.serves1 h, fun hw => ?_⟩
  by_cases hb : v.boot = true
  · have hst := hv.boot.1 hb
    cases h with
    | upgrade => simp_all
    | partialStep => simp_all
    | admitted b _ _ _ hc => exact absurd hw (hc.unheld (by simp))
  · obtain ⟨hstate, hpower, htarget, -⟩ := h.steady (by simpa using hb)
    rw [hpower, htarget]
    exact hv.power (hstate ▸ hw)

/-! ### The thermal cap -/

/-- One thing the arbiter or a change of the thermal cap does to a view. -/
inductive View.Shifts1 : View → View → Prop where
  | serve {v w : View} : v.Serves1 w → Shifts1 v w
  | cap {v : View} (c : Nat) : v.releasing = false → 1 ≤ c →
      Shifts1 v { v with grant := min v.grant (min c v.target), thermalCap := true, upgrade := false }
  | uncap {v : View} : v.thermalCap = true →
      Shifts1 v
        { v with
          thermalCap := false
          upgrade := v.upgrade ||
            ((v.state = .heldOnline || v.state = .online) && v.grant < v.target && !v.releasing) }

theorem View.Sound.shifts1 {v w : View} (h : v.Shifts1 w) (hv : v.Sound) : w.Sound := by
  cases h with
  | serve h => exact hv.serves1 h
  | cap c hr hc =>
    obtain ⟨h1, h2, h3, h4, h5, h6, h7, h8⟩ := hv
    refine ⟨fun h => ?_, fun h => ?_, h3, h4, h5, by simp, h7, h8⟩
    · have := h1 h
      dsimp only
      omega
    · have := h2 h
      dsimp only
      omega
  | uncap ht =>
    obtain ⟨h1, h2, h3, h4, h5, h6, h7, h8⟩ := hv
    refine ⟨h1, h2, h3, h4, h5, ?_, h7, h8⟩
    have hno : v.upgrade = false := by
      by_contra hu
      simpa [ht] using h6.1 (by simpa using hu)
    simp [hno, and_assoc]

theorem View.Shifts1.steady {v w : View} (h : v.Shifts1 w) (hb : v.boot = false) :
    w.state = v.state ∧ w.power = v.power ∧ w.target = v.target ∧ w.mode = v.mode ∧ w.boot = false ∧
      w.drainNext = v.drainNext := by
  cases h with
  | serve h => exact h.steady hb
  | cap => exact ⟨rfl, rfl, rfl, rfl, hb, rfl⟩
  | uncap => exact ⟨rfl, rfl, rfl, rfl, hb, rfl⟩

theorem View.Lawful.shifts1 {v w : View} (h : v.Shifts1 w) (hv : v.Lawful) : w.Lawful := by
  cases h with
  | serve h => exact hv.serves1 h
  | cap c hr hc => exact ⟨hv.toSound.shifts1 (.cap c hr hc), hv.power⟩
  | uncap ht => exact ⟨hv.toSound.shifts1 (.uncap ht), hv.power⟩

/-! ### Drains -/

/-- What a drain's start needs of the view: the grant, and a context that is open only in its state. -/
structure View.Drainable (v : View) : Prop where
  bounds : 1 ≤ v.grant ∧ v.grant ≤ v.target ∧ v.target ≤ 1000
  boot : v.boot = false
  window : v.mode = .window → v.state = .announcing
  refresh : v.mode = .refresh → v.state = .online

theorem SlotState.powered_of_drainable {st : SlotState} (h : st.drainable = true) : st.powered = true := by
  cases st <;> simp_all [SlotState.drainable, SlotState.powered]

theorem View.Sound.boot_false {v : View} (hv : v.Sound) (h : v.state ≠ .powerWait) : v.boot = false := by
  by_contra hb
  exact h (hv.boot.1 (by simpa using hb))

theorem View.Sound.drainable {v : View} (hv : v.Sound) (h : v.state.drainable = true) : v.Drainable :=
  ⟨hv.powered (SlotState.powered_of_drainable h),
    hv.boot_false fun e => by simp [e, SlotState.drainable] at h,
    hv.window.1, hv.refresh⟩

/-- The view of a slot that drains. -/
theorem View.Drainable.drained {v : View} (hv : v.Drainable) {n : DrainNext} (hn : n ≠ .none) {p : Option Nat} :
    View.Lawful
      { v with state := .draining, drainNext := n, releasing := true, upgrade := false, mode := .closed, power := p } := by
  obtain ⟨h1, h2, -, -⟩ := hv
  refine ⟨⟨?_, ?_, ?_, ?_, ?_, ?_, ?_, ?_⟩, ?_⟩ <;> simp_all [SlotState.powered]

/-- A drain under way may change its next state. -/
theorem View.Sound.redirect {v : View} (hv : v.Sound) (hst : v.state = .draining) {n : DrainNext} (hn : n ≠ .none) :
    View.Lawful { v with state := .draining, drainNext := n } := by
  obtain ⟨h1, h2, h3, h4, h5, h6, h7, h8⟩ := hv
  refine ⟨⟨?_, ?_, ?_, ?_, ?_, ?_, ?_, ?_⟩, ?_⟩ <;> simp_all [SlotState.powered]

/-! ### Slots that take no power -/

/-- The view of a slot that holds no grant and waits for none; its state is left open. -/
structure View.Idle (v : View) : Prop where
  grant : v.grant = 0
  target : v.target = 0
  releasing : v.releasing = false
  drainNext : v.drainNext = .none
  boot : v.boot = false
  upgrade : v.upgrade = false
  mode : v.mode = .closed

theorem View.Idle.inert {v : View} (h : v.Idle) : v.inert := ⟨h.boot, h.upgrade⟩

/-- An unpowered state in which nothing waits for power. -/
def SlotState.rests : SlotState → Bool
  | .empty | .debounce | .present | .heldPower | .fault | .disabled => true
  | _ => false

theorem View.Idle.lawful {v : View} (h : v.Idle) (hst : v.state.rests = true) : v.Lawful := by
  obtain ⟨h1, h2, h3, h4, h5, h6, h7⟩ := h
  refine ⟨⟨?_, ?_, ?_, ?_, ?_, ?_, ?_, ?_⟩, ?_⟩ <;> cases hs : v.state <;> simp_all [SlotState.rests, SlotState.powered]

theorem View.Idle.enter {v : View} (h : v.Idle) {st : SlotState} (hst : st.rests = true) :
    View.Lawful { v with state := st } :=
  View.Idle.lawful (v := { v with state := st }) ⟨h.1, h.2, h.3, h.4, h.5, h.6, h.7⟩ hst

theorem View.Sound.upgrade_false {v : View} (hv : v.Sound) (h : ¬ (v.state = .heldOnline ∨ v.state = .online)) :
    v.upgrade = false := by
  by_contra hu
  exact h (hv.upgrade.1 (by simpa using hu)).1

theorem View.Sound.idle {v : View} (hv : v.Sound) (hst : v.state.rests = true) : v.Idle := by
  have hp : v.state.powered = false := by cases hs : v.state <;> simp_all [SlotState.rests, SlotState.powered]
  have hd : v.state ≠ .draining := fun e => by simp [e, SlotState.rests] at hst
  refine ⟨(hv.unpowered hp).1, (hv.unpowered hp).2, ?_, ?_, ?_, ?_, ?_⟩
  · exact Bool.eq_false_iff.2 fun h => hd (hv.releasing.1 h)
  · exact not_not.1 fun h => hd (hv.drainNext.1 h)
  · exact hv.boot_false fun e => by simp [e, SlotState.rests] at hst
  · exact hv.upgrade_false fun e => by rcases e with e | e <;> simp [e, SlotState.rests] at hst
  · cases hm : v.mode with
    | closed => rfl
    | window => simp [hv.window.1 hm, SlotState.rests] at hst
    | refresh => simp [hv.refresh hm, SlotState.rests] at hst

/-- A slot in POWER_WAIT without its BOOT entry holds nothing. -/
theorem View.Sound.idle_of_powerWait {v : View} (hv : v.Sound) (hst : v.state = .powerWait) :
    View.Idle { v with boot := false } := by
  refine ⟨(hv.unpowered (by rw [hst]; rfl)).1, (hv.unpowered (by rw [hst]; rfl)).2, ?_, ?_, rfl, ?_, ?_⟩
  · exact Bool.eq_false_iff.2 fun h => by simpa [hst] using hv.releasing.1 h
  · exact not_not.1 fun h => by simpa [hst] using hv.drainNext.1 h
  · exact hv.upgrade_false (by simp [hst])
  · cases hm : v.mode with
    | closed => rfl
    | window => simpa [hst] using hv.window.1 hm
    | refresh => simpa [hst] using hv.refresh hm

/-! ### A power request -/

/-- The view of a slot that has asked for power: its BOOT entry waits and the rest is as in POWER_WAIT, or the entry has
been admitted. -/
def View.Asking (v : View) : Prop :=
  v.boot = true ∧ View.Lawful { v with state := .powerWait } ∨ v.boot = false ∧ v.Lawful

theorem View.Idle.asking {v : View} (h : v.Idle) : View.Asking { v with boot := true } := by
  obtain ⟨h1, h2, h3, h4, h5, h6, h7⟩ := h
  refine .inl ⟨rfl, ⟨?_, ?_, ?_, ?_, ?_, ?_, ?_, ?_⟩, ?_⟩ <;> simp_all [SlotState.powered]

theorem View.Asking.serves1 {v w : View} (h : v.Serves1 w) (hv : v.Asking) : w.Asking := by
  rcases hv with ⟨hb, hv⟩ | ⟨hb, hv⟩
  · have hno : v.upgrade = false := hv.toSound.upgrade_false (by simp)
    cases h with
    | upgrade hu => simp [hno] at hu
    | partialStep _ hu => simp [hno] at hu
    | admitted b _ h1 h2 hc =>
      have hw : w.Lawful := hv.serves1 (.admitted (v := { v with state := .powerWait }) b hb h1 h2 hc)
      refine .inr ⟨?_, hw⟩
      rcases hc with rfl | ⟨-, rfl | rfl⟩ <;> rfl
  · exact .inr ⟨(h.steady hb).2.2.2.2.1, hv.serves1 h⟩

/-! ### An acceptance from a window -/

/-- The view of an ANNOUNCING slot whose record is accepted, its context in mode m: it lacks but the move to HELD_ONLINE
or ONLINE. -/
def View.Accepted (m : ContextMode) (v : View) : Prop :=
  v.state = .announcing ∧ v.mode = m ∧ View.Lawful { v with state := .heldOnline, mode := .closed }

theorem View.Accepted.serves1 {m : ContextMode} {v w : View} (h : v.Serves1 w) (hv : v.Accepted m) : w.Accepted m := by
  obtain ⟨hst, hm, hl⟩ := hv
  have hb : v.boot = false := hl.toSound.boot_false (by simp)
  cases h with
  | upgrade hu => exact ⟨hst, hm, hl.serves1 (.upgrade (v := { v with state := .heldOnline, mode := .closed }) hu)⟩
  | partialStep g hu h1 h2 =>
    exact ⟨hst, hm,
      hl.serves1 (.partialStep (v := { v with state := .heldOnline, mode := .closed }) g hu h1 h2)⟩
  | admitted b hb' => simp [hb] at hb'

theorem View.Lawful.online_of_held {v : View} (h : v.Lawful) (hst : v.state = .heldOnline) (st : SlotState)
    (ho : st = .heldOnline ∨ st = .online) : View.Lawful { v with state := st } := by
  obtain ⟨⟨h1, h2, h3, h4, h5, h6, h7, h8⟩, h9⟩ := h
  refine ⟨⟨?_, ?_, ?_, ?_, ?_, ?_, ?_, ?_⟩, ?_⟩ <;> rcases ho with rfl | rfl <;> simp_all [SlotState.powered]

end Sys2Proof.Machine

/-!
# The lifecycle (O57): the rules' operations

`State.Life s i Q`: every slot but i is lawful, slot i's view meets Q, and the queue, the policies and the WRITE in
application are as the law asks. Each operation is told by what it makes of Q.
-/

namespace Sys2Proof.Machine

/-- Every policy still to be written is lawful. -/
def State.jobLawful (s : State) : Prop :=
  ∀ job k p, s.writeJob = some job → (k, Item.slotPolicy p) ∈ job.items → p.powerLawful

/-- The lifecycle's law, with Q in place of what it asks of slot i's view. -/
structure State.Life (s : State) (i : SlotId) (Q : View → Prop) : Prop where
  others : ∀ j, j ≠ i → (s.view j).Lawful
  own : Q (s.view i)
  one : s.oneEntryEach
  policies : s.policiesLawful
  job : s.jobLawful

theorem State.lifecycleLawful_iff (s : State) (i : SlotId) : s.lifecycleLawful ↔ s.Life i View.Lawful := by
  simp only [State.lifecycleLawful, State.slotLawful_iff]
  constructor
  · rintro ⟨hall, hone, hpol, hjob⟩
    exact ⟨fun j _ => hall j, hall i, hone, hpol, hjob⟩
  · rintro ⟨hothers, hown, hone, hpol, hjob⟩
    refine ⟨fun j => ?_, hone, hpol, hjob⟩
    by_cases e : j = i
    · exact e ▸ hown
    · exact hothers j e

theorem State.view_lawful {s : State} (h : s.lifecycleLawful) (i : SlotId) : (s.view i).Lawful :=
  ((s.lifecycleLawful_iff i).1 h).own

namespace State.Life

section

variable {s t : State} {i : SlotId} {Q R : View → Prop}

/-- What is left to say of slot i follows from what was said. -/
theorem mono (h : s.Life i Q) (hQ : Q (s.view i) → R (s.view i)) : s.Life i R :=
  ⟨h.others, hQ h.own, h.one, h.policies, h.job⟩

/-- Whatever leaves the other slots, the queue's slots, the policies and the WRITE alone. -/
theorem own_change (h : s.Life i Q) (hv : ∀ j, j ≠ i → t.view j = s.view j) (hR : R (t.view i))
    (hone : s.oneEntryEach → t.oneEntryEach) (hpol : t.policies = s.policies) (hjob : t.writeJob = s.writeJob) :
    t.Life i R :=
  ⟨fun j hj => by rw [hv j hj]; exact h.others j hj, hR, hone h.one,
    fun j => by rw [State.policy, hpol]; exact h.policies j,
    fun job k p hw => h.job job k p (hjob ▸ hw)⟩

/-- Whatever changes no view. -/
theorem views_kept (h : s.Life i Q) (hv : ∀ j, t.view j = s.view j) (hone : s.oneEntryEach → t.oneEntryEach)
    (hpol : t.policies = s.policies) (hjob : t.writeJob = s.writeJob) : t.Life i Q :=
  h.own_change (fun j _ => hv j) (by rw [hv i]; exact h.own) hone hpol hjob

/-! ### One record -/

theorem raise (h : s.Life i Q) (e : Event) : (s.raise e).Life i Q :=
  h.views_kept (fun j => by simp) (by simp [State.oneEntryEach]) (by simp) (by simp)

theorem transmit (h : s.Life i Q) (p : PortId) (k : SentKind) (l : List Byte) : (s.transmit p k l).Life i Q :=
  h.views_kept (fun j => by simp) (by simp [State.oneEntryEach]) (by simp) (by simp)

theorem setRail (h : s.Life i Q) (j : SlotId) (r : Rail) : (s.setRail j r).Life i Q :=
  h.views_kept (fun _ => rfl) id rfl rfl

theorem updThermal (h : s.Life i Q) (j : SlotId) (f : ThermalRecord → ThermalRecord) : (s.updThermal j f).Life i Q :=
  h.views_kept (fun _ => rfl) id rfl rfl

theorem updMeter (h : s.Life i Q) (j : SlotId) (f : Meter → Meter) : (s.updMeter j f).Life i Q :=
  h.views_kept (fun _ => rfl) id rfl rfl

theorem remark (h : s.Life i Q) (j : SlotId) : (s.remark j).Life i Q := by
  have hf := s.remark_frame j
  exact h.views_kept (fun k => by simp)
    (State.oneEntryEach_of_sublist (by rw [State.remark_powerQueue])) (by rw [hf]) (by rw [hf])

theorem updSlot (h : s.Life i Q) (f : Slot → Slot)
    (hR : R { s.view i with state := (f (s.slot i)).state, drainNext := (f (s.slot i)).drainNext }) :
    (s.updSlot i f).Life i R :=
  h.own_change (fun j hj => by rw [State.updSlot_view, if_neg hj]) (by rw [State.updSlot_view, if_pos rfl]; exact hR) id
    rfl rfl

/-- A change of the slot record that neither moves the slot nor touches its drain's next state. -/
theorem updSlot_kept (h : s.Life i Q) (f : Slot → Slot) (hst : (f (s.slot i)).state = (s.slot i).state)
    (hn : (f (s.slot i)).drainNext = (s.slot i).drainNext) : (s.updSlot i f).Life i Q :=
  h.updSlot f (by rw [hst, hn]; exact h.own)

theorem enter (h : s.Life i Q) (st : SlotState) (hR : R { s.view i with state := st }) : (s.enter i st).Life i R :=
  (h.updSlot (fun r => { r with state := st }) hR).raise _

/-- A move to a state, from a known view. -/
theorem enter_of {v : View} (h : s.Life i fun w => w = v) (st : SlotState) (hR : R { v with state := st }) :
    (s.enter i st).Life i R := h.enter st (by rw [h.own]; exact hR)

theorem setSlotState (h : s.Life i Q) (st : SlotState) (hR : R { s.view i with state := st }) :
    (s.setSlotState i st).Life i R := h.updSlot _ hR

theorem updGrant (h : s.Life i Q) (f : Grant → Grant)
    (hR : R { s.view i with
      grant := (f (s.grantOf i)).grant, target := (f (s.grantOf i)).target,
      releasing := (f (s.grantOf i)).releasing, thermalCap := (f (s.grantOf i)).thermalCap }) :
    (s.updGrant i f).Life i R :=
  h.own_change (fun j hj => by rw [State.updGrant_view, if_neg hj]) (by rw [State.updGrant_view, if_pos rfl]; exact hR)
    id rfl rfl

/-- A change of the grant record, from a known view. -/
theorem updGrant_of {v : View} (h : s.Life i fun w => w = v) (f : Grant → Grant)
    (hR : ∀ g : Grant, g.grant = v.grant → g.target = v.target → g.releasing = v.releasing →
      g.thermalCap = v.thermalCap →
      R { v with
        grant := (f g).grant, target := (f g).target, releasing := (f g).releasing, thermalCap := (f g).thermalCap }) :
    (s.updGrant i f).Life i R := by
  obtain rfl := h.own
  exact h.updGrant f (hR _ rfl rfl rfl rfl)

theorem updContext (h : s.Life i Q) (f : Context → Context) (hR : R { s.view i with mode := (f (s.context i)).mode }) :
    (s.updContext i f).Life i R :=
  h.own_change (fun j hj => by rw [State.updContext_view, if_neg hj])
    (by rw [State.updContext_view, if_pos rfl]; exact hR) id rfl rfl

/-- A change of the context that leaves its mode. -/
theorem updContext_kept (h : s.Life i Q) (f : Context → Context) (hf : (f (s.context i)).mode = (s.context i).mode) :
    (s.updContext i f).Life i Q := h.updContext f (by rw [hf]; exact h.own)

theorem updInv (h : s.Life i Q) (f : Inventory → Inventory)
    (hR : R { s.view i with power := (f (s.inv i)).record.map InvRecord.power }) : (s.updInv i f).Life i R :=
  h.own_change (fun j hj => by rw [State.updInv_view, if_neg hj]) (by rw [State.updInv_view, if_pos rfl]; exact hR) id
    rfl rfl

theorem enqueue (h : s.Life i Q) (k : EntryKind) (hb : (s.view i).boot = false) (hu : (s.view i).upgrade = false)
    (hR : R { s.view i with
      boot := (s.view i).boot || EntryKind.boot = k, upgrade := (s.view i).upgrade || EntryKind.upgrade = k }) :
    (s.enqueue i k).Life i R := by
  have hf := s.enqueue_frame i k
  refine h.own_change (fun j hj => ?_) ?_ (State.enqueue_oneEntryEach k hb hu) (by rw [hf]) (by rw [hf])
  · rw [State.enqueue_view]
    simp [hj]
  · rw [State.enqueue_view]
    simpa using hR

theorem dequeue (h : s.Life i Q) (k : EntryKind)
    (hR : R { s.view i with
      boot := (s.view i).boot && !decide (EntryKind.boot = k)
      upgrade := (s.view i).upgrade && !decide (EntryKind.upgrade = k) }) :
    (s.dequeue i k).Life i R := by
  refine h.own_change (fun j hj => ?_) ?_ (State.dequeue_oneEntryEach i k) rfl rfl
  · rw [State.dequeue_view]
    simp [hj]
  · rw [State.dequeue_view]
    simpa using hR

/-! ### The arbiter -/

theorem serves (h : s.Life i Q) (hQ : ∀ v w, Q v → v.Serves1 w → Q w) (ht : s.Arbitrated t)
    (hset : t.settings = s.settings) : t.Life i Q := by
  have hstable : ∀ {P : View → Prop} {v w : View}, (∀ v w, P v → v.Serves1 w → P w) → v.Serves w → P v → P w := by
    intro P v w hP hvw hv
    induction hvw with
    | refl => exact hv
    | tail _ hs ih => exact hP _ _ ih hs
  exact ⟨fun j hj => hstable (fun _ _ hv hs => hv.serves1 hs) (ht.view j) (h.others j hj),
    hstable hQ (ht.view i) h.own, ht.one h.one, State.policiesLawful_of_settings hset h.policies,
    fun job k p hw => h.job job k p ((State.writeJob_of_settings hset) ▸ hw)⟩

theorem arbiter (h : s.Life i Q) (hQ : ∀ v w, Q v → v.Serves1 w → Q w) : s.arbiter.Life i Q :=
  h.serves hQ (State.arbiter_arbitrated h.policies) s.arbiter_settings

theorem arbiter_lawful (h : s.Life i View.Lawful) : s.arbiter.Life i View.Lawful :=
  h.arbiter fun _ _ hv hs => hv.serves1 hs

/-- A slot that waits for nothing keeps its view through the arbiter. -/
theorem arbiter_inert (h : s.Life i Q) (hQ : (s.view i).inert) : s.arbiter.Life i Q :=
  (State.Life.arbiter (Q := fun v => v = s.view i) (h.mono fun _ => rfl) fun _ _ hv hs =>
    absurd (hv ▸ hs) hQ.not_serves1).mono fun e => e ▸ h.own

theorem liftThermalCap (h : s.Life i Q) (hR : R { s.view i with thermalCap := false }) :
    (s.liftThermalCap i).Life i R := by
  unfold State.liftThermalCap
  split
  · exact (h.updGrant (fun g => { g with thermalCap := false }) hR).raise _
  · next hc =>
    refine h.mono fun _ => ?_
    have : (s.view i).thermalCap = false := by rw [State.view_thermalCap]; simpa using hc
    rwa [← this] at hR

/-! ### Power requests and entries withdrawn -/

theorem powerRequest (h : s.Life i View.Idle) : (s.powerRequest i).Life i View.Lawful := by
  have hown := h.own
  have hq : (s.enqueue i .boot).arbiter.Life i View.Asking :=
    (h.enqueue .boot hown.boot hown.upgrade (by simpa using hown.asking)).arbiter fun _ _ hv hs => hv.serves1 hs
  unfold State.powerRequest
  dsimp only
  rcases hq.own with ⟨hb, hl⟩ | ⟨hb, hl⟩
  · rw [if_pos (by rwa [← State.view_boot])]
    exact hq.enter .powerWait hl
  · rw [if_neg (by rw [← State.view_boot, hb]; simp)]
    exact hq.mono fun _ => hl

theorem withdraw_boot (h : s.Life i View.Sound) (hst : (s.slot i).state = .powerWait) :
    (s.withdraw i .boot).Life i View.Idle := by
  unfold State.withdraw
  have hb : s.hasEntry i .boot = true := h.own.boot.2 hst
  rw [if_pos hb]
  have hd : (s.dequeue i .boot).Life i View.Idle :=
    h.dequeue .boot (by simpa using h.own.idle_of_powerWait hst)
  exact hd.arbiter_inert hd.own.inert

theorem enterHeld (h : s.Life i Q) (st : SlotState) (hR : R { s.view i with state := st }) :
    (s.enterHeld i st).Life i R :=
  ((h.updSlot (R := fun v => v = s.view i) (fun r => { r with hold := s.holdTimer i }) rfl).enter_of st hR).raise _

theorem powerUpPath (h : s.Life i View.Idle) : (s.powerUpPath i).Life i View.Lawful := by
  unfold State.powerUpPath
  split
  · exact h.enterHeld .heldPower (h.own.enter rfl)
  · exact h.powerRequest

/-! ### The thermal cap -/

theorem setThermalCap (h : s.Life i Q) (hQ : ∀ v w, Q v → v.Shifts1 w → Q w) : (s.setThermalCap i).Life i Q := by
  have hserve : ∀ v w, Q v → v.Serves1 w → Q w := fun v w hv hs => hQ v w hv (.serve hs)
  unfold State.setThermalCap
  split
  · exact h
  · next hc =>
    simp only [Bool.or_eq_true, not_or, Bool.not_eq_true] at hc
    have hcap := hQ _ _ h.own (.cap (s.policy i).capFloor hc.2 (h.policies i).2.2)
    have h1 : (s.updGrant i fun g => { g with thermalCap := true }).Life i
        fun v => v = { s.view i with thermalCap := true } := h.updGrant _ rfl
    have h2 := (h1.raise (.thermalCapOn i)).dequeue (R := fun v => v = { s.view i with thermalCap := true, upgrade := false })
      .upgrade (by rw [(h1.raise _).own]; simp)
    refine State.Life.arbiter ?_ hserve
    refine (h2.updGrant_of _ fun g hg ht hr hc => ?_).remark i
    have hlevel : s.capLevel i = min (s.policy i).capFloor (s.view i).target := rfl
    simpa [hg, ht, hr, hc, hlevel] using hcap

theorem clearThermalCap (h : s.Life i Q) (hQ : ∀ v w, Q v → v.Shifts1 w → Q w)
    (hS : ∀ v, Q v → v.Sound) : (s.clearThermalCap i).Life i Q := by
  unfold State.clearThermalCap
  split
  · next hc =>
    have hsound := hS _ h.own
    have hu : (s.view i).upgrade = false := by
      by_contra hu
      have := (hsound.upgrade.1 (by simpa using hu)).2.2.1
      rw [State.view_thermalCap, hc] at this
      cases this
    have hcap := hQ _ _ h.own (.uncap hc)
    have h1 : (s.liftThermalCap i).Life i fun v => v = { s.view i with thermalCap := false } := h.liftThermalCap rfl
    dsimp only
    refine remark ?_ i
    generalize s.liftThermalCap i = t at h1
    have hst : (t.slot i).state = (s.view i).state := congrArg View.state h1.own
    have hg : (t.grantOf i).grant = (s.view i).grant := congrArg View.grant h1.own
    have ht : (t.grantOf i).target = (s.view i).target := congrArg View.target h1.own
    have hr : (t.grantOf i).releasing = (s.view i).releasing := congrArg View.releasing h1.own
    simp only [State.mayUpgrade, hst, hg, ht, hr]
    split
    · next hm =>
      have hb : (s.view i).boot = false := hsound.boot_false fun e => by simp [e] at hm
      refine State.Life.arbiter (Q := Q) ?_ fun v w hv hs => hQ v w hv (.serve hs)
      refine h1.enqueue .upgrade (by rw [h1.own]; exact hb) (by rw [h1.own]; exact hu) ?_
      rw [h1.own]
      simpa [hu, hb, hm] using hcap
    · next hm =>
      refine h1.mono fun _ => ?_
      rw [h1.own]
      simpa [hu, Bool.eq_false_iff.2 hm] using hcap
  · exact h

end

end State.Life

end Sys2Proof.Machine

/-! ### Drains, completions, entries to the resting states (O57) -/

namespace Sys2Proof.Machine

/-- What is said of the view stands through the arbiter and every change of the thermal cap. -/
structure View.Stable (Q : View → Prop) : Prop where
  shifts : ∀ v w, Q v → v.Shifts1 w → Q w
  sound : ∀ v, Q v → v.Sound

theorem View.stable_lawful : View.Stable View.Lawful := ⟨fun _ _ hv hs => hv.shifts1 hs, fun _ hv => hv.toSound⟩

/-- A lawful view of a state other than POWER_WAIT. -/
theorem View.stable_lawfulAt {st : SlotState} (hst : st ≠ .powerWait) :
    View.Stable fun v => v.Lawful ∧ v.state = st :=
  ⟨fun _ _ ⟨hv, e⟩ hs => ⟨hv.shifts1 hs, (hs.steady (hv.toSound.boot_false (e ▸ hst))).1.trans e⟩,
    fun _ hv => hv.1.toSound⟩

/-- A refresh that is being accepted: the record's declared power is new, the target is still the old one. -/
def View.Refreshing (power target : Nat) (v : View) : Prop :=
  v.Sound ∧ v.state = .online ∧ v.power = some power ∧ v.target = target

theorem View.stable_refreshing (power target : Nat) : View.Stable (View.Refreshing power target) := by
  refine ⟨fun v w ⟨hv, hst, hp, ht⟩ hs => ?_, fun _ hv => hv.1⟩
  obtain ⟨h1, h2, h3, -⟩ := hs.steady (hv.boot_false (by simp [hst]))
  exact ⟨hv.shifts1 hs, h1.trans hst, h2.trans hp, h3.trans ht⟩

namespace State.Life

section

variable {s t : State} {i : SlotId} {Q R : View → Prop}

/-! ### Readings and staleness -/

theorem setTest (h : s.Life i Q) (hQ : View.Stable Q) (xs : List Sensor) : (s.setTest i xs).Life i Q := by
  unfold State.setTest
  split
  · exact ((h.updThermal i _).setThermalCap hQ.shifts).updThermal i _
  · exact h

theorem clearTest (h : s.Life i Q) (hQ : View.Stable Q) : (s.clearTest i).Life i Q := by
  unfold State.clearTest
  split
  · exact (h.updThermal i _).clearThermalCap hQ.shifts hQ.sound
  · exact h

theorem takeReading (h : s.Life i Q) (hQ : View.Stable Q) (id : SensorId) (x : Int) : (s.takeReading i id x).Life i Q := by
  unfold State.takeReading
  (repeat' split)
  exacts [h, ((h.updThermal i _).setTest hQ _).clearTest hQ, (h.updThermal i _).clearTest hQ]

theorem takeTelemetry (h : s.Life i Q) (hQ : View.Stable Q) (l : List Byte) : (s.takeTelemetry i l).Life i Q := by
  have hloop : ∀ (n off : Nat) {u : State}, u.Life i Q → (takeReadings i l n off u).Life i Q := by
    intro n
    induction n with
    | zero => exact fun _ _ hu => hu
    | succ n ih =>
      intro off u hu
      unfold takeReadings
      refine ih _ ?_
      split
      · exact hu.takeReading hQ _ _
      · exact hu
  unfold State.takeTelemetry
  split
  · exact hloop _ _ h
  · exact h

theorem rebuildThermal (h : s.Life i Q) (hQ : View.Stable Q) (l : List SensorLimits) : (s.rebuildThermal i l).Life i Q := by
  unfold State.rebuildThermal
  dsimp only
  have ht := h.updThermal i fun r => { r with sensors := mergeSensors r.sensors l }
  (repeat' split)
  exacts [ht.clearTest hQ, ht.setTest hQ _, ht]

/-! ### Drains -/

theorem closeContext {v : View} (h : s.Life i fun w => w = v) :
    (s.closeContext i).Life i fun w => w = { v with mode := .closed } := by
  obtain rfl := h.own
  exact h.updContext _ rfl

theorem exitOnline {v : View} (h : s.Life i fun w => w = v) (hm : v.mode ≠ .window) :
    (s.exitOnline i).Life i fun w => w = { v with mode := .closed } := by
  obtain rfl := h.own
  have hmode : (s.view i).mode = (s.context i).mode := rfl
  refine State.Life.updThermal ?_ i _
  split
  · exact h.updContext _ rfl
  · next hr =>
    have hc : (s.view i).mode = .closed := by
      cases hc : (s.view i).mode with
      | closed => rfl
      | window => exact absurd hc hm
      | refresh => exact absurd (hmode ▸ hc) hr
    refine h.mono fun _ => ?_
    rw [← hc]

theorem markReleasing {v : View} (h : s.Life i fun w => w = v) (hb : v.boot = false) :
    (s.markReleasing i).Life i fun w => w = { v with releasing := true, upgrade := false } := by
  have hg : (s.updGrant i fun g => { g with releasing := true }).Life i fun w => w = { v with releasing := true } :=
    h.updGrant_of _ fun g hg ht _ hc => by simp [hg, ht, hc]
  have hd := hg.dequeue (R := fun w => w = { v with releasing := true, upgrade := false }) .upgrade
    (by rw [hg.own]; simp)
  exact hd.arbiter_inert (by rw [hd.own]; exact ⟨hb, rfl⟩)

theorem startDrain (h : s.Life i View.Drainable) (hd : (s.slot i).state.drainable = true) {c : DrainCause} {n : DrainNext}
    (f : FaultCause) (hn : n ≠ .none) (hc : c = .budget → (s.view i).releasing = true ∧ (s.view i).upgrade = false) :
    (s.startDrain i c n f).Life i View.Lawful := by
  have hown := h.own
  have hst : (s.slot i).state = (s.view i).state := rfl
  unfold State.startDrain
  rw [if_pos hd]
  dsimp only
  simp only [hst]
  have h0 : (s.updSlot i (Slot.recordDrain c n f)).Life i fun w => w = { s.view i with drainNext := n } :=
    h.updSlot _ rfl
  have h1 : State.Life (if (s.view i).state = .online then (s.updSlot i (Slot.recordDrain c n f)).exitOnline i
      else s.updSlot i (Slot.recordDrain c n f)) i fun w =>
        w = { s.view i with
          drainNext := n, mode := if (s.view i).state = .online then .closed else (s.view i).mode } := by
    split
    · next ho => exact h0.exitOnline fun e => by simpa [ho] using hown.window e
    · exact h0
  generalize (if (s.view i).state = .online then (s.updSlot i (Slot.recordDrain c n f)).exitOnline i
      else s.updSlot i (Slot.recordDrain c n f)) = t at h1
  have h2 : State.Life (if (s.view i).state = .announcing then t.closeContext i else t) i fun w =>
      w = { s.view i with drainNext := n, mode := .closed } := by
    split
    · exact h1.closeContext
    · next ha =>
      refine h1.mono fun e => e.trans ?_
      split
      · rfl
      · next ho =>
        cases hm : (s.view i).mode with
        | closed => rfl
        | window => exact absurd (hown.window hm) ha
        | refresh => exact absurd (hown.refresh hm) ho
  generalize (if (s.view i).state = .announcing then t.closeContext i else t) = u at h2
  have h3 : (u.drainGrant i c).Life i fun w =>
      w = { s.view i with drainNext := n, mode := .closed, releasing := true, upgrade := false } := by
    unfold State.drainGrant
    split
    · next e =>
      refine h2.mono fun hw => hw.trans ?_
      obtain ⟨hr, hu⟩ := hc e
      rw [← hr, ← hu]
    · exact h2.markReleasing hown.boot
  exact (h3.setRail i _).enter_of _ (hown.drained hn)

/-- No drain starts in any other state. -/
theorem startDrain_refused (h : s.Life i Q) (hd : ¬ (s.slot i).state.drainable = true) {c : DrainCause} {n : DrainNext}
    {f : FaultCause} : (s.startDrain i c n f).Life i Q := by
  unfold State.startDrain
  rw [if_neg hd]
  exact h

theorem startDrain_lawful (h : s.Life i View.Lawful) {c : DrainCause} {n : DrainNext} (f : FaultCause) (hn : n ≠ .none)
    (hc : c ≠ .budget) : (s.startDrain i c n f).Life i View.Lawful := by
  by_cases hd : (s.slot i).state.drainable = true
  · exact (h.mono fun hv => hv.toSound.drainable hd).startDrain hd f hn fun e => absurd e hc
  · exact h.startDrain_refused hd

/-! ### Stations, uplinks, the records of a blade -/

theorem install (h : s.Life i Q) (a : Addr) (j : SlotId) : (s.install a j).Life i Q := by
  unfold State.install
  split
  · exact h
  · exact h.views_kept (fun _ => rfl) id rfl rfl

/-- A change of an inventory record that leaves its declared power. -/
theorem updInv_kept (h : s.Life i Q) (j : SlotId) (f : Inventory → Inventory)
    (hf : (f (s.inv j)).record.map InvRecord.power = (s.inv j).record.map InvRecord.power) :
    (s.updInv j f).Life i Q := by
  refine h.views_kept (fun k => ?_) id rfl rfl
  rw [State.updInv_view, hf]
  split
  · next e => rw [e]; rfl
  · rfl

theorem setAddrStatus (h : s.Life i Q) (j : SlotId) (n : Nat) (st : AddrStatus) : (s.setAddrStatus j n st).Life i Q :=
  h.updInv_kept j _ (by simp [Function.comp_def])

theorem reoffer (h : s.Life i Q) (a : Addr) : (s.reoffer a).Life i Q := by
  unfold State.reoffer
  split
  · exact h
  · exact ((h.install a _).updInv_kept _ _ (by simp [Function.comp_def, InvRecord.promote])).raise _

theorem updStation (h : s.Life i Q) (n : Fin 64) (f : Option Station → Option Station) : (s.updStation n f).Life i Q :=
  h.views_kept (fun _ => rfl) id rfl rfl

theorem removeStations (h : s.Life i Q) (j : SlotId) (keep : List Addr) : (s.removeStations j keep).Life i Q := by
  refine KeptByUnits.foldl (P := fun _ s => State.Life s i Q) (k := .nothing) _ _ (fun s n _ ht => ?_) h
  (repeat' split)
  exacts [ht, ((ht.updStation n _).raise _).reoffer _, ht]

theorem offerAll (j : SlotId) (l : List Addr) : ∀ (earlier : List Addr) {s : State}, s.Life i Q →
    (Machine.offerAll j earlier l s).Life i Q := by
  induction l with
  | nil => exact fun _ _ h => h
  | cons a l ih =>
    intro earlier s h
    unfold Machine.offerAll
    refine ih _ ?_
    split
    · exact h.setAddrStatus j _ _
    · split
      · exact h.setAddrStatus j _ _
      · refine State.Life.raise (State.Life.setAddrStatus ?_ j _ _) _
        split
        · exact h.install a j
        · exact h

theorem updateStations (h : s.Life i Q) (l : List Addr) : (s.updateStations i l).Life i Q :=
  offerAll i l [] (h.removeStations i l)

theorem keptByNotices : KeptByNotices fun _ s => State.Life s i Q :=
  .of_ignored fun _ _ _ _ _ h => h.views_kept (fun _ => rfl) id rfl rfl

theorem keptByUplinks : KeptByUplinks fun _ s => State.Life s i Q :=
  .of_ignored (fun _ _ _ _ h => h.views_kept (fun _ => rfl) id rfl rfl) (fun e h => h.raise e)
    fun {k _} h => keptByNotices.attemptSend (k := k) h

theorem clearBlade (h : s.Life i Q) (hR : R { s.view i with power := none }) : (s.clearBlade i).Life i R :=
  ((h.updInv (fun v => { v with record := none }) hR).removeStations i []).updThermal i _

theorem clearBlade_sound (h : s.Life i View.Sound) : (s.clearBlade i).Life i View.Sound :=
  h.clearBlade (by obtain ⟨h1, h2, h3, h4, h5, h6, h7, h8⟩ := h.own; exact ⟨h1, h2, h3, h4, h5, h6, h7, h8⟩)

theorem clearBlade_idle (h : s.Life i View.Idle) : (s.clearBlade i).Life i View.Idle :=
  h.clearBlade (by obtain ⟨h1, h2, h3, h4, h5, h6, h7⟩ := h.own; exact ⟨h1, h2, h3, h4, h5, h6, h7⟩)

theorem stackIfDue (h : s.Life i Q) (j : SlotId) : (s.stackIfDue j).Life i Q := by
  unfold State.stackIfDue
  split
  · next hdue => exact keptByUplinks.takeStackRole (k := .nothing) hdue.2.2 h
  · exact h

/-! ### Entries to the resting states -/

theorem enterDisabled (h : s.Life i View.Idle) : (s.enterDisabled i).Life i View.Lawful := by
  have hc := h.clearBlade_idle
  unfold State.enterDisabled
  generalize s.clearBlade i = t at hc
  have ht := hc.updSlot_kept (fun r => { r with faultCause := .none, retryCount := 0 }) rfl rfl
  exact (ht.enter (R := View.Lawful) .disabled (ht.own.enter rfl)).stackIfDue i

theorem enterEmpty (h : s.Life i View.Idle) : (s.enterEmpty i).Life i View.Lawful := by
  have ht := h.updSlot_kept (fun r => { r with faultCause := .none, drainCause := .none, retryCount := 0 }) rfl rfl
  unfold State.enterEmpty
  dsimp only
  generalize s.updSlot i _ = t at ht
  (repeat' split)
  · exact ht.enterDisabled
  · have hu := ht.updSlot_kept (fun r => { r with debounce := t.timer t.chassis.debounce }) rfl rfl
    exact hu.enter .debounce (hu.own.enter rfl)
  · exact ht.enter .empty (ht.own.enter rfl)

theorem enterFault (h : s.Life i View.Idle) : (s.enterFault i).Life i View.Lawful := by
  have ht := h.updSlot_kept (fun r =>
    { r with
      retry := if r.faultCause.retryable && r.retryCount < (s.policy i).retryLimit
        then s.timer (s.policy i).retryInterval else none }) rfl rfl
  exact ht.enter .fault (ht.own.enter rfl)

theorem takeNext (h : s.Life i View.Idle) {n : DrainNext} (hn : n ≠ .none) : (s.takeNext i n).Life i View.Lawful := by
  unfold State.takeNext
  cases n with
  | none => exact absurd rfl hn
  | empty => exact h.enterEmpty
  | present => exact h.enter .present (h.own.enter rfl)
  | powerWait => exact h.powerRequest
  | fault => exact h.enterFault
  | disabled =>
    dsimp only
    split
    · exact h.enterDisabled
    · exact h.clearBlade_idle.enterEmpty

/-! ### The end of a drain -/

theorem releaseGrant (h : s.Life i View.Lawful) (hst : (s.view i).state = .draining) :
    (s.releaseGrant i).Life i fun w => w.drainNext = (s.view i).drainNext ∧ View.Idle { w with drainNext := .none } := by
  have hb : (s.view i).boot = false := h.own.toSound.boot_false (by simp [hst])
  have hu : (s.view i).upgrade = false := h.own.toSound.upgrade_false (by simp [hst])
  have hm : (s.view i).mode = .closed := by
    cases hm : (s.view i).mode with
    | closed => rfl
    | window => simpa [hst] using h.own.window.1 hm
    | refresh => simpa [hst] using h.own.refresh hm
  have hg : (s.updGrant i fun g =>
      { g with grant := 0, target := 0, releasing := false, budgetCapped := false }).Life i fun w =>
        w = { s.view i with grant := 0, target := 0, releasing := false } := h.updGrant _ rfl
  have hl := hg.liftThermalCap (R := fun w => w = { s.view i with
    grant := 0, target := 0, releasing := false, thermalCap := false }) (by rw [hg.own])
  have hr := hl.remark i
  refine State.Life.arbiter_inert (State.Life.mono hr fun e => ?_) (by rw [hr.own]; exact ⟨hb, hu⟩)
  rw [e]
  exact ⟨rfl, rfl, rfl, rfl, rfl, hb, hu, hm⟩

theorem drainComplete (h : s.Life i View.Lawful) : (s.drainComplete i).Life i View.Lawful := by
  unfold State.drainComplete
  split
  · next hst =>
    have hr := h.releaseGrant hst
    obtain ⟨hn, hidle⟩ := hr.own
    have hne : ((s.releaseGrant i).slot i).drainNext ≠ .none := fun e =>
      h.own.drainNext.2 hst (hn.symm.trans e)
    exact (hr.updSlot (fun r => { r with drainNext := .none }) hidle).takeNext hne
  · exact h

/-! ### Removal, disabling, the interlock -/

theorem redirect (h : s.Life i View.Sound) (hst : (s.slot i).state = .draining) (f : Slot → Slot)
    (hf : (f (s.slot i)).state = (s.slot i).state) (hn : (f (s.slot i)).drainNext ≠ .none) :
    (s.updSlot i f).Life i View.Lawful :=
  h.updSlot f (by rw [hf, hst]; exact h.own.redirect hst hn)

theorem removeBlade (h : s.Life i View.Lawful) : (s.removeBlade i).Life i View.Lawful := by
  have hsound : s.Life i View.Sound := h.mono fun hv => hv.toSound
  have hpower : (s.clearBlade i).Life i fun w => w = { s.view i with power := none } := h.clearBlade rfl
  have hstate : ((s.clearBlade i).slot i).state = (s.slot i).state := by
    rw [← State.view_state, hpower.own]
    rfl
  have ht := hsound.clearBlade_sound
  unfold State.removeBlade
  dsimp only
  generalize s.clearBlade i = t at hstate ht
  have hrest : (s.slot i).state.rests = true → ((t.updSlot i Slot.stopTimers).enterEmpty i).Life i View.Lawful :=
    fun e => ((ht.mono fun hv => hv.idle (by rw [State.view_state, hstate]; exact e)).updSlot_kept _ rfl rfl).enterEmpty
  have hdrain : (s.slot i).state.drainable = true → (t.startDrain i .removed .empty .none).Life i View.Lawful :=
    fun e => (ht.mono fun hv => hv.drainable (by rw [State.view_state, hstate]; exact e)).startDrain
      (by rw [hstate]; exact e) .none (by simp) (by simp)
  cases hst : (s.slot i).state with
  | empty | debounce | disabled => exact h
  | present | heldPower | fault => exact hrest (by rw [hst]; rfl)
  | powerWait => exact (ht.withdraw_boot (by rw [hstate, hst])).enterEmpty
  | ramping | resetHold | announcing | heldOnline | online => exact hdrain (by rw [hst]; rfl)
  | draining => exact ht.redirect (by rw [hstate, hst]) _ rfl (by simp [Slot.redirectRemoved])

theorem applyDisable (h : s.Life i View.Lawful) : (s.applyDisable i).Life i View.Lawful := by
  have hsound : s.Life i View.Sound := h.mono fun hv => hv.toSound
  have hrest : (s.slot i).state.rests = true → ((s.updSlot i Slot.stopTimers).enterDisabled i).Life i View.Lawful :=
    fun e => ((hsound.mono fun hv => hv.idle e).updSlot_kept _ rfl rfl).enterDisabled
  unfold State.applyDisable
  cases hst : (s.slot i).state with
  | disabled => exact h
  | draining =>
    refine hsound.redirect hst _ ?_ ?_
    all_goals unfold Slot.redirectAdmin; split
    all_goals simp_all
  | ramping | resetHold | announcing | heldOnline | online => exact h.startDrain_lawful _ (by simp) (by simp)
  | empty | debounce | present | heldPower | fault => exact hrest (by rw [hst]; rfl)
  | powerWait =>
    exact ((hsound.updSlot_kept Slot.stopTimers rfl rfl).withdraw_boot (by simpa [Slot.stopTimers] using hst)).enterDisabled

theorem applyEnable (h : s.Life i View.Lawful) : (s.applyEnable i).Life i View.Lawful := by
  unfold State.applyEnable
  split
  · next hst =>
    simp only [Bool.and_eq_true, decide_eq_true_eq] at hst
    exact (h.mono fun hv => hv.toSound.idle (by rw [State.view_state, hst.1]; rfl)).enterEmpty
  · exact h

theorem emergency (h : s.Life i View.Lawful) : (s.emergency i).Life i View.Lawful := by
  unfold State.emergency
  split
  · next hst =>
    have hn : (s.slot i).drainNext ≠ .none := h.own.drainNext.2 hst
    refine (h.mono fun hv => hv.toSound).redirect hst _ ?_ ?_
    all_goals unfold Slot.redirectEmergency; split
    all_goals simp_all
  · exact h.startDrain_lawful _ (by simp) (by simp)

theorem thermalShed (h : s.Life i View.Lawful) : (s.thermalShed i).Life i View.Lawful := by
  unfold State.thermalShed
  split
  · exact h.startDrain_lawful _ (by simp) (by simp)
  · exact h

/-! ### Reports of the Rail Unit -/

theorem takeReports (h : s.Life i View.Lawful) (l : List RailReport) : (s.takeReports i l).Life i View.Lawful := by
  obtain ⟨hself, hne⟩ := State.takeReports_view l s i
  have hset := s.takeReports_settings i l
  exact h.own_change hne (h.own.climbs hself)
    (State.oneEntryEach_of_sublist (by rw [State.takeReports_powerQueue])) (State.policies_of_settings hset)
    (State.writeJob_of_settings hset)

theorem climb (h : s.Life i View.Lawful) (l : List RailReport) : (s.climb i l).Life i View.Lawful := by
  unfold State.climb
  dsimp only
  split
  · exact h.takeReports l
  · exact (h.takeReports l).raise _

theorem handleReport (h : s.Life i View.Lawful) (r : RailReport) : (s.handleReport i r).Life i View.Lawful := by
  have hdrain : ∀ c, (s.startDrain i .fault .fault c).Life i View.Lawful := fun c =>
    h.startDrain_lawful c (by simp) (by simp)
  unfold State.handleReport
  (repeat' split)
  exacts [h, h, hdrain _, h, hdrain _, h, h.drainComplete]

theorem railStep (h : s.Life i View.Lawful) (r : Rail × List RailReport) : (s.railStep i r).Life i View.Lawful := by
  have ht := h.setRail i r.1
  unfold State.railStep
  dsimp only
  split
  exacts [ht, ht.handleReport _, ht.handleReport _, ht.handleReport _, ht.climb _, ht.climb _]

end

end State.Life

end Sys2Proof.Machine

/-! ### Targets, announcements, the passes of a recomputation (O57) -/

namespace Sys2Proof.Machine

/-- The declared power of a record read from an announcement is 1 to 1000. -/
theorem readRecord_power {l : List Byte} {r : Announced} (h : readRecord l = some r) : 1 ≤ r.power ∧ r.power ≤ 1000 := by
  unfold readRecord at h
  obtain ⟨-, h⟩ := Option.ite_none_left_eq_some.1 h
  obtain ⟨hp, h⟩ := Option.ite_none_left_eq_some.1 h
  obtain ⟨⟨_, _⟩, -, h⟩ := Option.bind_eq_some_iff.1 h
  obtain ⟨⟨_, _⟩, -, h⟩ := Option.bind_eq_some_iff.1 h
  obtain ⟨⟨_, _⟩, -, h⟩ := Option.bind_eq_some_iff.1 h
  obtain ⟨-, h⟩ := Option.ite_none_left_eq_some.1 h
  obtain ⟨-, h⟩ := Option.ite_none_left_eq_some.1 h
  obtain ⟨⟨_, _⟩, -, h⟩ := Option.bind_eq_some_iff.1 h
  obtain ⟨-, h⟩ := Option.ite_none_left_eq_some.1 h
  obtain ⟨⟨_, _⟩, -, h⟩ := Option.bind_eq_some_iff.1 h
  obtain ⟨-, h⟩ := Option.ite_none_left_eq_some.1 h
  cases h
  simpa [Nat.one_le_iff_ne_zero] using hp

namespace State.Life

section

variable {s t : State} {i : SlotId} {Q R : View → Prop}

/-! ### Entry to ONLINE -/

theorem enterOnline (h : s.Life i Q) (hR : View.Lawful { s.view i with state := .online }) :
    (s.enterOnline i).Life i View.Lawful := by
  have ht := (h.updSlot (R := fun w => w = s.view i)
    (fun r => { r with hold := none, retryCount := 0, faultCause := .none }) rfl).enter_of .online hR
  exact ht.setTest View.stable_lawful _

theorem releaseHeld (h : s.Life i View.Lawful) : (s.releaseHeld i).Life i View.Lawful := by
  have ht := h.updSlot_kept Slot.stopHold rfl rfl
  have hst : ((s.updSlot i Slot.stopHold).view i).state = (s.slot i).state := by simp [State.updSlot_view, Slot.stopHold]
  unfold State.releaseHeld
  split
  · next hp => exact (ht.mono fun hv => hv.toSound.idle (by rw [hst, hp]; rfl)).powerRequest
  · split
    · next ho => exact ht.enterOnline (ht.own.online_of_held (hst.trans ho) _ (.inr rfl))
    · exact h

/-! ### Targets -/

/-- An acceptance from a window makes the declared power the target, and the slot waits but for its move. -/
theorem acceptTarget {power : Nat} (h : s.Life i fun v => v.Sound ∧ v.state = .announcing ∧ v.power = some power)
    (hp : 1 ≤ power ∧ power ≤ 1000) : (s.acceptTarget i power).Life i (View.Accepted .window) := by
  obtain ⟨hsound, hst, hpower⟩ := h.own
  have hb : (s.view i).boot = false := hsound.boot_false (by simp [hst])
  have hu : (s.view i).upgrade = false := hsound.upgrade_false (by simp [hst])
  have hr : (s.view i).releasing = false := Bool.eq_false_iff.2 fun e => by simpa [hst] using hsound.releasing.1 e
  have hn : (s.view i).drainNext = .none := not_not.1 fun e => by simpa [hst] using hsound.drainNext.1 e
  have hm : (s.view i).mode = .window := hsound.window.2 hst
  have hg1 := (hsound.powered (by rw [hst]; rfl)).1
  have hl : (s.liftThermalCap i).Life i fun w => w = { s.view i with thermalCap := false } := h.liftThermalCap rfl
  have ht : ((s.liftThermalCap i).updGrant i fun g => { g with target := power }).Life i fun w =>
      w = { s.view i with thermalCap := false, target := power } :=
    hl.updGrant_of _ fun g e1 _ e3 e4 => by simp [e1, e3, e4]
  have hgrant : (s.grantOf i).grant = (s.view i).grant := rfl
  unfold State.acceptTarget
  dsimp only
  rw [hgrant]
  split
  · next hle =>
    have hu' := ht.updGrant_of (R := View.Accepted .window) (fun r => { r with grant := power, budgetCapped := false })
      fun g _ e2 e3 e4 => by
        simp only [e2, e3, e4]
        refine ⟨hst, hm, ⟨⟨?_, ?_, ?_, ?_, ?_, ?_, ?_, ?_⟩, ?_⟩⟩ <;> simp_all [SlotState.powered]
    refine State.Life.remark ?_ i
    split
    · exact hu'.arbiter fun _ _ hv hs => hv.serves1 hs
    · exact hu'
  · next hlt =>
    refine State.Life.remark (State.Life.arbiter ?_ fun _ _ hv hs => hv.serves1 hs) i
    refine ht.enqueue .upgrade (by rw [ht.own]; exact hb) (by rw [ht.own]; exact hu) ?_
    rw [ht.own]
    refine ⟨hst, hm, ⟨⟨?_, ?_, ?_, ?_, ?_, ?_, ?_, ?_⟩, ?_⟩⟩
    all_goals simp_all [SlotState.powered]
    omega

theorem arbiter_at {st : SlotState} (hst : st ≠ .powerWait) (h : s.Life i fun v => v.Lawful ∧ v.state = st) :
    s.arbiter.Life i fun v => v.Lawful ∧ v.state = st :=
  h.arbiter fun v w hv hs => (View.stable_lawfulAt hst).shifts v w hv (.serve hs)

theorem lowerTarget {power target : Nat} (h : s.Life i (View.Refreshing power target)) (hp : 1 ≤ power)
    (hlt : power < target) : (s.lowerTarget i power).Life i fun v => v.Lawful ∧ v.state = .online := by
  obtain ⟨hsound, hst, hpower, rfl⟩ := h.own
  obtain ⟨h1, h2, h3, h4, h5, h6, h7, h8⟩ := hsound
  have hbounds := h2 (by rw [hst]; rfl)
  have hmost : power ≤ 1000 := by omega
  have hgrant : (s.grantOf i).grant = (s.view i).grant := rfl
  have hentry : s.hasEntry i .upgrade = (s.view i).upgrade := rfl
  have ht : (s.updGrant i fun r => { r with target := power, grant := min (s.view i).grant power }).Life i fun w =>
      w = { s.view i with target := power, grant := min (s.view i).grant power } := h.updGrant _ rfl
  unfold State.lowerTarget
  dsimp only
  rw [hgrant, hentry]
  refine State.Life.remark ?_ i
  have hu : State.Life (if power ≤ (s.view i).grant then
      ((s.updGrant i fun r => { r with target := power, grant := min (s.view i).grant power }).updGrant i fun r =>
        { r with budgetCapped := false }).dequeue i .upgrade
      else s.updGrant i fun r => { r with target := power, grant := min (s.view i).grant power }) i
      fun v => v.Lawful ∧ v.state = .online := by
    split
    · next hle =>
      have hb := ht.updGrant_of (R := fun w => w = { s.view i with target := power, grant := min (s.view i).grant power })
        (fun r => { r with budgetCapped := false }) fun g e1 e2 e3 e4 => by simp [e1, e2, e3, e4]
      refine hb.dequeue .upgrade ?_
      rw [hb.own]
      refine ⟨⟨⟨?_, ?_, ?_, ?_, ?_, ?_, ?_, ?_⟩, ?_⟩, hst⟩ <;> simp_all [SlotState.powered]
    · next hgt =>
      refine ht.mono fun e => ?_
      rw [e]
      refine ⟨⟨⟨?_, ?_, ?_, ?_, ?_, ?_, ?_, ?_⟩, ?_⟩, hst⟩
      all_goals simp_all [SlotState.powered]
      all_goals omega
  split
  · exact hu.arbiter_at (by simp)
  · exact hu

theorem raiseTarget {power target : Nat} (h : s.Life i (View.Refreshing power target)) (hp : power ≤ 1000)
    (hlt : target < power) : (s.raiseTarget i power).Life i fun v => v.Lawful ∧ v.state = .online := by
  obtain ⟨hsound, hst, hpower, rfl⟩ := h.own
  obtain ⟨h1, h2, h3, h4, h5, h6, h7, h8⟩ := hsound
  have hbounds := h2 (by rw [hst]; rfl)
  have hb : (s.view i).boot = false := Bool.eq_false_iff.2 fun e => by simpa [hst] using h5.1 e
  have hr : (s.view i).releasing = false := Bool.eq_false_iff.2 fun e => by simpa [hst] using h3.1 e
  have hentry : s.hasEntry i .upgrade = (s.view i).upgrade := rfl
  have hcap : (s.grantOf i).thermalCap = (s.view i).thermalCap := rfl
  have ht : (s.updGrant i fun r => { r with target := power }).Life i fun w => w = { s.view i with target := power } :=
    h.updGrant _ rfl
  unfold State.raiseTarget
  dsimp only
  rw [hentry, hcap]
  refine State.Life.remark ?_ i
  split
  · next hc =>
    simp only [Bool.and_eq_true, Bool.not_eq_true'] at hc
    refine State.Life.arbiter_at (st := .online) (by simp) (ht.enqueue .upgrade ?_ ?_ ?_)
    all_goals rw [ht.own]
    · exact hb
    · exact hc.2
    · refine ⟨⟨⟨?_, ?_, ?_, ?_, ?_, ?_, ?_, ?_⟩, ?_⟩, hst⟩
      all_goals simp_all [SlotState.powered]
      all_goals omega
  · next hc =>
    refine ht.mono fun e => ?_
    rw [e]
    refine ⟨⟨⟨?_, ?_, ?_, ?_, ?_, ?_, ?_, ?_⟩, ?_⟩, hst⟩
    case refine_6 =>
      cases hu : (s.view i).upgrade <;> simp_all
      omega
    all_goals simp_all [SlotState.powered]
    all_goals omega

/-! ### Failures and acceptances -/

theorem updContext_closed (h : s.Life i View.Lawful) (hst : (s.view i).state ≠ .announcing) :
    (s.closeContext i).Life i View.Lawful := by
  refine h.updContext _ ?_
  obtain ⟨⟨h1, h2, h3, h4, h5, h6, h7, h8⟩, h9⟩ := h.own
  exact ⟨⟨h1, h2, h3, h4, h5, h6, by simpa [contextClosed] using hst, by simp [contextClosed]⟩, h9⟩

theorem sendReply (h : s.Life i Q) (l : List Byte) : (s.sendReply i l).Life i Q := h.transmit _ _ _

theorem failContext (h : s.Life i View.Lawful) (r : RefuseReason) (c : FaultCause) :
    (s.failContext i r c).Life i View.Lawful := by
  have hsend := h.transmit (slotPort i) .announceReply
    (s.serviceFrame (s.context i).replyDst kindAnnounceReply (s.context i).replySeq (refusePayload r))
  have hview : (s.sendReply i (refusePayload r)).view i = s.view i := by simp [State.sendReply]
  have hc : ((s.sendReply i (refusePayload r)).closeContext i).Life i fun w => w = { s.view i with mode := .closed } :=
    State.Life.closeContext (hsend.mono fun _ => hview)
  have hmode : (s.context i).mode = (s.view i).mode := rfl
  unfold State.failContext
  dsimp only
  rw [hmode]
  cases hm : (s.view i).mode with
  | closed => exact h
  | window =>
    have hst := h.own.window.1 hm
    have hslot : (((s.sendReply i (refusePayload r)).closeContext i).slot i).state = .announcing := by
      rw [← State.view_state, hc.own]
      exact hst
    dsimp only
    rw [if_pos hslot]
    refine State.Life.startDrain (hc.mono fun e => ?_) (by rw [hslot]; rfl) c (by simp) (by simp)
    rw [e]
    exact ⟨h.own.powered (by rw [hst]; rfl), h.own.toSound.boot_false (by simp [hst]), by simp, by simp⟩
  | refresh =>
    exact (State.Life.updContext_closed hsend (by
      rw [State.transmit_view, h.own.refresh hm]
      simp)).raise _

theorem handOff_window {power : Nat} (old : Option InvRecord)
    (h : s.Life i fun v => v.Sound ∧ v.state = .announcing ∧ v.power = some power) (hp : 1 ≤ power ∧ power ≤ 1000) :
    (s.handOffPower i .window old power).Life i (View.Accepted .window) := h.acceptTarget hp

theorem handOff_refresh {power target : Nat} {old : Option InvRecord} (hold : old.map InvRecord.power = some target)
    (h : s.Life i (View.Refreshing power target)) (hp : 1 ≤ power ∧ power ≤ 1000) :
    (s.handOffPower i .refresh old power).Life i fun v => v.Lawful ∧ v.state = .online := by
  unfold State.handOffPower
  dsimp only
  rw [hold]
  split
  · next e =>
    obtain rfl : target = power := by simpa using e
    refine h.mono fun ⟨hv, hst, hp, ht⟩ => ⟨⟨hv, fun _ => ?_⟩, hst⟩
    rw [hp, ht]
  · next e =>
    have ht : (s.grantOf i).target = target := h.own.2.2.2
    have hne : target ≠ power := by simpa using e
    unfold State.refreshTarget
    rw [ht]
    split
    · next hlt => exact h.lowerTarget hp.1 hlt
    · next hge => exact h.raiseTarget hp.2 (by omega)

theorem reportAccepted_window (h : s.Life i (View.Accepted .closed)) : (s.reportAccepted i .window).Life i View.Lawful := by
  obtain ⟨hst, hm, hl⟩ := h.own
  have hr := h.raise (.accepted i)
  have hview : (s.raise (.accepted i)).view i = s.view i := s.raise_view i _
  have hslot : ((s.raise (.accepted i)).slot i).state = .announcing := by rw [← State.view_state, hview, hst]
  have hheld : View.Lawful { s.view i with state := .heldOnline } := by rw [← hm] at hl; exact hl
  unfold State.reportAccepted
  dsimp only
  rw [if_pos hslot]
  split
  · exact hr.enterHeld .heldOnline (by rw [hview]; exact hheld)
  · exact hr.enterOnline (by rw [hview]; exact hheld.online_of_held rfl .online (.inr rfl))

theorem acceptRecord {r : Announced} (h : s.Life i View.Lawful) (hp : 1 ≤ r.power ∧ r.power ≤ 1000)
    (hopen : (s.context i).mode ≠ .closed) : (s.acceptRecord i r).Life i View.Lawful := by
  have hown := h.own
  have hsound : ∀ p, View.Sound { s.view i with power := p } := fun p => by
    obtain ⟨h1, h2, h3, h4, h5, h6, h7, h8⟩ := hown.toSound
    exact ⟨h1, h2, h3, h4, h5, h6, h7, h8⟩
  have hmode : (s.view i).mode = (s.context i).mode := rfl
  unfold State.acceptRecord
  dsimp only
  generalize hg : nextGeneration (s.inv i).generation = g
  generalize r.sensors.map SensorLimits.repair = sensors
  have h1 : (s.updInv i fun _ => ⟨some (r.stored g sensors), g⟩).Life i fun w =>
      w = { s.view i with power := some r.power } := h.updInv _ rfl
  have h2 := h1.updateStations r.addrs
  generalize (s.updInv i fun _ => ⟨some (r.stored g sensors), g⟩).updateStations i r.addrs = t at h2
  cases hm : (s.context i).mode with
  | closed => exact absurd hm hopen
  | window =>
    have hst : (s.view i).state = .announcing := hown.window.1 hm
    have hne : (t.slot i).state ≠ .online := by
      rw [← State.view_state, h2.own]
      simp [hst]
    have h3 : (t.rebuildThermal i sensors).Life i fun v =>
        v.Sound ∧ v.state = .announcing ∧ v.power = some r.power := by
      unfold State.rebuildThermal
      dsimp only
      rw [State.updThermal_slot, if_neg hne]
      refine (h2.updThermal i _).mono fun e => ?_
      rw [e]
      exact ⟨hsound _, hst, rfl⟩
    have h4 := h3.handOff_window (s.inv i).record hp
    have h5 := h4.sendReply (acceptPayload g (sensors ≠ r.sensors))
    obtain ⟨ha, -, hl⟩ := h5.own
    exact State.Life.reportAccepted_window (h5.updContext _ ⟨ha, rfl, hl⟩)
  | refresh =>
    have hst : (s.view i).state = .online := hown.refresh hm
    have h3 : (t.rebuildThermal i sensors).Life i (View.Refreshing r.power (s.view i).target) := by
      refine State.Life.rebuildThermal (h2.mono fun e => ?_) (View.stable_refreshing _ _) _
      rw [e]
      exact ⟨hsound _, hst, rfl, rfl⟩
    have h4 := h3.handOff_refresh (hown.power (.inr hst)) hp
    have h5 := h4.sendReply (acceptPayload g (sensors ≠ r.sensors))
    refine State.Life.raise ((h5.mono fun hv => hv.1).updContext_closed ?_) _
    rw [h5.own.2]
    simp

end

end State.Life

end Sys2Proof.Machine

/-! ### Fragments, the passes, writes, commands (O57) -/

namespace Sys2Proof.Machine

/-- A lawful view with an open context. -/
def View.Open (v : View) : Prop := v.Lawful ∧ v.mode ≠ .closed

theorem View.drained_same {v : View} (hr : v.releasing = true) (hb : v.boot = false) (hu : v.upgrade = false) :
    { v with releasing := true, boot := false, upgrade := false } = v := by
  cases v
  simp_all

/-- A grant cut short of its target. -/
theorem View.Lawful.cut {v : View} (h : v.Lawful) {c : Nat} (h1 : 1 ≤ c) (hlt : c < v.grant) :
    View.Lawful { v with
      grant := c, upgrade := v.upgrade || ((v.state = .heldOnline || v.state = .online) && !v.thermalCap) } := by
  obtain ⟨⟨hun, hpow, hrel, hn, hb, hu, hw, hr⟩, hp⟩ := h
  have hs : v.state.powered = true := by
    by_contra e
    have := (hun (by simpa using e)).1
    omega
  have hg := hpow hs
  refine ⟨⟨fun e => ?_, fun _ => ?_, hrel, hn, hb, ?_, hw, hr⟩, hp⟩
  · rw [hs] at e
    cases e
  · dsimp only
    omega
  · have hct : c < v.target := by omega
    have hidle : v.state = .heldOnline ∨ v.state = .online → v.releasing = false := fun e =>
      Bool.eq_false_iff.2 fun hr => by rcases e with e | e <;> simp [hrel.1 hr] at e
    cases hup : v.upgrade with
    | true => simpa [hup, hct] using (hu.1 hup).imp id fun e => e.2
    | false =>
      simp only [Bool.false_or, Bool.and_eq_true, Bool.or_eq_true, decide_eq_true_eq, Bool.not_eq_true', hct, true_and]
      exact ⟨fun ⟨e, ht⟩ => ⟨e, ht, hidle e⟩, fun ⟨e, ht, _⟩ => ⟨e, ht⟩⟩

namespace State.Life

section

variable {s t : State} {i : SlotId} {Q R : View → Prop}

/-! ### Fragments and deadlines -/

theorem rejectFragment (h : s.Life i View.Lawful) : (s.rejectFragment i).Life i View.Lawful := by
  unfold State.rejectFragment
  split
  · exact (((h.updContext_kept _ rfl).sendReply _)).updContext_kept _ (by split <;> rfl)
  · exact h.failContext _ _

theorem rejectRecord (h : s.Life i View.Lawful) : (s.rejectRecord i).Life i View.Lawful := by
  unfold State.rejectRecord
  split
  · exact (((h.updContext_kept _ rfl).sendReply _)).updContext_kept _ rfl
  · exact h.failContext _ _

theorem checkRecord (h : s.Life i View.Open) : (s.checkRecord i).Life i View.Lawful := by
  have hl : s.Life i View.Lawful := h.mono fun hv => hv.1
  unfold State.checkRecord
  dsimp only
  split
  · cases hr : readRecord (s.context i).assembly with
    | none => exact hl.failContext _ _
    | some r => exact hl.acceptRecord (readRecord_power hr) h.own.2
  · exact hl.rejectRecord

theorem expectedFragment (h : s.Life i View.Open) (l : List Byte) : (s.expectedFragment i l).Life i View.Lawful := by
  have hl : s.Life i View.Lawful := h.mono fun hv => hv.1
  have ht := h.updContext_kept (fun c => c.declare (nat8At l 0) (nat8At l 1)) rfl
  unfold State.expectedFragment
  dsimp only
  generalize s.updContext i _ = t at ht
  have hu : (t.appendFragment i (nat8At l 0) (nat8At l 1) (l.drop 3)).Life i View.Open := ht.updContext_kept _ rfl
  (repeat' split)
  exacts [hu.checkRecord, hu.mono fun hv => hv.1, (ht.mono fun hv => hv.1).rejectFragment, hl.rejectFragment]

theorem takeAnnounce (h : s.Life i View.Lawful) (f : ServiceFrame) : (s.takeAnnounce i f).Life i View.Lawful := by
  unfold State.takeAnnounce
  split
  · exact h
  · next hopen =>
    have ht : (s.noteSender i f).Life i View.Open := (h.mono fun hv => ⟨hv, hopen⟩).updContext_kept _ rfl
    have hl : (s.noteSender i f).Life i View.Lawful := ht.mono fun hv => hv.1
    unfold State.takeFragment
    (repeat' split)
    exacts [ht.expectedFragment _, hl, hl.rejectFragment, hl.rejectFragment]

theorem takeExtend (h : s.Life i View.Lawful) (f : ServiceFrame) : (s.takeExtend i f).Life i View.Lawful := by
  have ht : (s.noteSender i f).Life i View.Lawful := h.updContext_kept _ rfl
  unfold State.takeExtend
  (repeat' split)
  exacts [h, ht.updContext_kept _ rfl, ht]

/-! ### The passes of a recomputation -/

theorem capSlot (h : s.Life i View.Lawful) (hlt : s.capLevel i < (s.grantOf i).grant) :
    (s.capSlot i).Life i View.Lawful := by
  have hlevel : s.capLevel i = min (s.policy i).capFloor (s.view i).target := rfl
  have hgrant : (s.grantOf i).grant = (s.view i).grant := rfl
  rw [hgrant] at hlt
  have hbounds := h.own.powered (by
    by_contra e
    have := (h.own.unpowered (by simpa using e)).1
    omega)
  have hfloor := (h.policies i).2.2
  have hcut := h.own.cut (c := s.capLevel i) (by omega) hlt
  have ht : (s.updGrant i fun g => { g with grant := s.capLevel i, budgetCapped := true }).Life i fun w =>
      w = { s.view i with grant := s.capLevel i } := h.updGrant _ rfl
  unfold State.capSlot
  dsimp only
  refine State.Life.remark ?_ i
  generalize s.updGrant i _ = t at ht
  have hst : (t.slot i).state = (s.view i).state := by rw [← State.view_state, ht.own]
  have hcap : (t.grantOf i).thermalCap = (s.view i).thermalCap := by rw [← State.view_thermalCap, ht.own]
  have hup : t.hasEntry i .upgrade = (s.view i).upgrade := by rw [← State.view_upgrade, ht.own]
  simp only [State.mayUpgrade, hst, hcap, hup]
  split
  · next hc =>
    simp only [Bool.and_eq_true, Bool.not_eq_true'] at hc
    obtain ⟨⟨hm, hcf⟩, hno⟩ := hc
    have hb : (s.view i).boot = false := h.own.toSound.boot_false fun e => by simp [e] at hm
    refine ht.enqueue .upgrade (by rw [ht.own]; exact hb) (by rw [ht.own]; exact hno) ?_
    rw [ht.own]
    simpa [hb, hno, hm, hcf] using hcut
  · next hc =>
    refine ht.mono fun e => ?_
    rw [e]
    cases hup' : (s.view i).upgrade with
    | true => simpa [hup'] using hcut
    | false =>
      have hc' : ((decide ((s.view i).state = .heldOnline) || decide ((s.view i).state = .online)) &&
          !(s.view i).thermalCap) = false := by simpa [hup'] using hc
      rw [hup', hc'] at hcut
      simpa [hup'] using hcut

/-! ### Laws of all slots -/

end

end State.Life

theorem lifecycleLawful_of_life {s t : State} (i : SlotId) (h : s.lifecycleLawful)
    (ht : s.Life i View.Lawful → t.Life i View.Lawful) : t.lifecycleLawful :=
  (t.lifecycleLawful_iff i).2 (ht ((s.lifecycleLawful_iff i).1 h))

theorem cappingPass_lifecycleLawful (l : List SlotId) : ∀ (did : Bool) {s : State}, s.lifecycleLawful →
    (cappingPass l did s).1.lifecycleLawful := by
  induction l with
  | nil => exact fun _ _ h => h
  | cons i l ih =>
    intro did s h
    unfold cappingPass
    split
    · exact h
    · split
      · next hlt => exact ih _ (lifecycleLawful_of_life i h fun hl => hl.capSlot hlt)
      · exact ih _ h

/-- Every entry of the slot leaves the queue. -/
theorem State.Life.dropEntries {s : State} {i : SlotId} {v : View} (h : s.Life i fun w => w = v) :
    State.Life { s with powerQueue := s.powerQueue.filter fun e => e.slot ≠ i } i fun w =>
      w = { v with boot := false, upgrade := false } := by
  have hentry : ∀ j k, State.hasEntry { s with powerQueue := s.powerQueue.filter fun e => e.slot ≠ i } j k =
      (decide (j ≠ i) && s.hasEntry j k) := by
    intro j k
    rw [Bool.eq_iff_iff, Bool.and_eq_true, State.hasEntry_iff, State.hasEntry_iff]
    simp only [List.mem_filter, decide_eq_true_eq]
    constructor
    · rintro ⟨e, ⟨he, hne⟩, rfl, rfl⟩
      exact ⟨hne, e, he, rfl, rfl⟩
    · rintro ⟨hne, e, he, rfl, rfl⟩
      exact ⟨e, ⟨he, hne⟩, rfl, rfl⟩
  obtain rfl := h.own
  refine h.own_change (fun j hj => ?_) ?_ (State.oneEntryEach_of_sublist List.filter_sublist) rfl rfl
  · exact State.view_congr rfl rfl rfl rfl rfl rfl (fun k => by rw [hentry]; simp [hj]) rfl rfl
  · have hb := hentry i .boot
    have hu := hentry i .upgrade
    rw [decide_eq_false (not_not.2 rfl), Bool.false_and] at hb hu
    simp only [State.view, hb, hu]
    rfl

@[simp] theorem State.exitOnline_slot (s : State) (i j : SlotId) : (s.exitOnline i).slot j = s.slot j := by
  unfold State.exitOnline State.thermalExit
  split <;> rfl

theorem State.budgetShed_state (s : State) (i j : SlotId) :
    ((s.budgetShed i).slot j).state =
      if j = i ∧ (s.slot i).state.drainable = true then .draining else (s.slot j).state := by
  unfold State.budgetShed State.startDrain
  split
  · next hd =>
    rw [State.enter, State.raise_slot, State.setSlotState, State.updSlot_slot]
    split
    · next e => simp [e, hd]
    · next e =>
      simp only [e, false_and, if_false, State.drainGrant, if_true, State.setRail, State.updRail_slot, State.closeContext]
      (repeat' split) <;> simp [State.updSlot_slot_ne _ _ e]
  · next hd => rw [if_neg fun hc => hd hc.2]

/-- A shed keeps the law, and every powered slot powered. -/
theorem State.shedSlot_lifecycleLawful {s : State} {i : SlotId} (h : s.lifecycleLawful)
    (hp : (s.slot i).state.powered = true) :
    (s.shedSlot i).lifecycleLawful ∧
      ∀ j, (s.slot j).state.powered = true → ((s.shedSlot i).slot j).state.powered = true := by
  have hstate : ∀ j, ((s.shedSlot i).slot j).state =
      if j = i ∧ (s.slot i).state.drainable = true then .draining else (s.slot j).state := fun j =>
    State.budgetShed_state _ i j
  refine ⟨lifecycleLawful_of_life i h fun hl => ?_, fun j hj => ?_⟩
  · have hg : (s.updGrant i fun g => { g with releasing := true }).Life i fun w =>
        w = { s.view i with releasing := true } := hl.updGrant _ rfl
    have hq := hg.dropEntries
    unfold State.shedSlot State.budgetShed
    dsimp only
    by_cases hd : (s.slot i).state.drainable = true
    · refine State.Life.startDrain (hq.mono fun e => ?_) hd _ (by split <;> simp) fun _ => ?_
      · rw [e]
        exact ⟨hl.own.powered hp, rfl, hl.own.window.1, hl.own.refresh⟩
      · rw [hq.own]
        exact ⟨rfl, rfl⟩
    · have hst : (s.view i).state = .draining := by
        rw [State.view_state]
        cases hs : (s.slot i).state <;> simp_all [SlotState.powered, SlotState.drainable]
      refine State.Life.startDrain_refused (hq.mono fun e => ?_) hd
      have hr : (s.view i).releasing = true := hl.own.releasing.2 hst
      have hb : (s.view i).boot = false := hl.own.toSound.boot_false (by simp [hst])
      have hu : (s.view i).upgrade = false := hl.own.toSound.upgrade_false (by simp [hst])
      rw [e, View.drained_same hr hb hu]
      exact hl.own
  · rw [hstate]
    split
    · rfl
    · exact hj

theorem sheddingPass_lifecycleLawful (l : List SlotId) : ∀ (did : Bool) {s : State}, s.lifecycleLawful →
    (∀ i ∈ l, (s.slot i).state.powered = true) → (sheddingPass l did s).1.lifecycleLawful := by
  induction l with
  | nil => exact fun _ _ h _ => h
  | cons i l ih =>
    intro did s h hl
    unfold sheddingPass
    split
    · exact h
    · obtain ⟨ht, hpow⟩ := State.shedSlot_lifecycleLawful h (hl i List.mem_cons_self)
      exact ih _ ht fun j hj => hpow j (hl j (List.mem_cons_of_mem i hj))

theorem State.passOrder_powered {s : State} (h : s.lifecycleLawful) (i : SlotId) (hi : i ∈ s.passOrder) :
    (s.slot i).state.powered = true := by
  by_contra e
  exact ((s.mem_passOrder i).1 hi).1 ((s.view_lawful h i).unpowered (by rw [State.view_state]; simpa using e)).1

theorem State.raise_lifecycleLawful {s : State} (e : Event) (h : s.lifecycleLawful) : (s.raise e).lifecycleLawful :=
  lifecycleLawful_of_life 0 h fun hl => hl.raise e

theorem State.arbiter_lifecycleLawful {s : State} (h : s.lifecycleLawful) : s.arbiter.lifecycleLawful :=
  lifecycleLawful_of_life 0 h fun hl => hl.arbiter_lawful

theorem State.restoreBalance_lifecycleLawful {s : State} (h : s.lifecycleLawful) :
    s.restoreBalance.1.lifecycleLawful := by
  have hcap : s.runCapping.1.lifecycleLawful := by
    have hpass := cappingPass_lifecycleLawful s.passOrder false h
    unfold State.runCapping
    dsimp only
    split
    · exact State.raise_lifecycleLawful _ hpass
    · exact hpass
  have hshed : ∀ {t : State}, t.lifecycleLawful → t.runShedding.1.lifecycleLawful := by
    intro t ht
    have hpass := sheddingPass_lifecycleLawful t.passOrder false ht (State.passOrder_powered ht)
    unfold State.runShedding
    split
    · exact ht
    · dsimp only
      split
      · exact State.raise_lifecycleLawful _ hpass
      · exact hpass
  unfold State.restoreBalance
  split
  · exact h
  · dsimp only
    exact hshed hcap

theorem State.recapacity_lifecycleLawful {s : State} (c : Nat) (h : s.lifecycleLawful) :
    (s.recapacity c).lifecycleLawful := by
  have hr := State.restoreBalance_lifecycleLawful (State.raise_lifecycleLawful .capacityChange h)
  unfold State.recapacity
  generalize (s.raise .capacityChange).restoreBalance = r at hr
  split
  · exact h
  · dsimp only
    split
    · exact State.arbiter_lifecycleLawful hr
    · exact hr

end Sys2Proof.Machine

/-! ### Events, commands and writes (O57) -/

namespace Sys2Proof.Machine

section

variable {s t : State} {i : SlotId}

/-- The law reads but these records. -/
theorem State.lifecycleLawful_congr (hslots : t.slots = s.slots) (hgrants : t.grants = s.grants)
    (hinv : t.inventory = s.inventory) (hctx : t.contexts = s.contexts) (hqueue : t.powerQueue = s.powerQueue)
    (hpol : t.policies = s.policies) (hjob : t.writeJob = s.writeJob) (h : s.lifecycleLawful) : t.lifecycleLawful := by
  have hview : ∀ j, t.view j = s.view j := fun j =>
    State.view_congr (by rw [State.slot, hslots]; rfl) (by rw [State.slot, hslots]; rfl)
      (by rw [State.grantOf, hgrants]; rfl) (by rw [State.grantOf, hgrants]; rfl) (by rw [State.grantOf, hgrants]; rfl)
      (by rw [State.grantOf, hgrants]; rfl) (fun k => by rw [State.hasEntry, hqueue]; rfl)
      (by rw [State.inv, hinv]; rfl) (by rw [State.context, hctx]; rfl)
  exact lifecycleLawful_of_life 0 h fun hl =>
    hl.views_kept hview (fun ho => by rw [State.oneEntryEach, hqueue]; exact ho) hpol hjob

/-- A law of every slot through a walk over slots. -/
theorem lifecycleLawful_foldl {α : Type} (f : State → α → State) (l : List α)
    (hf : ∀ s a, s.lifecycleLawful → (f s a).lifecycleLawful) (h : s.lifecycleLawful) : (l.foldl f s).lifecycleLawful :=
  KeptByUnits.foldl (P := fun _ s => State.lifecycleLawful s) (k := .nothing) f l (fun s a _ => hf s a) h

/-! ### The slot's wires and timers -/

namespace State.Life

theorem presenceRise (h : s.Life i View.Lawful) : (s.presenceRise i).Life i View.Lawful := by
  have ht := h.updSlot_kept (fun r => { r with presence := true }) rfl rfl
  unfold State.presenceRise
  dsimp only
  split
  · next hst =>
    have hidle : s.Life i View.Idle := h.mono fun hv => hv.toSound.idle (by rw [State.view_state, hst]; rfl)
    have hu := (hidle.updSlot_kept (fun r => { r with presence := true }) rfl rfl).updSlot_kept
      (fun r => { r with debounce := s.timer s.chassis.debounce }) rfl rfl
    exact hu.enter .debounce (hu.own.enter rfl)
  · exact ht

theorem presenceFall (h : s.Life i View.Lawful) : (s.presenceFall i).Life i View.Lawful := by
  unfold State.presenceFall
  dsimp only
  split
  · next hst =>
    have hidle : s.Life i View.Idle := h.mono fun hv => hv.toSound.idle (by rw [State.view_state, hst]; rfl)
    exact ((hidle.updSlot_kept (fun r => { r with presence := false }) rfl rfl).updSlot_kept
      (fun r => { r with debounce := none }) rfl rfl).enterEmpty
  · exact (h.updSlot_kept (fun r => { r with presence := false }) rfl rfl).removeBlade

theorem debounced (h : s.Life i View.Lawful) (hst : (s.slot i).state = .debounce) :
    (s.debounced i).Life i View.Lawful := by
  have hidle : s.Life i View.Idle := h.mono fun hv => hv.toSound.idle (by rw [State.view_state, hst]; rfl)
  have ht := (hidle.updSlot_kept (fun r => { r with debounce := none }) rfl rfl).updInv_kept i
    (fun v => { v with generation := 0 }) rfl
  unfold State.debounced
  dsimp only
  split
  · exact ht.powerUpPath
  · exact ht.enter .present (ht.own.enter rfl)

theorem holdExpired (h : s.Life i View.Lawful) : (s.holdExpired i).Life i View.Lawful := by
  unfold State.holdExpired
  split
  · exact h.releaseHeld
  · split
    · next hst =>
      have hidle : s.Life i View.Idle := h.mono fun hv => hv.toSound.idle (by rw [State.view_state, hst]; rfl)
      have hu := hidle.updSlot_kept Slot.stopHold rfl rfl
      exact hu.enter .present (hu.own.enter rfl)
    · split
      · exact h.startDrain_lawful _ (by simp) (by simp)
      · exact h

theorem retryExpired (h : s.Life i View.Lawful) (hst : (s.slot i).state = .fault) :
    (s.retryExpired i).Life i View.Lawful := by
  have hidle : s.Life i View.Idle := h.mono fun hv => hv.toSound.idle (by rw [State.view_state, hst]; rfl)
  exact (hidle.updSlot_kept _ rfl rfl).powerUpPath

theorem graceExpired (h : s.Life i View.Lawful) : (s.graceExpired i).Life i View.Lawful := by
  have ht := h.updThermal i fun r => { r with grace := none }
  unfold State.graceExpired
  dsimp only
  split
  · exact ht.thermalShed
  · exact ht

/-! ### Slot commands -/

theorem commandPowerOn (h : s.Life i View.Lawful) : (s.commandPowerOn i).1.Life i View.Lawful := by
  have hidle : (s.slot i).state.rests = true → s.Life i View.Idle := fun e => h.mono fun hv => hv.toSound.idle e
  unfold State.commandPowerOn
  cases hst : (s.slot i).state with
  | present => exact (hidle (by rw [hst]; rfl)).powerUpPath
  | fault => exact ((hidle (by rw [hst]; rfl)).updSlot_kept Slot.clearFault rfl rfl).powerUpPath
  | empty | debounce | heldPower | powerWait | ramping | resetHold | announcing | heldOnline | online | draining
  | disabled => exact h

theorem commandPowerOff (h : s.Life i View.Lawful) : (s.commandPowerOff i).1.Life i View.Lawful := by
  unfold State.commandPowerOff
  cases hst : (s.slot i).state with
  | ramping | resetHold | announcing | heldOnline | online => exact h.startDrain_lawful _ (by simp) (by simp)
  | heldPower =>
    have hu := (h.mono fun hv => hv.toSound.idle (by rw [State.view_state, hst]; rfl)).updSlot_kept Slot.stopHold rfl rfl
    exact hu.enter .present (hu.own.enter rfl)
  | powerWait =>
    have hu := (h.mono fun hv => hv.toSound).withdraw_boot hst
    exact hu.enter .present (hu.own.enter rfl)
  | empty | debounce | present | fault | draining | disabled => exact h

theorem commandRelease (h : s.Life i View.Lawful) : (s.commandRelease i).1.Life i View.Lawful := by
  unfold State.commandRelease
  split
  · exact h.releaseHeld
  · exact h

theorem commandClearFault (h : s.Life i View.Lawful) : (s.commandClearFault i).1.Life i View.Lawful := by
  unfold State.commandClearFault
  split
  · next hst =>
    have hu := (h.mono fun hv => hv.toSound.idle (by rw [State.view_state, hst]; rfl)).updSlot_kept Slot.clearFault rfl rfl
    exact hu.enter .present (hu.own.enter rfl)
  · exact h

theorem commandRefresh (h : s.Life i View.Lawful) : (s.commandRefresh i).1.Life i View.Lawful := by
  unfold State.commandRefresh
  split
  · next hst =>
    split
    · have ht := h.transmit (slotPort i) .query
        (s.serviceFrame ((s.firstInstalled i).getD Config.broadcast) kindQuery (s.inv i).generation [])
      have hst' : (s.view i).state = .online := hst
      refine ht.updContext _ ?_
      rw [State.transmit_view]
      obtain ⟨⟨h1, h2, h3, h4, h5, h6, h7, h8⟩, h9⟩ := h.own
      exact ⟨⟨h1, h2, h3, h4, h5, h6, by simp [hst'], fun _ => hst⟩, h9⟩
    · exact h
    · exact h
  · exact h

/-- The reset of an ONLINE slot: without its UPGRADE entry and its refresh it is as in RESET_HOLD. -/
theorem commandReset (h : s.Life i View.Lawful) : (s.commandReset i).1.Life i View.Lawful := by
  unfold State.commandReset
  split
  · next hst =>
    have hst' : (s.view i).state = .online := hst
    have he : (s.exitOnline i).Life i fun w => w = { s.view i with mode := .closed } :=
      State.Life.exitOnline (h.mono fun _ => rfl) fun e => by simpa [hst'] using h.own.window.1 e
    have hw : ((s.exitOnline i).withdraw i .upgrade).Life i fun w =>
        w = { s.view i with mode := .closed, upgrade := false } := by
      unfold State.withdraw
      split
      · have hd := he.dequeue (R := fun w => w = { s.view i with mode := .closed, upgrade := false }) .upgrade
          (by rw [he.own]; simp)
        exact hd.arbiter_inert (by rw [hd.own]; exact ⟨h.own.toSound.boot_false (by simp [hst']), rfl⟩)
      · next hno =>
        refine he.mono fun e => e.trans ?_
        rw [← State.view_upgrade, he.own] at hno
        have hno' : (s.view i).upgrade = false := by simpa using hno
        rw [← hno']
    unfold State.resetSlot
    dsimp only
    generalize (s.exitOnline i).withdraw i .upgrade = u at hw
    refine State.Life.raise (State.Life.takeReports ((hw.setRail i _).setSlotState .resetHold ?_) _) _
    rw [State.setRail_view, hw.own]
    obtain ⟨⟨h1, h2, h3, h4, h5, h6, h7, h8⟩, h9⟩ := h.own
    refine ⟨⟨?_, ?_, ?_, ?_, ?_, ?_, ?_, ?_⟩, ?_⟩ <;> simp_all [SlotState.powered]
  · exact h

/-! ### Policies -/

theorem actOnAdmin (h : s.Life i View.Lawful) (p : SlotPolicy) : (s.actOnAdmin i p).Life i View.Lawful := by
  unfold State.actOnAdmin
  (repeat' split)
  exacts [h, h.applyEnable, h.applyDisable]

theorem updPolicy (h : s.Life i View.Lawful) (f : SlotPolicy → SlotPolicy) (hf : (f (s.policy i)).powerLawful) :
    (s.updPolicy i f).Life i View.Lawful := by
  refine ⟨h.others, h.own, h.one, fun j => ?_, h.job⟩
  rw [State.updPolicy_policy]
  split
  · exact hf
  · exact h.policies j

end State.Life

theorem foldl_insertEntry_perm {α : Type} (f : α → PowerEntry) (l : List α) : ∀ q : List PowerEntry,
    (l.foldl (fun q e => insertEntry (f e) q) q).Perm (l.map f ++ q) := by
  induction l with
  | nil => exact fun _ => List.Perm.refl _
  | cons a l ih =>
    intro q
    rw [List.foldl_cons, List.map_cons, List.cons_append]
    exact (ih _).trans (((insertEntry_perm _ _).append_left _).trans List.perm_middle)

/-- A moved entry keeps its slot and kind, and the queue its entries. -/
theorem State.movePriority_perm (s : State) (i : SlotId) :
    ((s.movePriority i).powerQueue.map fun e => (e.slot, e.kind)).Perm (s.powerQueue.map fun e => (e.slot, e.kind)) := by
  refine ((foldl_insertEntry_perm _ _ _).map _).trans ?_
  rw [List.map_append, List.map_map]
  have h := (List.filter_append_perm (fun e : PowerEntry => decide (e.slot = i)) s.powerQueue).map
    fun e => (e.slot, e.kind)
  rw [List.map_append] at h
  simpa [Function.comp_def] using h

theorem State.hasEntry_of_perm (h : (t.powerQueue.map fun e => (e.slot, e.kind)).Perm
    (s.powerQueue.map fun e => (e.slot, e.kind))) (j : SlotId) (k : EntryKind) : t.hasEntry j k = s.hasEntry j k := by
  have hmem : ∀ u : State, u.hasEntry j k = true ↔ (j, k) ∈ u.powerQueue.map fun e => (e.slot, e.kind) := fun u => by
    simp [State.hasEntry_iff]
  rw [Bool.eq_iff_iff, hmem, hmem, h.mem_iff]

namespace State.Life

theorem movePriority (h : s.Life i View.Lawful) : (s.movePriority i).Life i View.Lawful := by
  have hp := s.movePriority_perm i
  refine h.views_kept (fun j => State.view_congr rfl rfl rfl rfl rfl rfl (State.hasEntry_of_perm hp j) rfl rfl)
    (fun ho => ?_) rfl rfl
  have hslots := hp.map Prod.fst
  simp only [List.map_map, Function.comp_def] at hslots
  exact hslots.nodup_iff.2 ho

theorem actOnPower (h : s.Life i View.Lawful) (p : SlotPolicy) : (s.actOnPower i p).Life i View.Lawful := by
  unfold State.actOnPower
  dsimp only
  have ht : State.Life (if (s.policy i).priority = p.priority then s else s.movePriority i) i View.Lawful := by
    split
    · exact h
    · exact h.movePriority
  split
  · exact ht
  · exact ht.arbiter_lawful

theorem setPolicy (h : s.Life i View.Lawful) {p : SlotPolicy} (hp : p.powerLawful) :
    (s.setPolicy i p).Life i View.Lawful := ((h.updPolicy _ hp).actOnAdmin _).actOnPower _

end State.Life

end

end Sys2Proof.Machine

/-! ### Settings, frames, requests, the step (O57) -/

namespace Sys2Proof.Machine

section

variable {s t : State} {i : SlotId}

/-! ### The settings' owners -/

namespace State.Life

theorem setRole (h : s.Life slot15 View.Lawful) (r : PortRole) : (s.setRole r).Life slot15 View.Lawful := by
  have hset : ∀ x, State.Life { s with chassis := { s.chassis with roleSetting := x } } slot15 View.Lawful := fun x =>
    h.views_kept (fun _ => rfl) id rfl rfl
  unfold State.setRole
  split
  · exact h
  · split
    · unfold State.setRoleStack State.stackIfDisabled
      split
      · exact (hset _).applyDisable.stackIfDue _
      · exact (hset _).applyDisable
    · unfold State.setRoleSlot
      dsimp only
      split
      · exact State.Life.applyEnable (keptByUplinks.takeSlotRole (k := .nothing) (hset _))
      · exact hset _

end State.Life

theorem State.setRole_lifecycleLawful (r : PortRole) (h : s.lifecycleLawful) : (s.setRole r).lifecycleLawful :=
  lifecycleLawful_of_life slot15 h fun hl => hl.setRole r

theorem State.setStaleLimit_lifecycleLawful (n : Nat) (h : s.lifecycleLawful) : (s.setStaleLimit n).lifecycleLawful := by
  refine lifecycleLawful_foldl _ _ (fun t i ht => ?_) (State.lifecycleLawful_congr rfl rfl rfl rfl rfl rfl rfl h)
  split
  · exact lifecycleLawful_of_life i ht fun hl => hl.clearTest View.stable_lawful
  · exact ht

theorem State.setRedundancy_lifecycleLawful (m : RedundancyMode) (n : Nat) (h : s.lifecycleLawful) :
    (s.setRedundancy m n).lifecycleLawful :=
  State.recapacity_lifecycleLawful _ (State.lifecycleLawful_congr rfl rfl rfl rfl rfl rfl rfl h)

theorem State.setChassis_lifecycleLawful (c : Chassis) (h : s.lifecycleLawful) : (s.setChassis c).lifecycleLawful := by
  have h1 := State.setStaleLimit_lifecycleLawful c.staleLimit (State.setRedundancy_lifecycleLawful c.mode c.overhead h)
  unfold State.setChassis
  generalize (s.setRedundancy c.mode c.overhead).setStaleLimit c.staleLimit = t at h1
  dsimp only
  have h2 : State.lifecycleLawful
      { t with chassis := { t.chassis with staleDemand := c.staleDemand, bootDemand := c.bootDemand } } :=
    State.lifecycleLawful_congr rfl rfl rfl rfl rfl rfl rfl h1
  exact State.lifecycleLawful_congr rfl rfl rfl rfl rfl rfl rfl (State.setRole_lifecycleLawful c.roleSetting h2)

theorem State.setCounted_lifecycleLawful (p : PsuId) (b : Bool) (h : s.lifecycleLawful) :
    (s.setCounted p b).lifecycleLawful :=
  State.recapacity_lifecycleLawful _ (State.raise_lifecycleLawful _
    (State.lifecycleLawful_congr rfl rfl rfl rfl rfl rfl rfl h))

theorem State.psuRise_lifecycleLawful (p : PsuId) (l : PsuLine) (h : s.lifecycleLawful) :
    (s.psuRise p l).lifecycleLawful := by
  have ht : (s.updPsu p (Psu.withLine l true)).lifecycleLawful :=
    State.lifecycleLawful_congr rfl rfl rfl rfl rfl rfl rfl h
  unfold State.psuRise State.startSettle
  dsimp only
  (repeat' split)
  exacts [State.setCounted_lifecycleLawful p true ht, State.lifecycleLawful_congr rfl rfl rfl rfl rfl rfl rfl ht, ht]

theorem State.psuFall_lifecycleLawful (p : PsuId) (l : PsuLine) (h : s.lifecycleLawful) :
    (s.psuFall p l).lifecycleLawful := by
  have ht : (s.updPsu p fun r => { r.withLine l false with settle := none }).lifecycleLawful :=
    State.lifecycleLawful_congr rfl rfl rfl rfl rfl rfl rfl h
  unfold State.psuFall
  dsimp only
  split
  · exact State.setCounted_lifecycleLawful p false ht
  · exact ht

theorem State.interlockOn_lifecycleLawful (h : s.lifecycleLawful) : s.interlockOn.lifecycleLawful :=
  State.raise_lifecycleLawful _ (lifecycleLawful_foldl _ _
    (fun _ i ht => lifecycleLawful_of_life i ht fun hl => hl.emergency)
    (State.lifecycleLawful_congr rfl rfl rfl rfl rfl rfl rfl h))

/-- The changes to uplinks and groups keep the law. -/
theorem keptByUplinks_lifecycleLawful : KeptByUplinks fun _ s => s.lifecycleLawful :=
  .of_ignored (fun _ _ _ _ h => State.lifecycleLawful_congr rfl rfl rfl rfl rfl rfl rfl h)
    (fun e h => State.raise_lifecycleLawful e h)
    fun {_ s} h => by
      rw [State.attemptSend_side]
      exact State.lifecycleLawful_congr (s := s) rfl rfl rfl rfl rfl rfl rfl h

theorem keptByNotices_lifecycleLawful : KeptByNotices fun _ s => s.lifecycleLawful :=
  .of_ignored fun _ _ _ _ _ h => State.lifecycleLawful_congr rfl rfl rfl rfl rfl rfl rfl h

theorem State.attemptSend_lifecycleLawful (h : s.lifecycleLawful) : s.attemptSend.lifecycleLawful :=
  keptByNotices_lifecycleLawful.attemptSend (k := .nothing) h

theorem State.setRates_lifecycleLawful (i : SlotId) (a b : RateCode) (h : s.lifecycleLawful) :
    (s.setRates i a b).lifecycleLawful := State.lifecycleLawful_congr rfl rfl rfl rfl rfl rfl rfl h

theorem State.setCapacity_lifecycleLawful (p : PsuId) (w : Nat) (h : s.lifecycleLawful) :
    (s.setCapacity p w).lifecycleLawful :=
  State.recapacity_lifecycleLawful _ (State.lifecycleLawful_congr (s := s) rfl rfl rfl rfl rfl rfl rfl h)

theorem State.updFan_recapacity_lifecycleLawful (f : FanId) (g : Fan → Fan) (h : s.lifecycleLawful) :
    ((s.updFan f g).recapacity s.cAvail).lifecycleLawful :=
  State.recapacity_lifecycleLawful _ (State.lifecycleLawful_congr (s := s) rfl rfl rfl rfl rfl rfl rfl h)

theorem State.setMap_lifecycleLawful (i : SlotId) (m : UplinkMap) (h : s.lifecycleLawful) :
    (s.setMap i m).lifecycleLawful := by
  have h1 : (s.updMap i fun r => { r with group := m.group, tag := m.tag }).lifecycleLawful :=
    State.lifecycleLawful_congr rfl rfl rfl rfl rfl rfl rfl h
  exact State.lifecycleLawful_congr rfl rfl rfl rfl rfl rfl rfl (State.setRates_lifecycleLawful i m.rate m.capRate h1)

theorem State.applyItem_lifecycleLawful {n : Nat} {x : Item} (hx : ∀ p, x = .slotPolicy p → p.powerLawful)
    (h : s.lifecycleLawful) : (s.applyItem n x).lifecycleLawful := by
  cases x with
  | classify e => exact State.lifecycleLawful_congr rfl rfl rfl rfl rfl rfl rfl h
  | uplinkMap m => exact State.setMap_lifecycleLawful _ m h
  | group m l =>
    exact keptByUplinks_lifecycleLawful.setMembers (k := .nothing) _ l
      (keptByUplinks_lifecycleLawful.groupMode (k := .nothing) _ m h)
  | slotPolicy p => exact lifecycleLawful_of_life _ h fun hl => hl.setPolicy (hx p rfl)
  | psu c => exact State.setCapacity_lifecycleLawful _ c h
  | fan a b c d => exact State.updFan_recapacity_lifecycleLawful _ _ h
  | zone a b c d => exact State.lifecycleLawful_congr rfl rfl rfl rfl rfl rfl rfl h
  | chassis c => exact State.setChassis_lifecycleLawful c h
  | identity r => exact State.lifecycleLawful_congr rfl rfl rfl rfl rfl rfl rfl h
  | noticeCfg c => exact keptByNotices_lifecycleLawful.setNoticeCfg (k := .nothing) c h

/-! ### Requests -/

theorem State.lifecycleLawful_writeJob (j : Option WriteJob) (hj : State.jobLawful { s with writeJob := j })
    (h : s.lifecycleLawful) : State.lifecycleLawful { s with writeJob := j } := by
  obtain ⟨h1, h2, h3, -⟩ := h
  exact ⟨h1, h2, h3, hj⟩

theorem keptByRequests_lifecycleLawful : KeptByRequests fun _ s => s.lifecycleLawful :=
  .of_ignored (fun p c l h => keptByNotices_lifecycleLawful.transmit (k := .nothing) p c l h)
    (fun _ h => State.lifecycleLawful_congr rfl rfl rfl rfl rfl rfl rfl h)
    fun h => State.lifecycleLawful_writeJob none (by intro _ _ _ e; cases e) h

theorem capFloorTied_pos (boot floor : Nat) : 1 ≤ capFloorTied boot floor := by
  unfold capFloorTied clamp
  omega

theorem clamp_bounds {lo hi n : Nat} (h : lo ≤ hi) : lo ≤ clamp lo hi n ∧ clamp lo hi n ≤ hi := by
  unfold clamp
  omega

theorem readPolicy_lawful {l : List Byte} {p : SlotPolicy} (h : readPolicy l = some p) : p.powerLawful := by
  unfold readPolicy at h
  obtain ⟨_, -, h⟩ := Option.bind_eq_some_iff.1 h
  obtain ⟨_, -, h⟩ := Option.bind_eq_some_iff.1 h
  obtain ⟨_, -, h⟩ := Option.bind_eq_some_iff.1 h
  obtain ⟨_, -, h⟩ := Option.bind_eq_some_iff.1 h
  obtain ⟨_, -, h⟩ := Option.bind_eq_some_iff.1 h
  obtain ⟨_, -, h⟩ := Option.bind_eq_some_iff.1 h
  cases h
  exact ⟨(clamp_bounds (by decide)).1, (clamp_bounds (by decide)).2, capFloorTied_pos _ _⟩

theorem readItem_lawful {sp : Space} {l : List Byte} {p : SlotPolicy} (h : readItem sp l = some (.slotPolicy p)) :
    p.powerLawful := by
  cases sp <;> simp [readItem] at h
  exact readPolicy_lawful h

theorem readItems_lawful (sp : Space) (bytes : Nat) (ks : List Nat) : ∀ (l : List Byte) {items : List (Nat × Item × Bool)},
    readItems sp bytes ks l = some items → ∀ k p b, (k, Item.slotPolicy p, b) ∈ items → p.powerLawful := by
  induction ks with
  | nil =>
    intro l items h k p b hm
    cases h
    cases hm
  | cons k ks ih =>
    intro l items h k' p b hm
    unfold readItems at h
    split at h
    · cases h
    · next x hx =>
      obtain ⟨xs, hxs, rfl⟩ := Option.map_eq_some_iff.1 h
      rcases List.mem_cons.1 hm with e | hm
      · cases e
        exact readItem_lawful hx
      · exact ih _ hxs _ _ _ hm

theorem State.checkItems_lawful {r : Request} {sp : Space} {job : WriteJob} (h : s.checkItems r sp = some job) :
    ∀ k p, (k, Item.slotPolicy p) ∈ job.items → p.powerLawful := by
  unfold State.checkItems at h
  split at h
  · cases h
  · next items hitems =>
    split at h
    · cases h
      intro k p hm
      obtain ⟨⟨k', x, b⟩, hx, e⟩ := List.mem_map.1 hm
      cases e
      exact readItems_lawful _ _ _ _ hitems _ _ _ hx
    · cases h

theorem State.executeWrite_lifecycleLawful (r : Request) (h : s.lifecycleLawful) : (s.executeWrite r).lifecycleLawful := by
  have hc : ∀ st, (s.complete r st []).lifecycleLawful := fun st =>
    keptByRequests_lifecycleLawful.complete (k := .nothing) r st [] h
  unfold State.executeWrite
  split
  · exact hc _
  · split
    · exact hc _
    · split
      · exact hc _
      · next job hjob =>
        refine State.lifecycleLawful_writeJob _ (fun j k p e hm => ?_) h
        cases e
        exact State.checkItems_lawful hjob k p hm

theorem State.executeItem_lifecycleLawful {r : Request} {job : WriteJob} (hjob : s.writeJob = some job)
    (h : s.lifecycleLawful) : (s.executeItem r job).lifecycleLawful := by
  have hlaw : ∀ k p, (k, Item.slotPolicy p) ∈ job.items → p.powerLawful := fun k p => h.2.2.2 job k p hjob
  unfold State.executeItem
  split
  · exact keptByRequests_lifecycleLawful.complete (k := .nothing) r _ _ h
  · next n x rest hitems =>
    have ht := State.applyItem_lifecycleLawful (n := n) (x := x)
      (fun p e => hlaw n p (by rw [hitems, e]; exact List.mem_cons_self)) h
    dsimp only
    split
    · exact keptByRequests_lifecycleLawful.complete (k := .nothing) r _ _ ht
    · refine State.lifecycleLawful_writeJob _ (fun j k p e hm => ?_) ht
      cases e
      exact hlaw k p (by rw [hitems]; exact List.mem_cons_of_mem _ hm)

end

end Sys2Proof.Machine

/-! ### Frames, commands and the step (O57) -/

namespace Sys2Proof.Machine

section

variable {s t : State} {i : SlotId}

/-! ### The frame path -/

theorem State.admitRequest_lifecycleLawful (p : PortId) (f : ServiceFrame) (h : s.lifecycleLawful) :
    (s.admitRequest p f).lifecycleLawful := by
  unfold State.admitRequest
  (repeat' split)
  exacts [h, keptByRequests_lifecycleLawful.takeRequest (k := .nothing) p _ f h, h]

theorem State.takeTelemetry_lifecycleLawful (i : SlotId) (l : List Byte) (h : s.lifecycleLawful) :
    (s.takeTelemetry i l).lifecycleLawful :=
  lifecycleLawful_of_life i h fun hl => hl.takeTelemetry View.stable_lawful l

theorem State.takeAnnounce_lifecycleLawful (i : SlotId) (f : ServiceFrame) (h : s.lifecycleLawful) :
    (s.takeAnnounce i f).lifecycleLawful := lifecycleLawful_of_life i h fun hl => hl.takeAnnounce f

theorem State.takeExtend_lifecycleLawful (i : SlotId) (f : ServiceFrame) (h : s.lifecycleLawful) :
    (s.takeExtend i f).lifecycleLawful := lifecycleLawful_of_life i h fun hl => hl.takeExtend f

theorem State.transmit_lifecycleLawful (p : PortId) (k : SentKind) (l : List Byte) (h : s.lifecycleLawful) :
    (s.transmit p k l).lifecycleLawful := keptByNotices_lifecycleLawful.transmit (k := .nothing) p k l h

theorem State.policed_lifecycleLawful (i : SlotId) (f : Received) (e : Option ClassEntry) (h : s.lifecycleLawful) :
    (s.policed i f e).lifecycleLawful := by
  have ht : (s.updMeter i fun m => m.police f.raw.length).lifecycleLawful :=
    State.lifecycleLawful_congr rfl rfl rfl rfl rfl rfl rfl h
  unfold State.policed State.sendUp
  dsimp only
  (repeat' split)
  exacts [ht, State.transmit_lifecycleLawful _ _ _ ht, ht]

theorem State.upstream_lifecycleLawful (i : SlotId) (f : Received) (h : s.lifecycleLawful) :
    (s.upstream i f).lifecycleLawful := by
  unfold State.upstream
  dsimp only
  split
  · exact h
  · exact State.policed_lifecycleLawful i f _ h
  · exact State.policed_lifecycleLawful i f _ h
  · refine State.policed_lifecycleLawful i f _ ?_
    split
    · exact State.takeTelemetry_lifecycleLawful i _ h
    · exact h

theorem State.fromSlot_lifecycleLawful (i : SlotId) (f : Received) (h : s.lifecycleLawful) :
    (s.fromSlot i f).lifecycleLawful := by
  unfold State.fromSlot State.partFromSlot
  (repeat' split)
  exacts [State.takeAnnounce_lifecycleLawful i _ h, State.takeExtend_lifecycleLawful i _ h,
    State.takeTelemetry_lifecycleLawful i _ h, h, State.admitRequest_lifecycleLawful _ _ h, h, h,
    State.upstream_lifecycleLawful i f h, State.lifecycleLawful_congr rfl rfl rfl rfl rfl rfl rfl h]

theorem State.fromUplink_lifecycleLawful (u : UplinkId) (f : Received) (h : s.lifecycleLawful) :
    (s.fromUplink u f).lifecycleLawful := by
  have hd : (s.deliver u f).lifecycleLawful :=
    lifecycleLawful_foldl _ _ (fun _ _ ht => State.transmit_lifecycleLawful _ _ _ ht) h
  unfold State.fromUplink State.partFromUplink
  (repeat' split)
  exacts [State.admitRequest_lifecycleLawful _ _ h, h, h, hd, hd, hd]

theorem State.arriveSlot_lifecycleLawful (i : SlotId) (l : List Byte) (h : s.lifecycleLawful) :
    (s.arriveSlot i l).lifecycleLawful := by
  unfold State.arriveSlot
  (repeat' split)
  exacts [h, State.fromSlot_lifecycleLawful i _ h, State.fromUplink_lifecycleLawful _ _ h]

theorem State.arriveUplink_lifecycleLawful (u : UplinkId) (l : List Byte) (h : s.lifecycleLawful) :
    (s.arriveUplink u l).lifecycleLawful := by
  unfold State.arriveUplink
  (repeat' split)
  exacts [h, State.fromSlot_lifecycleLawful _ _ h, State.fromUplink_lifecycleLawful u _ h]

/-! ### Resets -/

theorem State.warmContext_mode (s : State) (c : Context) :
    (s.warmContext c).mode = if c.mode = .refresh then .closed else c.mode := by
  unfold State.warmContext
  cases h : c.mode <;> simp [h, contextClosed]

theorem View.Lawful.warm {v : View} (h : v.Lawful) :
    View.Lawful { v with mode := if v.mode = .refresh then .closed else v.mode } := by
  obtain ⟨⟨h1, h2, h3, h4, h5, h6, h7, h8⟩, h9⟩ := h
  refine ⟨⟨h1, h2, h3, h4, h5, h6, ?_, ?_⟩, h9⟩
  · dsimp only
    rw [← h7]
    split
    · next e => simp [e]
    · exact Iff.rfl
  · dsimp only
    split
    · simp
    · exact h8

theorem State.warmReset_lifecycleLawful (h : s.lifecycleLawful) : s.warmReset.lifecycleLawful := by
  have hview : ∀ j, s.warmReset.view j =
      { s.view j with mode := if (s.view j).mode = .refresh then .closed else (s.view j).mode } := fun j => by
    have hctx : s.warmReset.context j = s.warmContext (s.context j) := by
      simp only [State.context, State.warmReset, Tab.get_each]
    have hv : s.warmReset.view j = { s.view j with mode := (s.warmReset.context j).mode } := rfl
    rw [hv, hctx, State.warmContext_mode]
    rfl
  obtain ⟨h1, h2, h3, -⟩ := h
  refine ⟨fun j => ?_, h2, h3, fun _ _ _ e => by cases e⟩
  rw [State.slotLawful_iff, hview]
  exact ((s.slotLawful_iff j).1 (h1 j)).warm

theorem State.warmHeld_lifecycleLawful (b : Bool) (h : s.lifecycleLawful) :
    State.lifecycleLawful { s with warmHeld := b } := State.lifecycleLawful_congr rfl rfl rfl rfl rfl rfl rfl h

theorem State.executeReset_lifecycleLawful (r : Request) (h : s.lifecycleLawful) : (s.executeReset r).lifecycleLawful := by
  unfold State.executeReset
  split
  · exact keptByRequests_lifecycleLawful.complete (k := .nothing) r _ _ h
  · exact State.raise_lifecycleLawful _ (State.warmReset_lifecycleLawful (State.transmit_lifecycleLawful _ _ _ h))

theorem State.executeRead_lifecycleLawful (r : Request) (h : s.lifecycleLawful) : (s.executeRead r).lifecycleLawful := by
  have hc : ∀ st l, (s.complete r st l).lifecycleLawful := fun st l =>
    keptByRequests_lifecycleLawful.complete (k := .nothing) r st l h
  unfold State.executeRead
  (repeat' split)
  exacts [hc _ _, hc _ _, hc _ _]

theorem State.onCommand_lifecycleLawful (c : CommandCode) (act : State → SlotId → State × Status)
    (hact : ∀ i, s.Life i View.Lawful → (act s i).1.Life i View.Lawful) (h : s.lifecycleLawful) :
    (s.onHead (.command c) fun s r => s.executeSlot r act).lifecycleLawful := by
  refine KeptByStep.onHead (P := fun _ s => s.lifecycleLawful) (k := .nothing) _ _ (fun r _ => ?_) h
  unfold State.executeSlot
  split
  · exact keptByRequests_lifecycleLawful.complete (k := .nothing) r _ _ h
  · exact keptByRequests_lifecycleLawful.complete (k := .nothing) r _ _ (lifecycleLawful_of_life _ h (hact _))

/-! ### Fans -/

theorem State.intervalZone_lifecycleLawful (d : Vector Nat 16) (z : ZoneId) (h : s.lifecycleLawful) :
    (State.intervalZone d s z).lifecycleLawful := by
  have hreport : ∀ (t : State) (f : FanId), t.lifecycleLawful → (t.reportFan f).lifecycleLawful := fun t f ht => by
    have hu : (t.updFan f fun r => r.report.check).lifecycleLawful :=
      State.lifecycleLawful_congr rfl rfl rfl rfl rfl rfl rfl ht
    unfold State.reportFan
    dsimp only
    (repeat' split)
    exacts [hu, State.raise_lifecycleLawful _ hu, State.raise_lifecycleLawful _ hu, ht]
  have hdrive : ∀ (t : State) (f : FanId), t.lifecycleLawful → (t.driveFan f).lifecycleLawful := fun t f ht => by
    unfold State.driveFan
    split
    · exact State.lifecycleLawful_congr rfl rfl rfl rfl rfl rfl rfl ht
    · exact ht
  exact lifecycleLawful_foldl _ _ hdrive (State.lifecycleLawful_congr rfl rfl rfl rfl rfl rfl rfl
    (lifecycleLawful_foldl _ _ hreport h))

/-! ### The commands -/

/-- A command with two branches keeps the law where both do. -/
theorem lifecycleLawful_ite {c : Prop} [Decidable c] {t u : State} (ht : c → t.lifecycleLawful)
    (hu : u.lifecycleLawful) : (if c then t else u).lifecycleLawful := by
  split
  · next hc => exact ht hc
  · exact hu

/-- Every command keeps the law. -/
theorem exec_lifecycleLawful (c : Instr) (h : s.lifecycleLawful) : ∃ t, exec c s = .next t ∧ t.lifecycleLawful := by
  have hl : ∀ i, s.Life i View.Lawful := fun i => (s.lifecycleLawful_iff i).1 h
  have back : ∀ {u : State} (i : SlotId), u.Life i View.Lawful → u.lifecycleLawful := fun {u} i hu =>
    (u.lifecycleLawful_iff i).2 hu
  cases c with
  | powerOnReset pins =>
    exact ⟨_, rfl, State.lifecycleLawful_congr rfl rfl rfl rfl rfl rfl rfl (lifecycleLawful_powerOn pins)⟩
  | presenceAsserted i => exact ⟨_, rfl, lifecycleLawful_ite (fun _ => h) (back i (hl i).presenceRise)⟩
  | presenceDeasserted i => exact ⟨_, rfl, lifecycleLawful_ite (fun _ => back i (hl i).presenceFall) h⟩
  | debounceExpiry i =>
    refine ⟨_, rfl, lifecycleLawful_ite (fun hc => ?_) h⟩
    simp only [Bool.and_eq_true, decide_eq_true_eq] at hc
    exact back i ((hl i).debounced hc.2)
  | holdTimerExpiry i => exact ⟨_, rfl, lifecycleLawful_ite (fun _ => back i (hl i).holdExpired) h⟩
  | retryTimerExpiry i =>
    refine ⟨_, rfl, lifecycleLawful_ite (fun hc => ?_) h⟩
    simp only [Bool.and_eq_true, decide_eq_true_eq] at hc
    exact back i ((hl i).retryExpired hc.2)
  | deadIntervalExpiry i => exact ⟨_, rfl, back i ((hl i).railStep _)⟩
  | powerGoodAsserted i => exact ⟨_, rfl, lifecycleLawful_ite (fun _ => h) (back i ((hl i).railStep _))⟩
  | powerGoodFall i => exact ⟨_, rfl, lifecycleLawful_ite (fun _ => back i ((hl i).railStep _)) h⟩
  | powerGoodTimerExpiry i => exact ⟨_, rfl, back i ((hl i).railStep _)⟩
  | resetHoldExpiry i => exact ⟨_, rfl, back i ((hl i).railStep _)⟩
  | dischargeTimerExpiry i => exact ⟨_, rfl, back i ((hl i).railStep _)⟩
  | interlockAsserted => exact ⟨_, rfl, lifecycleLawful_ite (fun _ => h) (State.interlockOn_lifecycleLawful h)⟩
  | interlockReleased =>
    refine ⟨_, rfl, lifecycleLawful_ite (fun _ => ?_) h⟩
    exact State.raise_lifecycleLawful _ (State.arbiter_lifecycleLawful
      (State.lifecycleLawful_congr (s := s) rfl rfl rfl rfl rfl rfl rfl h))
  | psuLineAsserted p l => exact ⟨_, rfl, lifecycleLawful_ite (fun _ => h) (State.psuRise_lifecycleLawful p l h)⟩
  | psuLineDeasserted p l => exact ⟨_, rfl, lifecycleLawful_ite (fun _ => State.psuFall_lifecycleLawful p l h) h⟩
  | settleTimerExpiry p => exact ⟨_, rfl, lifecycleLawful_ite (fun _ => State.setCounted_lifecycleLawful p true h) h⟩
  | announce i f => exact ⟨_, rfl, lifecycleLawful_ite (fun _ => State.takeAnnounce_lifecycleLawful i f h) h⟩
  | waitExtend i f => exact ⟨_, rfl, lifecycleLawful_ite (fun _ => State.takeExtend_lifecycleLawful i f h) h⟩
  | announceDeadlineExpiry i =>
    exact ⟨_, rfl, lifecycleLawful_ite (fun _ => back i ((hl i).failContext _ _)) h⟩
  | telemetry i f => exact ⟨_, rfl, lifecycleLawful_ite (fun _ => State.takeTelemetry_lifecycleLawful i _ h) h⟩
  | sensorStale i x =>
    exact ⟨_, rfl, lifecycleLawful_ite (fun _ => back i (((hl i).updThermal i _).clearTest View.stable_lawful)) h⟩
  | criticalGraceExpiry i => exact ⟨_, rfl, lifecycleLawful_ite (fun _ => back i (hl i).graceExpired) h⟩
  | controlInterval =>
    exact ⟨_, rfl, lifecycleLawful_foldl _ _ (fun _ z ht => State.intervalZone_lifecycleLawful _ z ht) h⟩
  | pwmPeriodStart f => exact ⟨_, rfl, State.lifecycleLawful_congr rfl rfl rfl rfl rfl rfl rfl h⟩
  | tachEdge f n => exact ⟨_, rfl, State.lifecycleLawful_congr rfl rfl rfl rfl rfl rfl rfl h⟩
  | overflowTimerExpiry f => exact ⟨_, rfl, State.lifecycleLawful_congr rfl rfl rfl rfl rfl rfl rfl h⟩
  | fanPresenceDeasserted f =>
    exact ⟨_, rfl, lifecycleLawful_ite
      (fun _ => State.raise_lifecycleLawful _ (State.updFan_recapacity_lifecycleLawful f _ h)) h⟩
  | fanPresenceAsserted f =>
    exact ⟨_, rfl, lifecycleLawful_ite (fun _ => h)
      (State.raise_lifecycleLawful _ (State.updFan_recapacity_lifecycleLawful f _ h))⟩
  | linkUp p =>
    refine ⟨_, rfl, ?_⟩
    split
    · exact h
    · next hdown => exact keptByUplinks_lifecycleLawful.linkRise (k := .nothing) p (by simpa using hdown) h
  | linkDown p =>
    exact ⟨_, rfl, lifecycleLawful_ite (fun _ => keptByUplinks_lifecycleLawful.linkFall (k := .nothing) p h) h⟩
  | holdDownExpiry u => exact ⟨_, rfl, keptByUplinks_lifecycleLawful.holdDownExpiry (k := .nothing) u h⟩
  | slotPortFrame i l => exact ⟨_, rfl, State.arriveSlot_lifecycleLawful i l h⟩
  | uplinkPortFrame u l => exact ⟨_, rfl, State.arriveUplink_lifecycleLawful u l h⟩
  | epoch => exact ⟨_, rfl, State.lifecycleLawful_congr rfl rfl rfl rfl rfl rfl rfl h⟩
  | request p f => exact ⟨_, rfl, State.admitRequest_lifecycleLawful p f h⟩
  | read =>
    exact ⟨_, rfl, KeptByStep.onHead (P := fun _ s => s.lifecycleLawful) (k := .nothing) _ _
      (fun r _ => State.executeRead_lifecycleLawful r h) h⟩
  | write =>
    exact ⟨_, rfl, KeptByStep.onHead (P := fun _ s => s.lifecycleLawful) (k := .nothing) _ _
      (fun r _ => State.executeWrite_lifecycleLawful r h) h⟩
  | powerOn => exact ⟨_, rfl, State.onCommand_lifecycleLawful _ _ (fun _ hi => hi.commandPowerOn) h⟩
  | powerOff => exact ⟨_, rfl, State.onCommand_lifecycleLawful _ _ (fun _ hi => hi.commandPowerOff) h⟩
  | release => exact ⟨_, rfl, State.onCommand_lifecycleLawful _ _ (fun _ hi => hi.commandRelease) h⟩
  | reset => exact ⟨_, rfl, State.onCommand_lifecycleLawful _ _ (fun _ hi => hi.commandReset) h⟩
  | refresh => exact ⟨_, rfl, State.onCommand_lifecycleLawful _ _ (fun _ hi => hi.commandRefresh) h⟩
  | clearFault => exact ⟨_, rfl, State.onCommand_lifecycleLawful _ _ (fun _ hi => hi.commandClearFault) h⟩
  | controllerReset =>
    exact ⟨_, rfl, KeptByStep.onHead (P := fun _ s => s.lifecycleLawful) (k := .nothing) _ _
      (fun r _ => State.executeReset_lifecycleLawful r h) h⟩
  | adminEnableWrite i b => exact ⟨_, rfl, back i (((hl i).updPolicy _ ((hl i).policies i)).actOnAdmin _)⟩
  | roleSettingStackWrite => exact ⟨_, rfl, State.setRole_lifecycleLawful .stack h⟩
  | roleSettingSlotWrite => exact ⟨_, rfl, State.setRole_lifecycleLawful .slot h⟩
  | powerPolicyWrite i a b c =>
    exact ⟨_, rfl, back i (((hl i).updPolicy _
      ⟨(clamp_bounds (by decide)).1, (clamp_bounds (by decide)).2, capFloorTied_pos _ _⟩).actOnPower _)⟩
  | psuCapacityWrite p w => exact ⟨_, rfl, State.setCapacity_lifecycleLawful p _ h⟩
  | redundancyModeWrite m w => exact ⟨_, rfl, State.setRedundancy_lifecycleLawful m _ h⟩
  | fanFullPowerWrite f w => exact ⟨_, rfl, State.updFan_recapacity_lifecycleLawful f _ h⟩
  | minDemandWrite z w => exact ⟨_, rfl, State.lifecycleLawful_congr rfl rfl rfl rfl rfl rfl rfl h⟩
  | staleLimitWrite n => exact ⟨_, rfl, State.setStaleLimit_lifecycleLawful _ h⟩
  | rateCodeWrite i a b => exact ⟨_, rfl, State.setRates_lifecycleLawful i a b h⟩
  | bucketDepthWrite i n => exact ⟨_, rfl, State.lifecycleLawful_congr rfl rfl rfl rfl rfl rfl rfl h⟩
  | memberListWrite g l =>
    exact ⟨_, rfl, lifecycleLawful_ite (fun _ => keptByUplinks_lifecycleLawful.setMembers (k := .nothing) g _ h) h⟩
  | classifyEntryWrite n e => exact ⟨_, rfl, State.lifecycleLawful_congr rfl rfl rfl rfl rfl rfl rfl h⟩
  | serviceEthertypeWrite v =>
    exact ⟨_, rfl, lifecycleLawful_ite (fun _ => State.lifecycleLawful_congr rfl rfl rfl rfl rfl rfl rfl h) h⟩
  | noticeCfgWrite c => exact ⟨_, rfl, keptByNotices_lifecycleLawful.setNoticeCfg (k := .nothing) _ h⟩
  | writeItem =>
    refine ⟨_, rfl, ?_⟩
    split
    · next job r _ hjob hr => exact State.executeItem_lifecycleLawful hjob h
    · exact h
    · exact h
  | warmResetInputAsserted =>
    exact ⟨_, rfl, lifecycleLawful_ite (fun _ => h)
      (State.warmHeld_lifecycleLawful true (State.warmReset_lifecycleLawful h))⟩
  | warmResetInputDeasserted =>
    exact ⟨_, rfl, lifecycleLawful_ite (fun _ => State.raise_lifecycleLawful _
      (State.warmHeld_lifecycleLawful false h)) h⟩
  | spacingTimerExpiry =>
    exact ⟨_, rfl, State.attemptSend_lifecycleLawful (State.lifecycleLawful_congr (s := s) rfl rfl rfl rfl rfl rfl rfl h)⟩

end

/-- Settles O57: between two commands every slot's view is lawful, and every command takes lawful views to lawful ones. -/
theorem stepKeepsLifecycle : Obligations.StepKeepsLifecycle := by
  unfold Obligations.StepKeepsLifecycle
  intro s t h ht
  unfold step at ht
  split at ht
  · cases ht
    exact h
  · next c rest _ =>
    obtain ⟨u, hu, hlaw⟩ := exec_lifecycleLawful (s := { s with pending := rest }) c
      (State.lifecycleLawful_congr rfl rfl rfl rfl rfl rfl rfl h)
    rw [hu] at ht
    cases ht
    exact hlaw

end Sys2Proof.Machine

/-!
# Single commands: presence, debounce, holds, retries, the rail timers, supplies
-/

namespace Sys2Proof.Machine

/-! ### The step and the power-on reset (O1, O2) -/

/-- Settles O1: by the definition of the step. -/
theorem stepTakesFrontCommand : Obligations.StepTakesFrontCommand := by
  unfold Obligations.StepTakesFrontCommand
  refine ⟨fun _ _ _ => rfl, fun s h => ?_⟩
  rw [step, h]

/-- Settles O2: each table of the power-on state is read at its index. -/
theorem powerOnResetSamplesLevels : Obligations.PowerOnResetSamplesLevels := by
  unfold Obligations.PowerOnResetSamplesLevels
  intro p s
  refine ⟨_, rfl, fun i => Tab.get_make _ i, fun i => Tab.get_make _ i, rfl, fun i => Tab.get_make _ i,
    fun i => ⟨Tab.get_make _ i, Tab.get_make _ i, Tab.get_make _ i, Tab.get_make _ i, Tab.get_make _ i,
      Tab.get_make _ i, Tab.get_make _ i⟩,
    fun k => (Tab.get_make _ k).trans ?_, fun z => Tab.get_make _ z, fun f => (Tab.get_make _ f).trans ?_,
    fun q => Tab.get_make _ q, rfl, fun k => Tab.get_make _ k, fun u => Tab.get_make _ u, fun g => Tab.get_make _ g,
    fun k => Tab.get_make _ k, rfl, Tab.get_make _ 0, fun k hk => (Tab.get_make _ k).trans (if_neg hk), rfl, rfl, rfl,
    rfl, rfl, rfl, rfl, rfl, rfl, rfl, rfl, rfl, rfl, rfl⟩
  · simp only [psuPowerOn, Bool.and_eq_true]
    rfl
  · simp only [fanPowerOn]
    split <;> simp_all

/-! ### Presence (O3) -/

theorem State.updSlot_updSlot (s : State) (i : SlotId) (f g : Slot → Slot) :
    (s.updSlot i f).updSlot i g = s.updSlot i fun r => g (f r) := by
  have h : Tab.upd (Tab.upd s.slots i f) i g = Tab.upd s.slots i fun r => g (f r) :=
    Tab.ext_get fun j => by
      simp only [Tab.get_upd]
      split <;> simp_all
  simp only [State.updSlot, h]

theorem State.enter_updSlot (s : State) (i : SlotId) (f : Slot → Slot) (st : SlotState) :
    (s.updSlot i f).enter i st = (s.updSlot i fun r => { f r with state := st }).raise (.stateChange i) := by
  rw [State.enter, State.setSlotState, State.updSlot_updSlot]

theorem exec_presenceAsserted (s : State) (i : SlotId) :
    exec (.presenceAsserted i) s = .next (if (s.slot i).presence then s else s.presenceRise i) := rfl

/-- Settles O3: the rise is taken by the level the wire had. -/
theorem presenceRiseStartsDebounce : Obligations.PresenceRiseStartsDebounce := by
  unfold Obligations.PresenceRiseStartsDebounce
  intro s i
  simp only [exec_presenceAsserted]
  refine ⟨fun h => by rw [if_pos h], fun h hst => ?_, fun h hst => ?_⟩
  · refine ⟨s.updSlot i fun r =>
      { r with presence := true, state := .debounce, debounce := s.timer s.chassis.debounce }, ?_, rfl, fun j => ?_⟩
    · rw [if_neg (by simp [h]), State.presenceRise, if_pos hst]
      simp only [State.updSlot_updSlot, State.enter_updSlot]
    · exact s.updSlot_slot i _ j
  · refine ⟨s.updSlot i fun r => { r with presence := true }, ?_, rfl, fun j => s.updSlot_slot i _ j⟩
    rw [if_neg (by simp [h]), State.presenceRise, if_neg hst]

/-! ### Debounce, holds, retries (O6, O8, O10) -/

/-- Entry to a held state: the hold timer and the state, then the two events. -/
theorem State.enterHeld_eq (s : State) (i : SlotId) (st : SlotState) :
    s.enterHeld i st =
      ((s.updSlot i fun r => { r with hold := s.holdTimer i, state := st }).raise (.stateChange i)).raise
        (.holdReached i) := by
  rw [State.enterHeld, State.enter_updSlot]

theorem State.powerUpPath_held {s : State} {i : SlotId} (h : (s.policy i).holdPower = true) :
    s.powerUpPath i = s.enterHeld i .heldPower := if_pos h

theorem State.powerUpPath_request {s : State} {i : SlotId} (h : (s.policy i).holdPower = false) :
    s.powerUpPath i = s.powerRequest i := if_neg (by simp [h])

theorem exec_debounceExpiry {s : State} {i : SlotId} (hst : (s.slot i).state = .debounce)
    (ht : (s.slot i).debounce ≠ none) : exec (.debounceExpiry i) s = .next (s.debounced i) :=
  congrArg Host.Outcome.next (if_pos (by simp [hst, Option.isSome_iff_ne_none.2 ht]))

/-- The slot record and the generation count with the debounce timer stopped. -/
theorem State.debounced_eq (s : State) (i : SlotId) :
    s.debounced i =
      if (s.policy i).autoPower then
        ((s.updSlot i fun r => { r with debounce := none }).updInv i fun v => { v with generation := 0 }).powerUpPath i
      else
        ((s.updSlot i fun r => { r with debounce := none }).updInv i fun v => { v with generation := 0 }).enter i .present :=
  rfl

theorem State.updInv_updSlot (s : State) (i : SlotId) (f : Slot → Slot) (g : Inventory → Inventory) :
    (s.updSlot i f).updInv i g = (s.updInv i g).updSlot i f := rfl

/-- Settles O6: by the two policy bits. -/
theorem debounceExpiryTakesPath : Obligations.DebounceExpiryTakesPath := by
  unfold Obligations.DebounceExpiryTakesPath
  intro s i hst ht
  simp only [exec_debounceExpiry hst ht, State.debounced_eq, State.updInv_updSlot]
  cases ha : (s.policy i).autoPower with
  | false =>
    refine ⟨(s.updInv i fun v => { v with generation := 0 }).updSlot i fun r =>
      { r with debounce := none, state := .present }, rfl, fun j => by simp [State.updInv_inv],
      fun j hj => by simp [State.updSlot_slot_ne _ _ hj], fun _ => ⟨?_, by simp⟩, by simp, by simp⟩
    rw [if_neg (by simp), State.enter_updSlot]
  | true =>
    cases hh : (s.policy i).holdPower with
    | true =>
      refine ⟨(s.updInv i fun v => { v with generation := 0 }).updSlot i fun r =>
        { r with debounce := none, hold := s.holdTimer i, state := .heldPower }, rfl,
        fun j => by simp [State.updInv_inv], fun j hj => by simp [State.updSlot_slot_ne _ _ hj], by simp,
        fun _ _ => ⟨?_, by simp [State.holdTimer, State.timer]⟩, by simp⟩
      rw [if_pos rfl, State.powerUpPath_held (by simpa using hh), State.enterHeld_eq, State.updSlot_updSlot]
      rfl
    | false =>
      refine ⟨(s.updInv i fun v => { v with generation := 0 }).updSlot i fun r => { r with debounce := none }, rfl,
        fun j => by simp [State.updInv_inv], fun j hj => by simp [State.updSlot_slot_ne _ _ hj], by simp, by simp,
        fun _ _ => ⟨?_, by simp⟩⟩
      rw [if_pos rfl, State.powerUpPath_request (by simpa using hh)]

theorem exec_holdTimerExpiry (s : State) (i : SlotId) :
    exec (.holdTimerExpiry i) s = .next (if (s.slot i).hold.isSome then s.holdExpired i else s) := rfl

/-- Settles O8: by the hold default and the held state. -/
theorem holdExpiryTakesDefault : Obligations.HoldExpiryTakesDefault := by
  unfold Obligations.HoldExpiryTakesDefault
  intro s i
  refine ⟨fun h => by rw [exec_holdTimerExpiry, h]; rfl, fun h => ?_⟩
  simp only [exec_holdTimerExpiry, if_pos (Option.isSome_iff_ne_none.2 h), State.holdExpired, State.releaseHeld]
  cases hd : (s.policy i).holdDefault with
  | proceed =>
    refine ⟨s.updSlot i Slot.stopHold, rfl, fun j hj => by simp [State.updSlot_slot_ne _ _ hj],
      fun hst _ => ⟨by simp [hst], by simp [Slot.stopHold]⟩, fun hst _ => ⟨by simp [hst], by simp [Slot.stopHold]⟩,
      by simp, by simp⟩
  | deny =>
    refine ⟨s.updSlot i fun r => { r.stopHold with state := .present }, rfl,
      fun j hj => by simp [State.updSlot_slot_ne _ _ hj], by simp, by simp, fun hst _ => ⟨?_, by simp [Slot.stopHold]⟩,
      fun hst _ => by simp [hst]⟩
    dsimp only
    rw [if_pos hst, State.enter_updSlot]

theorem exec_retryTimerExpiry (s : State) (i : SlotId) :
    exec (.retryTimerExpiry i) s =
      .next (if (s.slot i).retry.isSome && (s.slot i).state = .fault then s.retryExpired i else s) := rfl

/-- Settles O10: by hold_power. -/
theorem retryExpiryTakesPath : Obligations.RetryExpiryTakesPath := by
  unfold Obligations.RetryExpiryTakesPath
  intro s i
  refine ⟨fun h => by rw [exec_retryTimerExpiry, h]; rfl, fun h hst => ?_⟩
  have hif : ((s.slot i).retry.isSome && decide ((s.slot i).state = .fault)) = true := by
    simp [hst, Option.isSome_iff_ne_none.2 h]
  simp only [exec_retryTimerExpiry, if_pos hif, State.retryExpired]
  cases hh : (s.policy i).holdPower with
  | true =>
    refine ⟨s.updSlot i fun r =>
      { r with retry := none, retryCount := r.retryCount + 1, hold := s.holdTimer i, state := .heldPower }, rfl,
      fun j hj => by simp [State.updSlot_slot_ne _ _ hj], fun _ => ⟨?_, by simp [State.holdTimer, State.timer]⟩, by simp⟩
    rw [State.powerUpPath_held (by simpa using hh), State.enterHeld_eq, State.updSlot_updSlot]
    rfl
  | false =>
    refine ⟨s.updSlot i fun r => { r with retry := none, retryCount := r.retryCount + 1 }, rfl,
      fun j hj => by simp [State.updSlot_slot_ne _ _ hj], by simp, fun _ => ⟨?_, by simp⟩⟩
    rw [State.powerUpPath_request (by simpa using hh)]

end Sys2Proof.Machine

/-! ### The rail timers and the power-good wire (O12 to O16) -/

namespace Sys2Proof.Machine

@[simp] theorem State.setRail_self (s : State) (i : SlotId) : s.setRail i (s.rail i) = s := by
  have h : Tab.upd s.rails i (fun _ => s.rail i) = s.rails := Tab.ext_get fun j => by
    rw [Tab.get_upd]
    split
    · next e => subst e; rfl
    · rfl
  simp only [State.setRail, State.updRail, h]

theorem State.railStep_silent (s : State) (i : SlotId) (r : Rail) : s.railStep i (r, []) = s.setRail i r := rfl

/-- A power-good seen carries a RAMPING slot to RESET_HOLD. -/
theorem State.railStep_seen {s : State} {i : SlotId} (r : Rail) (h : (s.slot i).state = .ramping) :
    s.railStep i (r, [.powerGoodSeen]) =
      ((s.setRail i r).updSlot i fun x => { x with state := .resetHold }).raise (.stateChange i) := by
  have hst : ((s.setRail i r).slot i).state = .ramping := h
  simp [State.railStep, State.climb, State.takeReports, State.takeReport, hst, State.setSlotState]

/-- With the reset released in the same handling it is ANNOUNCING, its window open. -/
theorem State.railStep_seen_released {s : State} {i : SlotId} (r : Rail) (h : (s.slot i).state = .ramping) :
    s.railStep i (r, [.powerGoodSeen, .resetReleased]) =
      (((s.setRail i r).updSlot i fun x => { x with state := .announcing }).openWindow i).raise (.stateChange i) := by
  have hst : ((s.setRail i r).slot i).state = .ramping := h
  simp [State.railStep, State.climb, State.takeReports, State.takeReport, hst, State.setSlotState,
    State.updSlot_updSlot, State.openWindow]

/-- The reset released carries a RESET_HOLD slot to ANNOUNCING. -/
theorem State.railStep_released {s : State} {i : SlotId} (r : Rail) (h : (s.slot i).state = .resetHold) :
    s.railStep i (r, [.resetReleased]) =
      (((s.setRail i r).updSlot i fun x => { x with state := .announcing }).openWindow i).raise (.stateChange i) := by
  have hst : ((s.setRail i r).slot i).state = .resetHold := h
  simp [State.railStep, State.climb, State.takeReports, State.takeReport, hst, State.setSlotState, State.openWindow]

theorem State.setRail_rail_self (s : State) (i : SlotId) (r : Rail) : (s.setRail i r).rail i = r := by
  simp [State.setRail]

theorem State.setRail_rail_ne (s : State) {i j : SlotId} (r : Rail) (h : j ≠ i) : (s.setRail i r).rail j = s.rail j := by
  simp [State.setRail, State.updRail_rail_ne _ _ h]

theorem exec_deadIntervalExpiry (s : State) (i : SlotId) :
    exec (.deadIntervalExpiry i) s = .next (s.railStep i ((s.rail i).deadExpiry s.railEnv)) := rfl

/-- Settles O12: by the stage, the operation and the power-good wire. -/
theorem deadExpiryMakesWaitingAssertion : Obligations.DeadExpiryMakesWaitingAssertion := by
  unfold Obligations.DeadExpiryMakesWaitingAssertion
  intro s i
  simp only [exec_deadIntervalExpiry]
  refine ⟨fun h => ?_, fun h => ?_, fun h hstage hop hlock hgood hst hhold => ?_⟩
  · rw [Rail.deadExpiry, h]
    simp [State.railStep_silent]
  · refine ⟨s.setRail i ((s.rail i).deadExpiry s.railEnv).1, rfl, fun j hj => State.setRail_rail_ne s _ hj, fun hstage => ?_,
      fun hstage hop => ?_, fun hstage hop hlock hgood => ?_⟩
    all_goals
      have hdead : (s.rail i).dead.isSome = true := Option.isSome_iff_ne_none.2 h
      rw [State.setRail_rail_self]
    · simp [Rail.deadExpiry, hdead, hstage, State.railStep_silent]
    · simp [Rail.deadExpiry, hdead, hstage, hop, State.railStep_silent, Rail.assertDischarge, RailEnv.timer, State.railEnv,
        State.timer]
    · simp [Rail.deadExpiry, hdead, hstage, hop, State.railStep_silent, Rail.assertMain, hgood, RailEnv.timer,
        State.railEnv, State.timer, hlock]
  · have hr : (s.rail i).deadExpiry s.railEnv =
        ({ s.rail i with
            dead := none, mainEnable := true, seen := true, stage := .resetting, powerGoodTimer := none,
            resetTimer := s.timer s.chassis.resetHold }, [.powerGoodSeen]) := by
      simp [Rail.deadExpiry, Option.isSome_iff_ne_none.2 h, hstage, hop, Rail.assertMain, hgood, hlock,
        Rail.seePowerGood, Rail.startResetHold, hhold, RailEnv.timer, State.railEnv, State.timer]
    refine ⟨_, by rw [hr, State.railStep_seen _ hst], rfl, fun j => by rw [State.updSlot_slot]; rfl, fun j => ?_⟩
    exact s.updRail_rail i _ j

theorem exec_powerGoodAsserted {s : State} {i : SlotId} (h : (s.rail i).powerGood = false) :
    exec (.powerGoodAsserted i) s = .next (s.railStep i ((s.rail i).powerGoodRise s.railEnv)) :=
  congrArg Host.Outcome.next (if_neg (by simp [h]))

/-- Settles O13: by the operation, its stage and the reset hold. -/
theorem powerGoodRiseStartsResetHold : Obligations.PowerGoodRiseStartsResetHold := by
  unfold Obligations.PowerGoodRiseStartsResetHold
  intro s i hgood
  rw [exec_powerGoodAsserted hgood]
  refine ⟨fun hop hstage hhold hst => ?_, fun hop hstage hhold hst => ?_, fun hno => ?_⟩
  · have hr : (s.rail i).powerGoodRise s.railEnv =
        ({ s.rail i with
            powerGood := true, seen := true, stage := .resetting, powerGoodTimer := none,
            resetTimer := s.timer s.chassis.resetHold }, [.powerGoodSeen]) := by
      simp [Rail.powerGoodRise, hop, hstage, Rail.seePowerGood, Rail.startResetHold, hhold, RailEnv.timer,
        State.railEnv, State.timer]
    refine ⟨_, by rw [hr, State.railStep_seen _ hst], rfl, fun j => by rw [State.updSlot_slot]; rfl, fun j => ?_⟩
    exact s.updRail_rail i _ j
  · have hr : (s.rail i).powerGoodRise s.railEnv =
        ({ s.rail i with
            powerGood := true, seen := true, bladeReset := false, op := .none, stage := .none,
            powerGoodTimer := none, resetTimer := none }, [.powerGoodSeen, .resetReleased]) := by
      simp [Rail.powerGoodRise, hop, hstage, Rail.seePowerGood, Rail.startResetHold, hhold, Rail.releaseReset,
        State.railEnv]
    refine ⟨_, by rw [hr, State.railStep_seen_released _ hst], rfl, fun j => ?_, ?_, fun j hj => ?_, fun j => ?_⟩
    · exact (s.setRail i _).updSlot_slot i _ j
    · simp [State.openWindow]
    · simp [State.openWindow, State.updContext_context_ne _ _ hj, State.setRail]
    · exact s.updRail_rail i _ j
  · have hr : (s.rail i).powerGoodRise s.railEnv = ({ s.rail i with powerGood := true }, []) := by
      simp only [Rail.powerGoodRise]
      rw [if_neg]
      rcases hno with hno | hno <;> simp [hno]
    refine ⟨_, by rw [hr, State.railStep_silent], rfl, fun j => ?_⟩
    exact s.updRail_rail i _ j

theorem exec_powerGoodFall {s : State} {i : SlotId} (h : (s.rail i).powerGood = true) :
    exec (.powerGoodFall i) s = .next (s.railStep i (s.rail i).powerGoodFall) :=
  congrArg Host.Outcome.next (if_pos h)

/-- Settles O14: by what R34 asks of the rail. -/
theorem powerGoodFallIsPowerLost : Obligations.PowerGoodFallIsPowerLost := by
  unfold Obligations.PowerGoodFallIsPowerLost
  intro s i hgood
  rw [exec_powerGoodFall hgood]
  refine ⟨s.setRail i (s.rail i).powerGoodFall.1, rfl, fun j hj => State.setRail_rail_ne s _ hj, fun hno => ?_,
    fun hmain hseen hop hst => ?_⟩
  · have hr : (s.rail i).powerGoodFall = ({ s.rail i with powerGood := false }, []) := by
      simp only [Rail.powerGoodFall]
      rw [if_neg]
      rcases hno with hno | hno | hno <;> simp [hno]
    rw [State.setRail_rail_self, hr]
    exact ⟨rfl, rfl⟩
  · have hr : (s.rail i).powerGoodFall.2 = [.powerLost] := by
      simp only [Rail.powerGoodFall, hmain, hseen]
      (repeat' split) <;> simp_all
    rw [State.setRail_rail_self]
    refine ⟨?_, ?_, ?_⟩
    · have hst' : ((s.setRail i (s.rail i).powerGoodFall.1).slot i).state.heedsPowerLost = true := hst
      simp only [State.railStep, hr, State.handleReport, hst', if_true]
    all_goals
      simp only [Rail.powerGoodFall, hmain, hseen]
      (repeat' split) <;> simp_all

theorem exec_powerGoodTimerExpiry (s : State) (i : SlotId) :
    exec (.powerGoodTimerExpiry i) s = .next (s.railStep i (s.rail i).powerGoodExpiry) := rfl

/-- Settles O15: by the power-good timer. -/
theorem powerGoodTimeoutStallsAndDrains : Obligations.PowerGoodTimeoutStallsAndDrains := by
  unfold Obligations.PowerGoodTimeoutStallsAndDrains
  intro s i
  rw [exec_powerGoodTimerExpiry]
  refine ⟨fun h => by simp [Rail.powerGoodExpiry, h, State.railStep_silent], fun h hst => ?_⟩
  refine ⟨s.setRail i { s.rail i with powerGoodTimer := none, stage := .stalled }, ?_, rfl,
    fun j => s.updRail_rail i _ j⟩
  have hst' : ∀ r, ((s.setRail i r).slot i).state = .ramping := fun _ => hst
  simp [Rail.powerGoodExpiry, Option.isSome_iff_ne_none.2 h, State.railStep, State.handleReport, hst']

theorem exec_resetHoldExpiry (s : State) (i : SlotId) :
    exec (.resetHoldExpiry i) s = .next (s.railStep i (s.rail i).resetExpiry) := rfl

/-- Settles O16: by the reset-hold timer. -/
theorem resetReleaseOpensWindow : Obligations.ResetReleaseOpensWindow := by
  unfold Obligations.ResetReleaseOpensWindow
  intro s i
  rw [exec_resetHoldExpiry]
  refine ⟨fun h => by simp [Rail.resetExpiry, h, State.railStep_silent], fun h hst => ?_⟩
  have hr : (s.rail i).resetExpiry = ((s.rail i).releaseReset, [.resetReleased]) := by
    simp [Rail.resetExpiry, Option.isSome_iff_ne_none.2 h]
  refine ⟨_, by rw [hr, State.railStep_released _ hst], rfl, fun j => ?_, fun j => ?_, fun j => ?_⟩
  · exact (s.setRail i _).updSlot_slot i _ j
  · exact s.updRail_rail i _ j
  · exact State.updContext_context _ i _ j

end Sys2Proof.Machine

/-! ### The interlock's release, supplies and power settings (O19, O20, O24) -/

namespace Sys2Proof.Machine

theorem State.arbiter_of_nil {s : State} (h : s.powerQueue = []) : s.arbiter = s := by
  unfold State.arbiter
  rw [h]
  split <;> rfl

theorem State.arbiter_of_interlock {s : State} (h : s.interlock = true) : s.arbiter = s := if_pos h

theorem exec_interlockReleased (s : State) :
    exec .interlockReleased s = .next (if s.interlock then s.interlockOff else s) := rfl

/-- Settles O19: by the level. -/
theorem interlockReleaseRunsArbiter : Obligations.InterlockReleaseRunsArbiter := by
  unfold Obligations.InterlockReleaseRunsArbiter
  intro s
  rw [exec_interlockReleased]
  refine ⟨fun h => by rw [if_neg (by simp [h])], fun h => ?_⟩
  exact ⟨{ s with interlock := false }, by rw [if_pos h]; rfl, rfl, rfl, fun hq => State.arbiter_of_nil hq⟩

/-! ### Supplies -/

theorem State.updPsu_updPsu (s : State) (p : PsuId) (f g : Psu → Psu) :
    (s.updPsu p f).updPsu p g = s.updPsu p fun r => g (f r) := by
  have h : Tab.upd (Tab.upd s.psus p f) p g = Tab.upd s.psus p fun r => g (f r) :=
    Tab.ext_get fun q => by
      simp only [Tab.get_upd]
      split <;> simp_all
  simp only [State.updPsu, h]

/-- A change of a supply that adds no capacity while it is uncounted leaves C_avail. -/
theorem State.updPsu_uncounted_cAvail (s : State) (p : PsuId) (f : Psu → Psu) (h : (s.psu p).counted = false)
    (hf : (f (s.psu p)).counted = false) : (s.updPsu p f).cAvail = s.cAvail :=
  s.updPsu_cAvail p f (by simp [Psu.countedCapacity, h, hf])

theorem Psu.withLine_counted (line : PsuLine) (b : Bool) (r : Psu) : (r.withLine line b).counted = r.counted := by
  cases line <;> rfl

theorem Psu.withLine_capacity (line : PsuLine) (b : Bool) (r : Psu) : (r.withLine line b).capacity = r.capacity := by
  cases line <;> rfl

/-- A line's level is no part of C_avail. -/
theorem State.withLine_cAvail (s : State) (p : PsuId) (line : PsuLine) (b : Bool) :
    (s.updPsu p (Psu.withLine line b)).cAvail = s.cAvail :=
  s.updPsu_cAvail p _ (by simp [Psu.countedCapacity, Psu.withLine_counted, Psu.withLine_capacity])

theorem exec_psuLineAsserted (s : State) (p : PsuId) (line : PsuLine) :
    exec (.psuLineAsserted p line) s = .next (if (s.psu p).line line then s else s.psuRise p line) := rfl

theorem exec_psuLineDeasserted (s : State) (p : PsuId) (line : PsuLine) :
    exec (.psuLineDeasserted p line) s = .next (if (s.psu p).line line then s.psuFall p line else s) := rfl

theorem exec_settleTimerExpiry (s : State) (p : PsuId) :
    exec (.settleTimerExpiry p) s = .next (if (s.psu p).settle.isSome then s.setCounted p true else s) := rfl

/-- Settles O20: by the two lines, the counted field and the settle time. -/
theorem supplyLinesCountSupply : Obligations.SupplyLinesCountSupply := by
  unfold Obligations.SupplyLinesCountSupply
  intro s p line
  simp only [exec_psuLineAsserted, exec_psuLineDeasserted, exec_settleTimerExpiry]
  refine ⟨fun h => by rw [if_pos h], fun h => ?_, fun h => by rw [if_neg (by simp [h])], fun h => ?_,
    fun h => by rw [h]; rfl, fun h => ?_⟩
  · have hc : ((s.psu p).withLine line true).counted = (s.psu p).counted := Psu.withLine_counted _ _ _
    rw [if_neg (by simp [h])]
    by_cases hstart : (((s.psu p).withLine line true).present && ((s.psu p).withLine line true).powerGood &&
        !(s.psu p).counted) = true
    · have hrise : s.psuRise p line = (s.updPsu p (Psu.withLine line true)).startSettle p := by
        simp only [State.psuRise, State.updPsu_psu_self, hc, hstart, if_true]
      rw [hrise]
      simp only [Bool.and_eq_true, Bool.not_eq_true'] at hstart
      by_cases ht : s.chassis.settleTime = 0
      · refine ⟨s.updPsu p fun r => { r.withLine line true with counted := true, settle := none }, rfl,
          fun q hq => by simp [State.updPsu_psu_ne _ _ hq], by simp [hstart], by simp [ht], fun _ _ _ => ⟨?_, by simp⟩⟩
        have ht' : (s.updPsu p (Psu.withLine line true)).chassis.settleTime = 0 := ht
        rw [State.startSettle, if_pos ht', State.setCounted, State.updPsu_updPsu, State.withLine_cAvail]
      · refine ⟨s.updPsu p fun r => { r.withLine line true with settle := s.timer s.chassis.settleTime }, rfl,
          fun q hq => by simp [State.updPsu_psu_ne _ _ hq], by simp [hstart], fun _ _ _ => ⟨?_, by simp⟩, by simp [ht]⟩
        have ht' : ¬ (s.updPsu p (Psu.withLine line true)).chassis.settleTime = 0 := ht
        rw [State.startSettle, if_neg ht', State.updPsu_updPsu]
        rfl
    · have hrise : s.psuRise p line = s.updPsu p (Psu.withLine line true) := by
        simp only [State.psuRise, State.updPsu_psu_self, hc, hstart]
        rfl
      rw [hrise]
      refine ⟨_, rfl, fun q hq => by simp [State.updPsu_psu_ne _ _ hq], fun _ => ⟨rfl, by simp⟩, fun h1 h2 => ?_,
        fun h1 h2 => ?_⟩
      all_goals exact absurd (by simpa [h2] using h1) hstart
  · have hc : (s.psu p).counted = ((s.updPsu p fun r => { r.withLine line false with settle := none }).psu p).counted := by
      simp [Psu.withLine_counted]
    rw [if_pos h]
    cases hcounted : (s.psu p).counted with
    | false =>
      refine ⟨s.updPsu p fun r => { r.withLine line false with settle := none }, rfl,
        fun q hq => State.updPsu_psu_ne s _ hq, fun _ => ⟨?_, by simp⟩, by simp⟩
      rw [State.psuFall]
      dsimp only
      rw [if_neg (by rw [← hc, hcounted]; simp)]
    | true =>
      refine ⟨s.updPsu p fun r => { r.withLine line false with settle := none, counted := false }, rfl,
        fun q hq => State.updPsu_psu_ne s _ hq, by simp, fun _ => ⟨?_, by simp⟩⟩
      have hav : (s.updPsu p fun r => { r.withLine line false with settle := none }).cAvail = s.cAvail :=
        s.updPsu_cAvail p _ (by simp [Psu.countedCapacity, Psu.withLine_counted, Psu.withLine_capacity])
      rw [State.psuFall]
      dsimp only
      rw [if_pos (by rw [← hc, hcounted]), State.setCounted, hav, State.updPsu_updPsu]
  · rw [if_pos (Option.isSome_iff_ne_none.2 h)]
    exact ⟨_, rfl, rfl, fun q => State.updPsu_psu s p _ q⟩

/-! ### Power settings -/

theorem State.recapacity_same {s : State} {c : Nat} (h : s.cAvail = c) : s.recapacity c = s := if_pos h

theorem exec_psuCapacityWrite (s : State) (p : PsuId) (w : Nat) :
    exec (.psuCapacityWrite p w) s =
      .next ((s.updPsu p fun r => { r with capacity := clamp 0 4000 w }).recapacity s.cAvail) := rfl

theorem exec_redundancyModeWrite (s : State) (m : RedundancyMode) (w : Nat) :
    exec (.redundancyModeWrite m w) s =
      .next (State.recapacity { s with chassis := { s.chassis with mode := m, overhead := clamp 0 2000 w } } s.cAvail) :=
  rfl

theorem exec_fanFullPowerWrite (s : State) (f : FanId) (w : Nat) :
    exec (.fanFullPowerWrite f w) s =
      .next ((s.updFan f fun r => { r with fullPower := clamp 0 200 w }).recapacity s.cAvail) := rfl

theorem clamp_zero (hi n : Nat) : clamp 0 hi n = min hi n := by
  unfold clamp
  omega

/-- Settles O24: each write is a change of its field and a recomputation. -/
theorem powerSettingsRecompute : Obligations.PowerSettingsRecompute := by
  unfold Obligations.PowerSettingsRecompute
  refine ⟨fun s p w => ?_, fun s m w => ?_, fun s f w => ?_⟩
  · rw [exec_psuCapacityWrite, clamp_zero]
    exact ⟨_, rfl, rfl, fun q => State.updPsu_psu s p _ q, fun h => by rw [State.recapacity_same h]⟩
  · rw [exec_redundancyModeWrite, clamp_zero]
    exact ⟨_, rfl, rfl, fun h => by rw [State.recapacity_same h]⟩
  · rw [exec_fanFullPowerWrite, clamp_zero]
    exact ⟨_, rfl, rfl, fun g => State.updFan_fan s f _ g, fun h => by rw [State.recapacity_same h]⟩

end Sys2Proof.Machine

/-! ### Notices, the epoch, fans, links (O53, O43, O37, O38, O36, O42) -/

namespace Sys2Proof.Machine

/-! ### Notices (O53) -/

theorem State.raise_disabled {s : State} (e : Event) (h : s.noticeCfg.enable = false) : s.raise e = s :=
  if_neg (by simp [h])

theorem State.attemptSend_silent {s : State}
    (h : s.notices = [] ∨ s.noticeCfg.enable = false ∨ s.link s.noticeCfg.egress = false ∨ s.spacing ≠ none) :
    s.attemptSend = s := by
  unfold State.attemptSend
  cases hn : s.notices with
  | nil => rfl
  | cons n rest =>
    refine if_neg ?_
    rcases h with h | h | h | h
    · simp [hn] at h
    · simp [State.mayNotify, h]
    · simp [State.mayNotify, h]
    · simp [State.mayNotify, h]

/-- Settles O53: by the source's pending notice, and by the three conditions of a send. -/
theorem eventsBecomeNotices : Obligations.EventsBecomeNotices := by
  unfold Obligations.EventsBecomeNotices
  refine ⟨fun s e => ⟨State.raise_disabled e, fun he hsome => ?_, fun he hnone => ?_⟩,
    fun s => ⟨State.attemptSend_silent, fun n rest hn he hl hs => ?_, rfl⟩⟩
  · rw [State.raise, if_pos he, if_pos (by simpa using hsome)]
    rfl
  · rw [State.raise, if_pos he, if_neg (by simpa using hnone)]
    rfl
  · have hmay : s.mayNotify = true := by simp [State.mayNotify, he, hl, hs]
    simp only [State.attemptSend, hn, hmay, if_true, State.sendNotice, State.transmit]
    exact if_pos hl

/-! ### The epoch (O43) -/

/-- Settles O43: by the meter's epoch at its code. -/
theorem epochRefillsMeters : Obligations.EpochRefillsMeters := by
  unfold Obligations.EpochRefillsMeters
  refine fun s => ⟨_, rfl, rfl, rfl, fun i => ?_, fun i => ?_⟩
  · simp only [State.meter, Tab.get_each]
    exact ⟨rfl, rfl, rfl, rfl⟩
  · simp only [State.thermalOf, Tab.get_each]
    refine ⟨rfl, rfl, ?_⟩
    rfl

/-! ### Fans (O36 to O38) -/

theorem exec_pwmPeriodStart (s : State) (f : FanId) :
    exec (.pwmPeriodStart f) s = .next (s.updFan f Fan.newPeriod) := rfl

theorem exec_tachEdge (s : State) (f : FanId) (c : Fin 65535) :
    exec (.tachEdge f c) s = .next (s.updFan f (Fan.edge (c.val + 1))) := rfl

theorem exec_overflowTimerExpiry (s : State) (f : FanId) :
    exec (.overflowTimerExpiry f) s = .next (s.updFan f Fan.overflowed) := rfl

theorem Fan.newPeriod_eq (r : Fan) :
    r.newPeriod = if r.pending ≠ none then { r with effective := r.pending.getD 0, pending := none } else r := by
  unfold Fan.newPeriod
  cases h : r.pending <;> simp

/-- Settles O37: by the pending value, the tach state and the overflow timer. -/
theorem pwmAndTachEvents : Obligations.PwmAndTachEvents := by
  unfold Obligations.PwmAndTachEvents
  refine fun s f => ⟨⟨_, exec_pwmPeriodStart s f, rfl, fun g => ?_⟩,
    fun c => ⟨_, exec_tachEdge s f c, rfl, fun g hg => s.updFan_fan_ne _ hg, fun h => ?_, fun h => ?_, fun h => ?_⟩,
    ⟨_, exec_overflowTimerExpiry s f, rfl, fun g => ?_⟩⟩
  · rw [State.updFan_fan, Fan.newPeriod_eq]
    split <;> simp_all
  · simp [Fan.edge, h]
  · simp [Fan.edge, h]
  · simp [Fan.edge, h]
  · rw [State.updFan_fan, Fan.overflowed]
    split <;> simp_all

theorem exec_fanPresenceDeasserted (s : State) (f : FanId) :
    exec (.fanPresenceDeasserted f) s =
      .next (if (s.fan f).present then s.fanPresenceChanged (s.updFan f Fan.remove) f else s) := rfl

theorem exec_fanPresenceAsserted (s : State) (f : FanId) :
    exec (.fanPresenceAsserted f) s =
      .next (if (s.fan f).present then s else s.fanPresenceChanged (s.updFan f Fan.insert) f) := rfl

theorem Fan.remove_eq (r : Fan) :
    r.remove =
      { r with
        present := false, drive := 0, kick := 0, grace := 0, tach := .idle, overflow := false, period := .none,
        low := 0, high := 0, faulted := false, rpm := 0, pending := if r.effective = 0 then none else some 0 } := by
  by_cases h : r.effective = 0 <;> simp [Fan.remove, Fan.load, Fan.stopDrive, h]

/-- Settles O38: by the level the wire had. -/
theorem fanPresenceRecomputes : Obligations.FanPresenceRecomputes := by
  unfold Obligations.FanPresenceRecomputes
  intro s f
  simp only [exec_fanPresenceDeasserted, exec_fanPresenceAsserted]
  refine ⟨fun h => by rw [if_neg (by simp [h])], fun h => by rw [if_pos h], fun h => ?_, fun h => ?_⟩
  · rw [if_pos h]
    exact ⟨s.updFan f Fan.remove, rfl, rfl, fun g => by rw [State.updFan_fan, Fan.remove_eq]⟩
  · rw [if_neg (by simp [h])]
    exact ⟨s.updFan f Fan.insert, rfl, rfl, fun g => s.updFan_fan f _ g⟩

/-- The state s with the zones, the fans and the notice side of t. -/
def State.fanSideOf (s t : State) : State :=
  { s with
    zones := t.zones, fans := t.fans, notices := t.notices, spacing := t.spacing, noticeSeq := t.noticeSeq,
    sent := t.sent }

theorem State.fanSideOf_trans {s t u : State} (h : t = s.fanSideOf t) (k : u = t.fanSideOf u) : u = s.fanSideOf u :=
  calc
    u = t.fanSideOf u := k
    _ = (s.fanSideOf t).fanSideOf u := congrArg (fun x => State.fanSideOf x u) h
    _ = s.fanSideOf u := rfl

theorem foldl_fanSide {α : Type} {f : State → α → State} (h : ∀ s a, f s a = s.fanSideOf (f s a)) (l : List α) :
    ∀ s : State, l.foldl f s = s.fanSideOf (l.foldl f s) := by
  induction l with
  | nil => exact fun _ => rfl
  | cons a l ih => exact fun s => State.fanSideOf_trans (h s a) (ih (f s a))

theorem State.reportFan_fanSide (s : State) (f : FanId) : s.reportFan f = s.fanSideOf (s.reportFan f) := by
  obtain h | h | ⟨e, h⟩ := s.reportFan_cases f <;> rw [h]
  · rfl
  · rfl
  · rw [State.raise_side]
    rfl

theorem State.driveFan_fanSide (s : State) (f : FanId) : s.driveFan f = s.fanSideOf (s.driveFan f) := by
  unfold State.driveFan
  split <;> rfl

theorem State.intervalZone_fanSide (d : Vector Nat 16) (s : State) (z : ZoneId) :
    State.intervalZone d s z = s.fanSideOf (State.intervalZone d s z) := by
  have hreport := foldl_fanSide State.reportFan_fanSide (zoneFans z) s
  have hcommand : ∀ t : State, t.commandZone d z = t.fanSideOf (t.commandZone d z) := fun _ => rfl
  exact State.fanSideOf_trans (State.fanSideOf_trans hreport (hcommand _))
    (foldl_fanSide State.driveFan_fanSide (zoneFans z) _)

theorem State.driveFan_fan_ne (s : State) {f g : FanId} (h : g ≠ f) : (s.driveFan f).fan g = s.fan g := by
  unfold State.driveFan
  split
  · exact s.updFan_fan_ne _ h
  · rfl

/-- The record step 1 leaves of a fan. -/
theorem State.reportFan_fan_self (s : State) (f : FanId) :
    (s.reportFan f).fan f = if (s.fan f).present then (s.fan f).report.check else s.fan f := by
  unfold State.reportFan
  dsimp only
  (repeat' split) <;> simp

/-- The record step 3 leaves of a fan. -/
theorem State.driveFan_fan_self (s : State) (f : FanId) :
    (s.driveFan f).fan f =
      if (s.fan f).present then
        (s.fan f).driveStep
          (baseDrive (s.zone (fanZone f)).command (s.zone (fanZone f)).stopAllowed (s.fan f).minDrive)
      else s.fan f := by
  unfold State.driveFan
  split <;> simp

/-- A fold over the fans changes a fan's record where it comes to the fan. -/
theorem foldl_fan {F : State → FanId → State} (h : ∀ s {f g}, g ≠ f → (F s f).fan g = s.fan g) {l : List FanId}
    (hl : l.Nodup) {g : FanId} (hg : g ∈ l) (s : State) :
    ∃ before : List FanId, (∀ f ∈ before, f ≠ g) ∧ (l.foldl F s).fan g = (F (before.foldl F s) g).fan g := by
  obtain ⟨before, after, rfl⟩ := List.append_of_mem hg
  have hbefore : ∀ f ∈ before, f ≠ g := fun f hf e => (List.nodup_append.1 hl).2.2 f hf g List.mem_cons_self e
  have hafter : g ∉ after := (List.nodup_cons.1 (List.nodup_append.1 hl).2.1).1
  refine ⟨before, hbefore, ?_⟩
  rw [List.foldl_append, List.foldl_cons]
  exact foldl_kept (·.fan g) (fun s f hf => h s (ne_of_mem_of_not_mem hf hafter).symm) _

theorem nodup_zoneFans (z : ZoneId) : (zoneFans z).Nodup := by
  revert z
  decide

theorem mem_zoneFans_fanZone (f : FanId) : f ∈ zoneFans (fanZone f) := by
  revert f
  decide

theorem Fan.check_minDrive (f : Fan) : f.check.minDrive = f.minDrive := by
  unfold Fan.check Fan.passOver Fan.checkFaulted Fan.checkOk
  (repeat' split) <;> rfl

theorem Fan.check_rpm (f : Fan) : f.check.rpm = f.rpm := by
  unfold Fan.check Fan.passOver Fan.checkFaulted Fan.checkOk
  (repeat' split) <;> rfl

theorem Fan.driveStep_rpm (f : Fan) (base : Nat) : (f.driveStep base).rpm = f.rpm := by
  unfold Fan.driveStep Fan.load Fan.applyDrive Fan.start Fan.stopDrive
  dsimp only
  (repeat' split) <;> rfl

/-- The record a zone's interval leaves of a fan: checked in step 1, driven in step 3 at the command of step 2. -/
theorem State.intervalZone_fan (d : Vector Nat 16) (s : State) (f : FanId) :
    (State.intervalZone d s (fanZone f)).fan f =
      if (s.fan f).present then
        (s.fan f).report.check.driveStep
          (baseDrive ((State.intervalZone d s (fanZone f)).zone (fanZone f)).command
            ((State.intervalZone d s (fanZone f)).zone (fanZone f)).stopAllowed (s.fan f).minDrive)
      else s.fan f := by
  let z := fanZone f
  let u := ((zoneFans z).foldl State.reportFan s).commandZone d z
  have hzone : (State.intervalZone d s z).zone z = u.zone z :=
    foldl_kept (·.zone z) (fun s f _ => s.driveFan_zone f z) u
  obtain ⟨l, hl, hreport⟩ := foldl_fan (fun s _ _ h => s.reportFan_fan_ne h) (nodup_zoneFans z) (mem_zoneFans_fanZone f) s
  have hl0 : (l.foldl State.reportFan s).fan f = s.fan f :=
    foldl_kept (·.fan f) (fun s g hg => s.reportFan_fan_ne (hl g hg).symm) s
  have hu : u.fan f = if (s.fan f).present then (s.fan f).report.check else s.fan f :=
    (hreport.trans (State.reportFan_fan_self _ f)).trans (by rw [hl0])
  obtain ⟨m, hm, hdrive⟩ := foldl_fan (fun s _ _ h => s.driveFan_fan_ne h) (nodup_zoneFans z) (mem_zoneFans_fanZone f) u
  have hm0 : (m.foldl State.driveFan u).fan f = u.fan f :=
    foldl_kept (·.fan f) (fun s g hg => s.driveFan_fan_ne (hm g hg).symm) u
  have hmz : (m.foldl State.driveFan u).zone z = u.zone z := foldl_kept (·.zone z) (fun s f _ => s.driveFan_zone f z) u
  have hfan : (State.intervalZone d s z).fan f = _ := hdrive.trans (State.driveFan_fan_self _ f)
  rw [hm0, hmz, hu, ← hzone] at hfan
  have hmin : (s.fan f).report.check.minDrive = (s.fan f).minDrive := Fan.check_minDrive _
  have hpresent : (s.fan f).report.check.present = (s.fan f).present := Fan.check_present _
  refine hfan.trans ?_
  cases hp : (s.fan f).present with
  | true => simp only [if_true, hpresent, hmin, hp, z]
  | false => simp [hp]

theorem State.intervalZone_fan_ne (d : Vector Nat 16) (s : State) {z : ZoneId} {f : FanId} (h : f ∉ zoneFans z) :
    (State.intervalZone d s z).fan f = s.fan f := by
  unfold State.intervalZone
  rw [foldl_kept (·.fan f) fun s g hg => s.driveFan_fan_ne (ne_of_mem_of_not_mem hg h).symm]
  exact foldl_kept (·.fan f) (fun s g hg => s.reportFan_fan_ne (ne_of_mem_of_not_mem hg h).symm) s

/-- The record the control interval leaves of a fan. -/
theorem State.afterInterval_fan (s : State) (f : FanId) :
    s.afterInterval.fan f =
      if (s.fan f).present then
        (s.fan f).report.check.driveStep
          (baseDrive (s.afterInterval.zone (fanZone f)).command (s.afterInterval.zone (fanZone f)).stopAllowed
            (s.fan f).minDrive)
      else s.fan f := by
  obtain ⟨before, after, hsplit⟩ := List.append_of_mem (List.mem_finRange (fanZone f))
  have hnodup : (before ++ fanZone f :: after).Nodup := hsplit ▸ List.nodup_finRange 3
  have hbefore : ∀ y ∈ before, y ≠ fanZone f := fun y hy =>
    (List.nodup_append.1 hnodup).2.2 y hy _ List.mem_cons_self
  have hafter : ∀ y ∈ after, y ≠ fanZone f := fun y hy =>
    ne_of_mem_of_not_mem hy (List.nodup_cons.1 (List.nodup_append.1 hnodup).2.1).1
  have hout : ∀ y, y ≠ fanZone f → f ∉ zoneFans y := fun y hy hf =>
    not_mem_zoneFans_of_ne hy f hf (mem_zoneFans_fanZone f)
  let d := s.demands
  let t := before.foldl (State.intervalZone d) s
  have hfinal : s.afterInterval = after.foldl (State.intervalZone d) (State.intervalZone d t (fanZone f)) := by
    rw [State.afterInterval, hsplit, List.foldl_append, List.foldl_cons]
  have ht : t.fan f = s.fan f :=
    foldl_kept (·.fan f) (fun s y hy => State.intervalZone_fan_ne d s (hout y (hbefore y hy))) s
  have hfan : s.afterInterval.fan f = (State.intervalZone d t (fanZone f)).fan f := hfinal ▸
    foldl_kept (·.fan f) (fun s y hy => State.intervalZone_fan_ne d s (hout y (hafter y hy))) _
  have hzone : s.afterInterval.zone (fanZone f) = (State.intervalZone d t (fanZone f)).zone (fanZone f) := hfinal ▸
    foldl_kept (·.zone (fanZone f)) (fun s y hy => State.intervalZone_zone_ne d s (hafter y hy)) _
  rw [hfan, hzone, State.intervalZone_fan, ht]

theorem Fan.driveStep_start {f : Fan} {base : Nat} (hb : 0 < base) (hd : f.drive = 0) (he : f.effective = 0) :
    f.driveStep base =
      { f with drive := 1000, kick := 1, grace := 4, tach := .armed, overflow := true, effective := 400,
               pending := none } := by
  simp [Fan.driveStep, Nat.pos_iff_ne_zero.1 hb, Fan.start, Fan.applyDrive, Fan.load, hd, he, compareOf]

theorem Fan.checkOk_eq (f : Fan) :
    f.checkOk =
      if f.faultFloor ≤ f.rpm then { f with low := 0 }
      else if 2 ≤ f.low then { f with faulted := true, low := 0, high := 0 }
      else { f with low := f.low + 1 } := by
  have hthird : f.low + 1 < 3 ↔ ¬ 2 ≤ f.low := by omega
  rw [Fan.checkOk]
  simp only [← Nat.not_le (b := f.rpm), hthird, ite_not]

theorem Fan.checkFaulted_eq (f : Fan) :
    f.checkFaulted =
      if f.rpm < f.faultFloor then { f with high := 0 }
      else if 2 ≤ f.high then { f with faulted := false, low := 0, high := 0 }
      else { f with high := f.high + 1 } := by
  have hthird : f.high + 1 < 3 ↔ ¬ 2 ≤ f.high := by omega
  rw [Fan.checkFaulted]
  simp only [← Nat.not_lt (a := f.rpm), hthird, ite_not]

/-- Settles O36: each fan is checked and driven in its own zone's interval, which the other zones' intervals leave. -/
theorem intervalChecksAndDrivesFans : Obligations.IntervalChecksAndDrivesFans := by
  unfold Obligations.IntervalChecksAndDrivesFans
  refine ⟨fun s => ⟨s.afterInterval, exec_controlInterval s,
      foldl_fanSide (State.intervalZone_fanSide s.demands) _ s, fun f => ⟨fun h => ?_, fun h => ?_⟩⟩,
    fun c m b => ?base, fun f base => ?drive, fun f => ?check⟩
  · rw [s.afterInterval_fan, if_neg (by simp [h])]
  · rw [s.afterInterval_fan, if_pos h]
    exact ⟨by rw [Fan.driveStep_rpm, Fan.check_rpm]; rfl, rfl⟩
  case base =>
    unfold baseDrive
    refine ⟨fun h k => by simp [h, k], fun h k => by simp [h, k], fun h k => ?_, fun h k => ?_⟩
    · rw [if_neg (by omega), max_eq_right k]
    · rw [if_neg (by omega), max_eq_left k]
  case drive =>
    refine ⟨Fan.driveStep_start, fun hb hd hk => ?_, fun hb hd hk he => ?_, ?_⟩
    · have hstart : f.start = f := if_neg (by omega)
      have happly : f.applyDrive base = { f with drive := 1000, kick := f.kick - 1 } := if_pos hk
      simp only [Fan.driveStep, if_neg (show ¬ base = 0 by omega), hstart, happly, Fan.load]
      split <;> simp
    · have hstart : f.start = f := if_neg (by omega)
      have happly : f.applyDrive base = { f with drive := base } := if_neg (by omega)
      simp only [Fan.driveStep, if_neg (show ¬ base = 0 by omega), hstart, happly, Fan.load,
        if_neg (show ¬ f.effective = 0 by omega), compareOf]
    · simp only [Fan.driveStep, if_true, Fan.stopDrive, Fan.load]
      split <;> simp_all [compareOf]
  case check =>
    refine ⟨fun hg => ?_, fun hg hd => ?_, fun hg hd hm hf => ?_, fun hg hd hm hf => ?_⟩
    · simp [Fan.check, hg, Fan.passOver]
    · have hpass : (decide (f.drive = 0) || decide (f.drive < f.minDrive)) = true := by simpa using hd
      rw [Fan.check, if_neg (by omega), if_pos hpass]
      rfl
    all_goals
      have hpass : ¬ (decide (f.drive = 0) || decide (f.drive < f.minDrive)) = true := by simp; omega
    · have hok : f.check = f.checkOk := by
        rw [Fan.check, if_neg (by omega), if_neg hpass, if_neg (by simp [hf])]
      rw [hok, f.checkOk_eq]
    · have hfaulted : f.check = f.checkFaulted := by
        rw [Fan.check, if_neg (by omega), if_neg hpass, if_pos hf]
      rw [hfaulted, f.checkFaulted_eq]

end Sys2Proof.Machine

/-! ### Links (O42) -/

namespace Sys2Proof.Machine

theorem Tab.upd_upd {α : Type} {n : Nat} (t : Vector α n) (i : Fin n) (f g : α → α) :
    Tab.upd (Tab.upd t i f) i g = Tab.upd t i fun r => g (f r) :=
  Tab.ext_get fun j => by
    simp only [Tab.get_upd]
    split <;> simp_all

theorem Tab.upd_congr {α : Type} {n : Nat} {t : Vector α n} {i : Fin n} {f g : α → α}
    (h : f (Tab.get t i) = g (Tab.get t i)) : Tab.upd t i f = Tab.upd t i g :=
  Tab.ext_get fun j => by
    simp only [Tab.get_upd]
    split <;> simp_all

theorem State.updUplink_updUplink (s : State) (k : UplinkId) (f g : Uplink → Uplink) :
    (s.updUplink k f).updUplink k g = s.updUplink k fun r => g (f r) := by
  simp only [State.updUplink, Tab.upd_upd]

theorem State.updUplink_congr {s : State} {k : UplinkId} {f g : Uplink → Uplink}
    (h : f (s.uplink k) = g (s.uplink k)) : s.updUplink k f = s.updUplink k g := by
  simp only [State.updUplink, Tab.upd_congr (t := s.uplinks) h]

/-- An uplink's timer stops and its mark becomes b: nothing more where it stood there, the event and the lists where it
changes. -/
theorem State.setUsable_stopped (s : State) (k : UplinkId) (b : Bool) :
    (s.updUplink k fun r => { r with holdDown := none }).setUsable k b =
      if (s.uplink k).usable = b then s.updUplink k fun _ => ⟨none, b⟩
      else ((s.updUplink k fun _ => ⟨none, b⟩).raise (.usableChange k)).recomputeMembers k := by
  have hmark : ((s.updUplink k fun r => { r with holdDown := none }).uplink k).usable = (s.uplink k).usable := by simp
  rw [State.setUsable, hmark, State.updUplink_updUplink]
  split
  · next h => exact State.updUplink_congr (by rw [← h])
  · rfl

theorem exec_linkUp (s : State) (p : PortId) :
    exec (.linkUp p) s = .next (if s.link p then s else s.linkRise p) := rfl

theorem exec_linkDown (s : State) (p : PortId) :
    exec (.linkDown p) s = .next (if s.link p then s.linkFall p else s) := rfl

theorem exec_holdDownExpiry (s : State) (k : UplinkId) :
    exec (.holdDownExpiry k) s =
      .next (if (s.uplink k).holdDown.isSome then
          (s.updUplink k fun r => { r with holdDown := none }).setUsable k true
        else s) := rfl

theorem portUplink_eq_none_iff (p : PortId) : portUplink p = none ↔ ∀ k, uplinkPort k ≠ p := by
  revert p
  decide

/-- The send attempt of a link that comes up (R182). -/
theorem State.linkRise_of_none {s : State} {p : PortId} (h : portUplink p = none) :
    s.linkRise p =
      if s.noticeCfg.egress = p then (s.updLink p fun _ => true).attemptSend else s.updLink p fun _ => true := by
  simp only [State.linkRise, h]
  rfl

theorem State.linkRise_of_some {s : State} {p : PortId} {k : UplinkId} (h : portUplink p = some k) :
    s.linkRise p =
      if s.noticeCfg.egress = p then ((s.updLink p fun _ => true).uplinkUp k).attemptSend
      else (s.updLink p fun _ => true).uplinkUp k := by
  have hcfg : ((s.updLink p fun _ => true).uplinkUp k).noticeCfg = s.noticeCfg :=
    (State.noticeCfg_of_settings (State.uplinkUp_settings (s.updLink p fun _ => true) k)).trans rfl
  simp only [State.linkRise, h, hcfg]

theorem State.uplinkUp_of_out {s : State} {k : UplinkId} (h : s.uplinkInRole k = false) : s.uplinkUp k = s :=
  if_neg (by simp [h])

theorem State.uplinkUp_timed {s : State} {k : UplinkId} (h : s.uplinkInRole k = true) (ht : s.chassis.holdDown ≠ 0) :
    s.uplinkUp k = s.updUplink k fun r => { r with holdDown := s.timer s.chassis.holdDown } := by
  rw [State.uplinkUp, if_pos h, State.startHoldDown, if_neg ht]

theorem State.uplinkUp_untimed {s : State} {k : UplinkId} (h : s.uplinkInRole k = true) (ht : s.chassis.holdDown = 0) :
    s.uplinkUp k =
      if (s.uplink k).usable = true then s.updUplink k fun _ => ⟨none, true⟩
      else ((s.updUplink k fun _ => ⟨none, true⟩).raise (.usableChange k)).recomputeMembers k := by
  rw [State.uplinkUp, if_pos h, State.startHoldDown, if_pos ht, State.setUsable_stopped]

/-- Settles O42: by the port's uplink, its role and the hold-down time. -/
theorem linksDriveUplinks : Obligations.LinksDriveUplinks := by
  unfold Obligations.LinksDriveUplinks
  refine ⟨fun s p => ⟨fun h => by rw [exec_linkUp, if_pos h], fun h => by rw [exec_linkDown, if_neg (by simp [h])],
    fun h => ?rise, fun h => ?fall⟩, fun s k => ⟨fun h => ?_, fun h hu => ?_⟩, fun s k g => ?members⟩
  case rise =>
    have hexec : exec (.linkUp p) s = .next (s.linkRise p) := by rw [exec_linkUp, if_neg (by simp [h])]
    simp only [hexec]
    cases hp : portUplink p with
    | none =>
      have hne := (portUplink_eq_none_iff p).1 hp
      exact ⟨s.updLink p fun _ => true, rfl, fun q => s.updLink_link p _ q,
        fun _ => ⟨by rw [State.linkRise_of_none hp], rfl⟩, fun k hk => absurd hk (hne k), fun k hk => absurd hk (hne k)⟩
    | some k =>
      have hk := (portUplink_eq_some_iff p k).1 hp
      have honly : ∀ j, uplinkPort j = p → j = k := fun j hj => uplinkPort_injective (hj.trans hk.symm)
      rw [State.linkRise_of_some hp]
      cases hr : s.uplinkInRole k with
      | false =>
        rw [State.uplinkUp_of_out (s := s.updLink p fun _ => true) hr]
        refine ⟨s.updLink p fun _ => true, rfl, fun q => s.updLink_link p _ q, fun _ => ⟨rfl, rfl⟩, fun j hj hin => ?_,
          fun j hj hin => ?_⟩
        all_goals rw [honly j hj, hr] at hin; cases hin
      | true =>
        have hin : ¬ ∀ j, uplinkPort j = p → s.uplinkInRole j = false := fun hout => by
          rw [hout k hk] at hr
          cases hr
        by_cases ht : s.chassis.holdDown = 0
        · have hup := State.uplinkUp_untimed (s := s.updLink p fun _ => true) hr ht
          rw [State.updLink_uplink] at hup
          refine ⟨(s.updLink p fun _ => true).updUplink k fun _ => ⟨none, true⟩, rfl,
            fun q => s.updLink_link p _ q, fun hout => absurd hout hin, fun j _ _ hne => absurd ht hne,
            fun j hj _ _ => ?_⟩
          obtain rfl := honly j hj
          refine ⟨fun i => ?_, fun hu => ?_, fun hu => ?_⟩
          · rw [State.updUplink_uplink]
            rfl
          · rw [hup, if_neg (show ¬ (s.uplink j).usable = true by simp [hu])]
          · rw [hup, if_pos hu]
        · rw [State.uplinkUp_timed (s := s.updLink p fun _ => true) hr ht]
          refine ⟨(s.updLink p fun _ => true).updUplink k fun r => { r with holdDown := s.timer s.chassis.holdDown }, rfl,
            fun q => s.updLink_link p _ q, fun hout => absurd hout hin, fun j hj _ _ => ⟨rfl, fun i => ?_⟩,
            fun j _ _ hz => absurd hz ht⟩
          obtain rfl := honly j hj
          rw [State.updUplink_uplink]
          rfl
  case fall =>
    have hexec : exec (.linkDown p) s = .next (s.linkFall p) := by rw [exec_linkDown, if_pos h]
    simp only [hexec]
    cases hp : portUplink p with
    | none =>
      have hne := (portUplink_eq_none_iff p).1 hp
      exact ⟨s.updLink p fun _ => false, rfl, fun q => s.updLink_link p _ q,
        fun _ => ⟨by simp only [State.linkFall, hp], rfl⟩, fun k hk => absurd hk (hne k)⟩
    | some k =>
      have hk := (portUplink_eq_some_iff p k).1 hp
      have hfall : s.linkFall p = (s.updLink p fun _ => false).dropUplink k := by simp only [State.linkFall, hp]
      refine ⟨(s.updLink p fun _ => false).updUplink k fun _ => ⟨none, false⟩, rfl, fun q => s.updLink_link p _ q,
        fun hne => absurd hk (hne k), fun j hj => ?_⟩
      obtain rfl : j = k := uplinkPort_injective (hj.trans hk.symm)
      rw [hfall, State.dropUplink, State.setUsable_stopped]
      refine ⟨fun i => ?_, fun hu => ?_, fun hu => ?_⟩
      · rw [State.updUplink_uplink]
        rfl
      · rw [if_pos (by simpa using hu)]
      · rw [if_neg (by simp [hu])]
  · rw [exec_holdDownExpiry, h]
    rfl
  · refine ⟨s.updUplink k fun _ => ⟨none, true⟩, ?_, rfl, fun j => s.updUplink_uplink k _ j⟩
    rw [exec_holdDownExpiry, if_pos (Option.isSome_iff_ne_none.2 h), State.setUsable_stopped, if_neg (by simp [hu])]
  case members =>
    have hgroup := (s.recomputeMembers_spec k).2 g
    refine ⟨?_, fun hk => ?_, fun hk => ?_⟩
    · rw [hgroup]
      split <;> rfl
    · rw [hgroup, if_pos hk]
      rfl
    · rw [hgroup, if_neg hk]

end Sys2Proof.Machine

/-!
### What the arbiter leaves of a slot that has no BOOT entry, and of the state

The arbiter serves entries from the head. A slot without a BOOT entry keeps its records but for a renumbered admission
sequence, its power-cap line, and, where it has an UPGRADE entry, its grant.
-/

namespace Sys2Proof.Machine

/-- An arbiter's run relates its states by what relates each service and each stop. -/
theorem arbiterLoop_induct {P : State → Prop} {R : State → State → Prop} (hrefl : ∀ s, R s s)
    (htrans : ∀ s t u, R s t → R t u → R s u)
    (hserve : ∀ s e rest, P s → s.powerQueue = e :: rest → R s (s.serve e) ∧ P (s.serve e))
    (hstop : ∀ s e rest, P s → s.powerQueue = e :: rest → R s (s.stopAt e)) (n : Nat) :
    ∀ s, P s → R s (arbiterLoop n s) := by
  induction n with
  | zero => exact fun s _ => hrefl s
  | succ n ih =>
    intro s hs
    unfold arbiterLoop
    split
    · exact hrefl s
    · next e rest hq =>
      split
      · obtain ⟨hr, hp⟩ := hserve s e rest hs hq
        exact htrans _ _ _ hr (ih _ hp)
      · exact hstop s e rest hs hq

theorem State.arbiter_induct {P : State → Prop} {R : State → State → Prop} (hrefl : ∀ s, R s s)
    (htrans : ∀ s t u, R s t → R t u → R s u)
    (hserve : ∀ s e rest, P s → s.powerQueue = e :: rest → R s (s.serve e) ∧ P (s.serve e))
    (hstop : ∀ s e rest, P s → s.powerQueue = e :: rest → R s (s.stopAt e)) {s : State} (hs : P s) : R s s.arbiter := by
  unfold State.arbiter
  split
  · exact hrefl s
  · exact arbiterLoop_induct hrefl htrans hserve hstop _ s hs

/-! ### The state around the slots -/

/-- The state s with the parts of t that the arbiter may change. -/
def State.arbiterSideOf (s t : State) : State :=
  { s with
    slots := t.slots, rails := t.rails, contexts := t.contexts, grants := t.grants, powerQueue := t.powerQueue,
    admissionCounter := t.admissionCounter, meters := t.meters, notices := t.notices, spacing := t.spacing,
    noticeSeq := t.noticeSeq, sent := t.sent }

theorem State.arbiterSideOf_trans {s t u : State} (h : t = s.arbiterSideOf t) (k : u = t.arbiterSideOf u) :
    u = s.arbiterSideOf u :=
  calc
    u = t.arbiterSideOf u := k
    _ = (s.arbiterSideOf t).arbiterSideOf u := congrArg (fun x => State.arbiterSideOf x u) h
    _ = s.arbiterSideOf u := rfl

theorem State.takeReports_arbiterSide (i : SlotId) (l : List RailReport) :
    ∀ s : State, s.takeReports i l = s.arbiterSideOf (s.takeReports i l) := by
  induction l with
  | nil => exact fun _ => rfl
  | cons r l ih =>
    intro s
    refine State.arbiterSideOf_trans (t := s.takeReport i r) ?_ (ih _)
    unfold State.takeReport
    (repeat' split) <;> rfl

theorem State.remark_arbiterSide (s : State) (i : SlotId) : s.remark i = s.arbiterSideOf (s.remark i) := by
  rw [State.remark_frame]
  rfl

theorem State.raise_arbiterSide (s : State) (e : Event) : s.raise e = s.arbiterSideOf (s.raise e) := by
  rw [State.raise_side]
  rfl

theorem State.startRamp_arbiterSide (s : State) (i : SlotId) : s.startRamp i = s.arbiterSideOf (s.startRamp i) := by
  unfold State.startRamp
  dsimp only
  refine State.arbiterSideOf_trans ?_ (State.raise_arbiterSide _ _)
  exact State.arbiterSideOf_trans (t := (s.setRail i _).setSlotState i .ramping) rfl (State.takeReports_arbiterSide i _ _)

theorem State.admitBoot_arbiterSide (s : State) (i : SlotId) : s.admitBoot i = s.arbiterSideOf (s.admitBoot i) := by
  unfold State.admitBoot
  refine State.arbiterSideOf_trans (State.arbiterSideOf_trans ?_ (State.remark_arbiterSide _ _))
    (State.startRamp_arbiterSide _ _)
  rw [State.numberAdmission_frame]
  rfl

theorem State.serve_arbiterSide (s : State) (e : PowerEntry) : s.serve e = s.arbiterSideOf (s.serve e) := by
  unfold State.serve
  split
  · exact State.admitBoot_arbiterSide _ _
  · exact State.arbiterSideOf_trans rfl (State.remark_arbiterSide _ _)

theorem State.stopAt_arbiterSide (s : State) (e : PowerEntry) : s.stopAt e = s.arbiterSideOf (s.stopAt e) := by
  unfold State.stopAt
  split
  · rfl
  · unfold State.partialStep
    split
    · exact State.arbiterSideOf_trans rfl (State.remark_arbiterSide _ _)
    · rfl

/-- What the arbiter changes at most. -/
theorem State.arbiter_side (s : State) : s.arbiter = s.arbiterSideOf s.arbiter :=
  State.arbiter_induct (P := fun _ => True) (R := fun s t => t = s.arbiterSideOf t) (fun _ => rfl)
    (fun _ _ _ => State.arbiterSideOf_trans) (fun s e _ _ _ => ⟨s.serve_arbiterSide e, trivial⟩)
    (fun s e _ _ _ => s.stopAt_arbiterSide e) trivial

/-! ### A slot without a BOOT entry -/

/-- From s to t slot i has been passed by: its slot record stands but for the admission sequence, its rail record but for
the power-cap line, and, without an UPGRADE entry, its grant record but for the admission sequence. -/
structure State.Passes (i : SlotId) (s t : State) : Prop where
  slot : ∃ a, t.slot i = { s.slot i with admission := a }
  rail : ∃ b, t.rail i = { s.rail i with powerCap := b }
  context : t.context i = s.context i
  entries : ∀ k, s.hasEntry i k = false → t.hasEntry i k = false
  grant : s.hasEntry i .upgrade = false → ∃ a, t.grantOf i = { s.grantOf i with admission := a }

namespace State.Passes

variable {i : SlotId} {s t u : State}

theorem refl (i : SlotId) (s : State) : State.Passes i s s :=
  ⟨⟨(s.slot i).admission, rfl⟩, ⟨(s.rail i).powerCap, rfl⟩, rfl, fun _ h => h, fun _ => ⟨(s.grantOf i).admission, rfl⟩⟩

theorem trans (h : State.Passes i s t) (k : State.Passes i t u) : State.Passes i s u := by
  obtain ⟨a, ha⟩ := h.slot
  obtain ⟨b, hb⟩ := k.slot
  obtain ⟨c, hc⟩ := h.rail
  obtain ⟨d, hd⟩ := k.rail
  refine ⟨⟨b, by rw [hb, ha]⟩, ⟨d, by rw [hd, hc]⟩, k.context.trans h.context, fun _ hk => k.entries _ (h.entries _ hk),
    fun hu => ?_⟩
  obtain ⟨e, he⟩ := h.grant hu
  obtain ⟨f, hf⟩ := k.grant (h.entries _ hu)
  exact ⟨f, by rw [hf, he]⟩

/-- Where the records of the slot and the queue are the same, nothing has touched it. -/
theorem untouched (hslot : t.slot i = s.slot i) (hrail : t.rail i = s.rail i) (hcontext : t.context i = s.context i)
    (hqueue : t.powerQueue = s.powerQueue) (hgrant : t.grantOf i = s.grantOf i) : State.Passes i s t :=
  ⟨⟨_, hslot⟩, ⟨_, hrail⟩, hcontext, fun k h => by rwa [State.hasEntry, hqueue], fun _ => ⟨_, hgrant⟩⟩

theorem remark (s : State) {i j : SlotId} (h : i ≠ j) : State.Passes i s (s.remark j) :=
  untouched (by rw [State.remark_frame]; rfl) (s.remark_rail_ne h) (by rw [State.remark_frame]; rfl)
    (State.remark_powerQueue _ _) (by rw [State.remark_grantOf, if_neg h])

theorem dequeue (s : State) (i j : SlotId) (k : EntryKind) : State.Passes i s (s.dequeue j k) :=
  ⟨⟨_, rfl⟩, ⟨_, rfl⟩, rfl, fun l h => by rw [State.dequeue_hasEntry, h]; rfl, fun _ => ⟨_, rfl⟩⟩

theorem updGrant (s : State) {i j : SlotId} (h : i ≠ j) (f : Grant → Grant) : State.Passes i s (s.updGrant j f) :=
  untouched rfl rfl rfl rfl (s.updGrant_grantOf_ne f h)

theorem numberAdmission (s : State) (i j : SlotId) : State.Passes i s (s.numberAdmission j) := by
  have hframe := s.numberAdmission_frame j
  refine ⟨s.numberAdmission_slot j i, ⟨(s.rail i).powerCap, ?_⟩, ?_, fun k h => ?_, fun _ => s.numberAdmission_grantOf j i⟩
  · rw [hframe]; rfl
  · rw [hframe]; rfl
  · rw [State.hasEntry, State.numberAdmission_powerQueue]
    exact h

theorem raise (s : State) (i : SlotId) (e : Event) : State.Passes i s (s.raise e) :=
  untouched (by simp) (by simp) (by simp) (by simp) (by simp)

theorem takeReports {i j : SlotId} (h : i ≠ j) (l : List RailReport) : ∀ s : State,
    State.Passes i s (s.takeReports j l) := by
  induction l with
  | nil => exact fun s => .refl i s
  | cons r l ih =>
    intro s
    refine trans (t := s.takeReport j r) ?_ (ih _)
    have hstate : ∀ (s : State) (st : SlotState), State.Passes i s (s.setSlotState j st) := fun s st =>
      untouched (s.updSlot_slot_ne _ h) rfl rfl rfl rfl
    have hwindow : ∀ s : State, State.Passes i s (s.openWindow j) := fun s =>
      untouched rfl rfl (s.updContext_context_ne _ h) rfl rfl
    cases r with
    | powerGoodSeen =>
      simp only [State.takeReport]
      split
      · exact hstate s _
      · exact refl i s
    | resetReleased =>
      simp only [State.takeReport]
      split
      · exact trans (hstate s _) (hwindow _)
      · exact refl i s
    | powerGoodTimeout => exact refl i s
    | powerLost => exact refl i s
    | rampDownComplete => exact refl i s

theorem startRamp (s : State) {i j : SlotId} (h : i ≠ j) : State.Passes i s (s.startRamp j) := by
  unfold State.startRamp
  dsimp only
  refine trans (trans (t := (s.setRail j _).setSlotState j .ramping) ?_ (takeReports h _ _)) (raise _ _ _)
  exact untouched (s.updSlot_slot_ne _ h) (s.updRail_rail_ne _ h) rfl rfl rfl

theorem admitBoot (s : State) {i j : SlotId} (h : i ≠ j) : State.Passes i s (s.admitBoot j) := by
  unfold State.admitBoot
  exact trans (trans (trans (trans (updGrant s h _) (numberAdmission _ _ _)) (dequeue _ _ _ _)) (remark _ h))
    (startRamp _ h)

/-- A grant changes in the slot's own record, which its UPGRADE entry asks for. -/
theorem of_upgrade (hu : s.hasEntry i .upgrade = true) (f : Grant → Grant) : State.Passes i s ((s.updGrant i f).remark i) := by
  have hframe := (s.updGrant i f).remark_frame i
  refine ⟨⟨(s.slot i).admission, ?_⟩, (s.updGrant i f).remark_rail i i, ?_, fun k hk => ?_, fun hn => ?_⟩
  · rw [hframe]; rfl
  · rw [hframe]; rfl
  · rw [State.hasEntry, State.remark_powerQueue]
    exact hk
  · rw [hu] at hn
    cases hn

theorem upgrade (s : State) (i j : SlotId) (h : s.hasEntry j .upgrade = true) : State.Passes i s (s.upgrade j) := by
  unfold State.upgrade
  by_cases e : i = j
  · subst e
    let f : Grant → Grant := fun g => { g with grant := g.target, budgetCapped := false }
    have hframe := ((s.updGrant i f).dequeue i .upgrade).remark_frame i
    refine ⟨⟨(s.slot i).admission, ?_⟩, ((s.updGrant i f).dequeue i .upgrade).remark_rail i i, ?_, fun k hk => ?_,
      fun hn => ?_⟩
    · rw [hframe]; rfl
    · rw [hframe]; rfl
    · rw [State.hasEntry, State.remark_powerQueue]
      exact (dequeue (s.updGrant i f) i i .upgrade).entries k hk
    · rw [h] at hn
      cases hn
  · exact trans (trans (updGrant s e _) (dequeue _ _ _ _)) (remark _ e)

theorem partialStep (s : State) (i j : SlotId) (h : s.hasEntry j .upgrade = true) :
    State.Passes i s (s.partialStep j) := by
  unfold State.partialStep
  split
  · by_cases e : i = j
    · subst e
      exact of_upgrade h _
    · exact trans (updGrant s e _) (remark _ e)
  · exact refl i s

end State.Passes

theorem State.hasEntry_of_head {s : State} {e : PowerEntry} {rest : List PowerEntry} (h : s.powerQueue = e :: rest) :
    s.hasEntry e.slot e.kind = true := (s.hasEntry_iff _ _).2 ⟨e, by simp [h], rfl, rfl⟩

/-- The arbiter passes by a slot that has no BOOT entry. -/
theorem State.arbiter_passes {s : State} {i : SlotId} (h : s.hasEntry i .boot = false) :
    State.Passes i s s.arbiter := by
  refine State.arbiter_induct (P := fun s => s.hasEntry i .boot = false) (State.Passes.refl i)
    (fun _ _ _ => State.Passes.trans) (fun s e rest hs hq => ?_) (fun s e rest hs hq => ?_) h
  · have hserve : State.Passes i s (s.serve e) := by
      have hentry := State.hasEntry_of_head hq
      unfold State.serve
      cases hk : e.kind with
      | boot =>
        refine State.Passes.admitBoot s fun hi => ?_
        rw [hk, ← hi, hs] at hentry
        cases hentry
      | upgrade => exact State.Passes.upgrade s i e.slot (hk ▸ hentry)
    exact ⟨hserve, hserve.entries _ hs⟩
  · have hentry := State.hasEntry_of_head hq
    unfold State.stopAt
    cases hk : e.kind with
    | boot => exact .refl i s
    | upgrade => exact State.Passes.partialStep s i e.slot (hk ▸ hentry)

end Sys2Proof.Machine

/-! ### Commands at the head of the service input queue (O47 to O52) -/

namespace Sys2Proof.Machine

/-! ### The head's command -/

theorem State.onHead_of_headIs {s : State} {row : RequestRow} {r : Request} {rest : List Request}
    (h : s.headIs row r rest) (act : State → Request → State) : s.onHead row act = act s r := by
  rw [State.onHead, s.headFor_eq row r rest h]

/-- A command that fails a check is answered with the check's status. -/
theorem State.executeSlot_refused {s : State} {r : Request} {rest : List Request} {st : Status}
    (hs : s.requests = r :: rest) (hc : s.checkRequest r = some st) (act : State → SlotId → State × Status) :
    s.executeSlot r act = State.begin (s.answered r rest st []) := by
  rw [State.executeSlot, hc]
  exact s.complete_eq r rest st [] hs

/-- A command that passes is answered with its owner's status. -/
theorem State.executeSlot_passed {s : State} {r : Request} {rest : List Request}
    (hs : s.requests = r :: rest) (hc : s.checkRequest r = none) {act : State → SlotId → State × Status} {t : State}
    {st : Status} (hact : act s (commandSlot r) = (t, st)) (ht : t.settings = s.settings) :
    s.executeSlot r act = State.begin (t.answered r rest st []) := by
  have hq : act s (Fin.ofNat 16 (nat8At r.payload 2)) = (t, st) := hact
  simp only [State.executeSlot, hc, hq]
  exact t.complete_eq r rest st [] ((State.requests_of_settings ht).trans hs)

theorem State.authorised_iff (s : State) (r : Request) (op : Operation) :
    s.authorised r op = true ↔
      (s.identity r.identity).enabled = true ∧ (s.identity r.identity).addr = r.sentTo ∧
      (s.identity r.identity).ports.getLsbD r.port.val = true ∧
      (op = .read ∨ (s.identity r.identity).access = .control) := by
  simp [State.authorised, and_assoc]

/-- The checks of a COMMAND of a known code, in their order (R171). -/
theorem State.checkRequest_command (s : State) {r : Request} {c : CommandCode}
    (h : requestRow r.payload = .command c) :
    s.checkRequest r =
      if r.payload.length < 5 then some .badLength
      else if !s.authorised r .command then some .denied
      else if nat16At r.payload 3 ≠ 0 then some .badValue
      else if c ≠ .controllerReset ∧ ¬ nat8At r.payload 2 < 16 then some .badIndex
      else none := by
  obtain ⟨hop, hlen, hcode⟩ := operationOf_of_command h
  have hne : r.payload ≠ [] := fun e => by simp [e] at hlen
  simp only [State.checkRequest, if_neg hne, hop, Operation.fixedBytes, checkCommand, hcode]

/-- The seven rows act on the head of their own row. -/
theorem exec_command_refused {c : CommandCode} {i : Instr}
    (hp : (c, i) ∈ ([(.powerOn, .powerOn), (.powerOff, .powerOff), (.release, .release), (.reset, .reset),
      (.refresh, .refresh), (.clearFault, .clearFault), (.controllerReset, .controllerReset)] :
        List (CommandCode × Instr)))
    {s : State} {r : Request} {rest : List Request} {st : Status} (h : s.headIs (.command c) r rest)
    (hc : s.checkRequest r = some st) : exec i s = .next (State.begin (s.answered r rest st [])) := by
  have hslot : ∀ act, (s.onHead (.command c) fun s r => s.executeSlot r act) = State.begin (s.answered r rest st []) :=
    fun act => (State.onHead_of_headIs h _).trans (State.executeSlot_refused h.1 hc act)
  have hreset : s.onHead (.command c) State.executeReset = State.begin (s.answered r rest st []) := by
    rw [State.onHead_of_headIs h, State.executeReset, hc]
    exact s.complete_eq r rest st [] h.1
  simp only [List.mem_cons, Prod.mk.injEq, List.not_mem_nil, or_false] at hp
  obtain ⟨rfl, rfl⟩ | ⟨rfl, rfl⟩ | ⟨rfl, rfl⟩ | ⟨rfl, rfl⟩ | ⟨rfl, rfl⟩ | ⟨rfl, rfl⟩ | ⟨rfl, rfl⟩ := hp
  · exact congrArg Host.Outcome.next (hslot State.commandPowerOn)
  · exact congrArg Host.Outcome.next (hslot State.commandPowerOff)
  · exact congrArg Host.Outcome.next (hslot State.commandRelease)
  · exact congrArg Host.Outcome.next (hslot State.commandReset)
  · exact congrArg Host.Outcome.next (hslot State.commandRefresh)
  · exact congrArg Host.Outcome.next (hslot State.commandClearFault)
  · exact congrArg Host.Outcome.next hreset

/-- Settles O47: by the tests of R171 in their order. -/
theorem commandChecksRunInOrder : Obligations.CommandChecksRunInOrder := by
  unfold Obligations.CommandChecksRunInOrder
  refine ⟨State.authorised_iff, fun p hp s r rest h => ⟨fun st => exec_command_refused hp h, ?_⟩⟩
  rw [s.checkRequest_command h.2.2]
  refine ⟨fun hl => if_pos hl, fun hl ha => ?_, fun hl ha hn => ?_, fun hl ha hz hc hi => ?_, fun hl ha hz hc => ?_⟩
  all_goals rw [if_neg (by omega)]
  · rw [if_pos (by simp [ha])]
  · rw [if_neg (by simp [ha]), if_pos hn]
  · rw [if_neg (by simp [ha]), if_neg (by simpa using hz), if_pos ⟨hc, by omega⟩]
  · rw [if_neg (by simp [ha]), if_neg (by simpa using hz), if_neg]
    rintro ⟨hne, hge⟩
    exact hc.elim hne hge

/-! ### The commands of a slot -/

section
variable {s : State} {r : Request} {rest : List Request} {t : State} {st : Status}

theorem exec_powerOn (h : s.headIs (.command .powerOn) r rest) (hc : s.checkRequest r = none)
    (hact : s.commandPowerOn (commandSlot r) = (t, st)) :
    exec .powerOn s = .next (State.begin (t.answered r rest st [])) :=
  congrArg Host.Outcome.next ((State.onHead_of_headIs h _).trans
    (State.executeSlot_passed h.1 hc hact (by simpa [hact] using s.commandPowerOn_settings (commandSlot r))))

theorem exec_powerOff (h : s.headIs (.command .powerOff) r rest) (hc : s.checkRequest r = none)
    (hact : s.commandPowerOff (commandSlot r) = (t, st)) :
    exec .powerOff s = .next (State.begin (t.answered r rest st [])) :=
  congrArg Host.Outcome.next ((State.onHead_of_headIs h _).trans
    (State.executeSlot_passed h.1 hc hact (by simpa [hact] using s.commandPowerOff_settings (commandSlot r))))

theorem exec_release (h : s.headIs (.command .release) r rest) (hc : s.checkRequest r = none)
    (hact : s.commandRelease (commandSlot r) = (t, st)) :
    exec .release s = .next (State.begin (t.answered r rest st [])) :=
  congrArg Host.Outcome.next ((State.onHead_of_headIs h _).trans
    (State.executeSlot_passed h.1 hc hact (by simpa [hact] using s.commandRelease_settings (commandSlot r))))

theorem exec_reset (h : s.headIs (.command .reset) r rest) (hc : s.checkRequest r = none)
    (hact : s.commandReset (commandSlot r) = (t, st)) :
    exec .reset s = .next (State.begin (t.answered r rest st [])) :=
  congrArg Host.Outcome.next ((State.onHead_of_headIs h _).trans
    (State.executeSlot_passed h.1 hc hact (by simpa [hact] using s.commandReset_settings (commandSlot r))))

theorem exec_clearFault (h : s.headIs (.command .clearFault) r rest) (hc : s.checkRequest r = none)
    (hact : s.commandClearFault (commandSlot r) = (t, st)) :
    exec .clearFault s = .next (State.begin (t.answered r rest st [])) :=
  congrArg Host.Outcome.next ((State.onHead_of_headIs h _).trans
    (State.executeSlot_passed h.1 hc hact (by simpa [hact] using s.commandClearFault_settings (commandSlot r))))

theorem State.commandRefresh_settings (s : State) (i : SlotId) : (s.commandRefresh i).1.settings = s.settings := by
  unfold State.commandRefresh
  (repeat' split) <;> simp

theorem exec_refresh (h : s.headIs (.command .refresh) r rest) (hc : s.checkRequest r = none)
    (hact : s.commandRefresh (commandSlot r) = (t, st)) :
    exec .refresh s = .next (State.begin (t.answered r rest st [])) :=
  congrArg Host.Outcome.next ((State.onHead_of_headIs h _).trans
    (State.executeSlot_passed h.1 hc hact (by simpa [hact] using s.commandRefresh_settings (commandSlot r))))

end

/-- Settles O48: by the slot's state, and by hold_power. -/
theorem powerOnAndReleaseTakePath : Obligations.PowerOnAndReleaseTakePath := by
  unfold Obligations.PowerOnAndReleaseTakePath
  refine ⟨fun s r rest hc => ⟨fun h => ?on, fun h => ?release⟩, fun s i => ⟨State.powerUpPath_request, fun hh => ?held⟩⟩
  case on =>
    refine ⟨s.updSlot (commandSlot r) Slot.clearFault, rfl, fun j => ?_, fun hst => ?_, fun hst => ?_, fun hst => ?_,
      fun hst => ?_⟩
    · rw [State.updSlot_slot]
      split
      · next e => rw [e]; rfl
      · rfl
    · exact exec_powerOn h hc (by simp only [State.commandPowerOn, hst])
    · exact exec_powerOn h hc (by simp only [State.commandPowerOn, hst])
    · exact exec_powerOn h hc (by simp only [State.commandPowerOn, hst])
    · refine exec_powerOn h hc ?_
      unfold State.commandPowerOn
      split <;> simp_all
  case release =>
    refine ⟨s.updSlot (commandSlot r) Slot.stopHold, rfl, fun j => ?_, fun hst => ?_, fun hst => ?_, fun hst => ?_⟩
    · rw [State.updSlot_slot]
      split
      · next e => rw [e]; rfl
      · rfl
    · exact exec_release h hc (by simp [State.commandRelease, State.releaseHeld, hst])
    · exact exec_release h hc (by simp [State.commandRelease, State.releaseHeld, hst])
    · exact exec_release h hc (by rw [State.commandRelease, if_neg (by simpa using hst)])
  case held =>
    refine ⟨s.updSlot i fun v => { v with hold := s.holdTimer i, state := .heldPower }, ?_, rfl,
      fun j => by rw [State.updSlot_slot]; rfl⟩
    rw [State.powerUpPath_held hh, State.enterHeld_eq]

theorem State.withdraw_of_entry {s : State} {i : SlotId} {k : EntryKind} (h : s.hasEntry i k = true) :
    s.withdraw i k = (s.dequeue i k).arbiter := if_pos h

theorem State.withdraw_of_none {s : State} {i : SlotId} {k : EntryKind} (h : s.hasEntry i k = false) :
    s.withdraw i k = s := if_neg (by simp [h])

/-- Settles O49: by the slot's state. -/
theorem powerOffAndClearFault : Obligations.PowerOffAndClearFault := by
  unfold Obligations.PowerOffAndClearFault
  intro s r rest hc
  refine ⟨fun h => ⟨fun hst => ?_, fun hst => ?_, fun hst hb => ?_, fun hst => ?_, fun hst => ?_⟩,
    fun h => ⟨fun hst => ?_, fun hst => ?_⟩⟩
  · refine exec_powerOff h hc ?_
    unfold State.commandPowerOff
    cases hk : (s.slot (commandSlot r)).state <;> simp [hk, SlotState.drainable] at hst <;> rfl
  · refine ⟨s.updSlot (commandSlot r) fun v => { v.stopHold with state := .present }, rfl, fun j => ?_,
      exec_powerOff h hc ?_⟩
    · rw [State.updSlot_slot]
      split
      · next e => rw [e]; rfl
      · rfl
    · simp only [State.commandPowerOff, hst, State.enter_updSlot]
  · refine ⟨s.dequeue (commandSlot r) .boot,
      (s.dequeue (commandSlot r) .boot).arbiter.updSlot (commandSlot r) fun v => { v with state := .present }, rfl, rfl,
      fun j => ?_, exec_powerOff h hc ?_⟩
    · rw [State.updSlot_slot]
      split
      · next e => rw [e]
      · rfl
    · simp only [State.commandPowerOff, hst, State.withdraw_of_entry hb]
      rfl
  · exact exec_powerOff h hc (by simp only [State.commandPowerOff, hst])
  · refine exec_powerOff h hc ?_
    unfold State.commandPowerOff
    split <;> simp_all
  · refine ⟨s.updSlot (commandSlot r) fun v => { v.clearFault with state := .present }, rfl, fun j => ?_,
      exec_clearFault h hc ?_⟩
    · rw [State.updSlot_slot]
      split
      · next e => rw [e]; rfl
      · rfl
    · rw [State.commandClearFault, if_pos hst, State.enter_updSlot]
  · exact exec_clearFault h hc (if_neg hst)

/-- The context that a refresh opens (R65). -/
theorem State.startRefresh_context (s : State) (i j : SlotId) :
    (s.startRefresh i).context j =
      if j = i then
        { mode := .refresh, expected := 0, declaredLength := none, declaredCount := none, assembly := [],
          rejects := 0, extensions := 0, pending := some ⟨.first, s.clock + s.chassis.queryWait⟩,
          whole := some (s.clock + max s.chassis.wholeTimeout s.chassis.queryWait),
          replyAddr := s.firstInstalled i, replySeq := 0 }
      else s.context j := by
  simp only [State.startRefresh, State.updContext_context, State.transmit_context]
  rfl

theorem State.startRefresh_frame (s : State) (i : SlotId) :
    s.startRefresh i = { s with contexts := (s.startRefresh i).contexts, sent := (s.startRefresh i).sent } := by
  simp only [State.startRefresh, State.transmit_frame]
  rfl

theorem State.startRefresh_sent (s : State) (i : SlotId) :
    (s.startRefresh i).sent =
      if s.link (slotPort i) then
        s.sent ++ [⟨slotPort i, .query,
          s.serviceFrame ((s.firstInstalled i).getD (BitVec.allOnes 48)) kindQuery (s.inv i).generation []⟩]
      else s.sent := by
  simp only [State.startRefresh, State.transmit_frame]
  rfl

/-- Settles O51: by the slot's state and the context's mode. -/
theorem refreshQueriesBlade : Obligations.RefreshQueriesBlade := by
  unfold Obligations.RefreshQueriesBlade
  intro s r rest hc h
  refine ⟨fun hst => exec_refresh h hc (if_neg hst), fun hst hm => exec_refresh h hc ?_, fun hst hm => ?_⟩
  · simp only [State.commandRefresh, if_pos hst, hm]
  · refine ⟨s.startRefresh (commandSlot r), exec_refresh h hc ?_, s.startRefresh_frame _, s.startRefresh_sent _,
      fun j => ?_⟩
    · simp only [State.commandRefresh, if_pos hst, hm]
    · rw [State.startRefresh_context]

/-! ### RESET -/

/-- A RESET_PULSE makes no report, the reset hold not being 0. -/
theorem Rail.resetPulse_silent {v : RailEnv} (r : Rail) (h : v.chassis.resetHold ≠ 0) : (r.resetPulse v).2 = [] := by
  unfold Rail.resetPulse Rail.startResetHold
  rw [if_neg h]
  split <;> rfl

theorem Rail.resetPulse_started {v : RailEnv} {r : Rail} (h : v.chassis.resetHold ≠ 0) (hop : r.op = .none)
    (hmain : r.mainEnable = true) (hseen : r.seen = true) :
    (r.resetPulse v).1 =
      { r with op := .resetPulse, stage := .resetting, bladeReset := true,
               resetTimer := v.timer v.chassis.resetHold } := by
  simp [Rail.resetPulse, Rail.startResetHold, h, hop, hmain, hseen]

/-- The exit from ONLINE leaves the queue and the grants. -/
theorem State.exitOnline_frame (s : State) (i : SlotId) :
    s.exitOnline i = { s with contexts := (s.exitOnline i).contexts, thermal := (s.exitOnline i).thermal } := by
  unfold State.exitOnline State.thermalExit
  split <;> rfl

theorem State.exitOnline_context (s : State) (i j : SlotId) :
    (s.exitOnline i).context j =
      if j = i ∧ (s.context i).mode = .refresh then contextClosed else s.context j := by
  unfold State.exitOnline State.thermalExit
  split
  · next h => simp [State.updContext_context, h]
  · next h => simp [h]

theorem State.exitOnline_thermalOf (s : State) (i j : SlotId) :
    (s.exitOnline i).thermalOf j =
      if j = i then { s.thermalOf i with critical := false, grace := none } else s.thermalOf j := by
  unfold State.exitOnline State.thermalExit
  split <;> simp [State.updThermal_thermalOf]

/-- RESET, the rail's pulse making no report. -/
theorem State.resetSlot_eq (s : State) (i : SlotId) (h : s.chassis.resetHold ≠ 0) :
    s.resetSlot i =
      ((((s.exitOnline i).withdraw i .upgrade).setRail i
        ((((s.exitOnline i).withdraw i .upgrade).rail i).resetPulse
          ((s.exitOnline i).withdraw i .upgrade).railEnv).1).setSlotState i .resetHold).raise (.stateChange i) := by
  have hset : ((s.exitOnline i).withdraw i .upgrade).settings = s.settings := by simp
  have hhold : ((s.exitOnline i).withdraw i .upgrade).railEnv.chassis.resetHold ≠ 0 := by
    rw [State.railEnv, State.chassis_of_settings hset]
    exact h
  rw [State.resetSlot, Rail.resetPulse_silent _ hhold]
  rfl

/-- Settles O50: by the slot's state and its UPGRADE entry. -/
theorem resetPulsesRunningBlade : Obligations.ResetPulsesRunningBlade := by
  unfold Obligations.ResetPulsesRunningBlade
  intro s r rest hc h
  refine ⟨fun hst => exec_reset h hc (if_neg hst), fun hst hop hmain hseen hhold hu => ?_, fun hst hu hb hhold => ?_⟩
  · let i := commandSlot r
    have hrail : ((s.exitOnline i).rail i) = s.rail i := by rw [s.exitOnline_frame i]; rfl
    have henv : (s.exitOnline i).railEnv = s.railEnv := by rw [s.exitOnline_frame i]; rfl
    have hentry : (s.exitOnline i).hasEntry i .upgrade = false := by rw [s.exitOnline_frame i]; exact hu
    have hpulse := Rail.resetPulse_started (v := s.railEnv) hhold hop hmain hseen
    refine ⟨((s.exitOnline i).setRail i ((s.rail i).resetPulse s.railEnv).1).setSlotState i .resetHold, exec_reset h hc ?_,
      ?_, fun j => ?_, fun j => ?_, fun j hj => ⟨?_, ?_⟩, fun hm => ?_, fun hm => ?_, ?_⟩
    · rw [State.commandReset, if_pos hst, State.resetSlot_eq _ _ hhold, State.withdraw_of_none hentry, hrail, henv]
    · rw [s.exitOnline_frame i]; rfl
    · rw [State.setSlotState, State.updSlot_slot]
      split
      · next e => subst e; rw [s.exitOnline_frame i]; rfl
      · rw [s.exitOnline_frame i]; rfl
    · rw [State.setSlotState, State.updSlot_rail, State.setRail, State.updRail_rail]
      split
      · next e => rw [hpulse, e]; rfl
      · rw [s.exitOnline_frame i]; rfl
    · exact (s.exitOnline_context i j).trans (if_neg fun e => hj e.1)
    · exact (s.exitOnline_thermalOf i j).trans (if_neg hj)
    · exact congrArg Context.mode ((s.exitOnline_context i i).trans (if_pos ⟨rfl, hm⟩))
    · exact (s.exitOnline_context i i).trans (if_neg fun e => hm e.2)
    · exact (s.exitOnline_thermalOf i i).trans (if_pos rfl)
  · let i := commandSlot r
    let t := (s.exitOnline i).dequeue i .upgrade
    have hentry : (s.exitOnline i).hasEntry i .upgrade = true := by rw [s.exitOnline_frame i]; exact hu
    have hboot : t.hasEntry i .boot = false := by
      rw [State.dequeue_hasEntry, s.exitOnline_frame i, Bool.and_eq_false_iff]
      exact .inl hb
    have hgone : t.hasEntry i .upgrade = false := by simp [t, State.dequeue_hasEntry]
    have hpass := State.arbiter_passes hboot
    refine ⟨_, exec_reset h hc (by rw [State.commandReset, if_pos hst]), ?_⟩
    rw [State.resetSlot_eq _ _ hhold, State.withdraw_of_entry hentry]
    generalize t.arbiter = u at hpass
    obtain ⟨a, ha⟩ := hpass.grant hgone
    have hgrant : t.grantOf i = s.grantOf i := by
      change (s.exitOnline i).grantOf i = _
      rw [s.exitOnline_frame i]
      rfl
    refine ⟨by simp [State.setSlotState], ?_, ?_⟩
    · simp only [State.hasEntry, State.raise_powerQueue]
      exact hpass.entries _ hgone
    · rw [State.raise_grantOf]
      change (u.grantOf i).grant = _
      rw [ha, hgrant]

/-! ### Warm reset -/

theorem exec_warmResetInputAsserted (s : State) :
    exec .warmResetInputAsserted s = .next (if s.warmHeld then s else { s.warmReset with warmHeld := true }) := rfl

theorem exec_warmResetInputDeasserted (s : State) :
    exec .warmResetInputDeasserted s =
      .next (if s.warmHeld then State.raise { s with warmHeld := false } .warmResetDone else s) := rfl

/-- Settles O52: by the level of the input, and by the command's answer. -/
theorem warmResetClearsServicing : Obligations.WarmResetClearsServicing := by
  unfold Obligations.WarmResetClearsServicing
  intro s
  refine ⟨s.warmReset, rfl, fun i => ?_, fun i => ?_, fun h => ?_, fun h => ?_, fun h => ?_, fun h => ?_,
    fun r rest h hc => ?_⟩
  · have hcontext : s.warmReset.context i = s.warmContext (s.context i) := Tab.get_each _ _ i
    rw [hcontext]
    refine ⟨fun hm => ?_, fun hm => ?_, fun hm => ?_⟩ <;> simp only [State.warmContext, hm]
    rfl
  · simp only [State.meter, State.warmReset, Tab.get_each]
    rfl
  · rw [exec_warmResetInputAsserted, if_pos h]
  · rw [exec_warmResetInputAsserted, if_neg (by simp [h])]
  · rw [exec_warmResetInputDeasserted, if_neg (by simp [h])]
  · rw [exec_warmResetInputDeasserted, if_pos h]
  · refine congrArg Host.Outcome.next ((State.onHead_of_headIs h _).trans ?_)
    simp only [State.executeReset, hc, State.respond, State.transmit_frame]
    rfl

end Sys2Proof.Machine

/-! ### Requests, and the checks and answers of READ (O44, O45) -/

namespace Sys2Proof.Machine

/-! ### Admission to the input queue (O44) -/

theorem exec_request (s : State) (p : PortId) (f : ServiceFrame) :
    exec (.request p f) s = .next (s.admitRequest p f) := rfl

theorem State.identityOf_eq_none_iff (s : State) (a : Addr) :
    s.identityOf a = none ↔ ∀ k, (s.identity k).enabled = true → (s.identity k).addr ≠ a := by
  simp [State.identityOf]

theorem State.identityOf_eq_some {s : State} {a : Addr} {k : IdentityId} (he : (s.identity k).enabled = true)
    (ha : (s.identity k).addr = a) (hlow : ∀ j, j < k → (s.identity j).enabled = true → (s.identity j).addr ≠ a) :
    s.identityOf a = some k := by
  rw [State.identityOf, List.find?_eq_some_iff_getElem]
  refine ⟨by simp [he, ha], k.val, by simp, by simp, fun j hj => ?_⟩
  have hlt : (⟨j, by omega⟩ : IdentityId) < k := hj
  simpa [Decidable.not_and_iff_or_not, ← Bool.not_eq_true, or_iff_not_imp_left] using hlow _ hlt

/-- One request that no row names is answered at once, the queue being empty. -/
theorem State.begin_of_unknown {s : State} {r : Request} (h : s.requests = [r]) (k : requestRow r.payload = .unknown) :
    s.begin =
      { s with
        requests := [],
        sent := (s.respond r ((s.checkRequest r).getD .badValue) []).sent } := by
  simp only [State.begin, h, List.length_singleton, beginLoop, k, if_true, State.respond, State.transmit_frame]

theorem State.takeRequest_held {s : State} (p : PortId) (k : IdentityId) (f : ServiceFrame) (h : s.warmHeld = true) :
    s.takeRequest p k f = s := if_pos h

theorem State.takeRequest_full {s : State} (p : PortId) (k : IdentityId) (f : ServiceFrame)
    (h : 4 ≤ s.requests.length) : s.takeRequest p k f = s := by
  have hfull : ¬ s.requests.length < Config.serviceQueuePlaces := Nat.not_lt.2 h
  rw [State.takeRequest, if_neg hfull, ite_self]

/-- A request that joins, the queue empty or not. -/
theorem State.takeRequest_joins {s : State} (p : PortId) (k : IdentityId) (f : ServiceFrame) (hw : s.warmHeld = false)
    (h : s.requests.length < 4) :
    s.takeRequest p k f =
      if s.requests = [] then
        State.begin { s with requests := s.requests ++ [⟨p, f.src, k, f.dst, f.sequence, f.payload⟩] }
      else { s with requests := s.requests ++ [⟨p, f.src, k, f.dst, f.sequence, f.payload⟩] } := by
  have hroom : s.requests.length < Config.serviceQueuePlaces := h
  rw [State.takeRequest, if_neg (by simp [hw]), if_pos hroom]

/-- Settles O44: by the identity, its port set, the places and the warm-reset input. -/
theorem requestsJoinQueue : Obligations.RequestsJoinQueue := by
  unfold Obligations.RequestsJoinQueue
  refine ⟨fun s p f => ⟨fun hnone => ?_, fun k he ha hlow => ?_⟩, fun l st images => ⟨fun hop => ?_, fun hop => ?_,
    fun hl => ?_⟩⟩
  · rw [exec_request, State.admitRequest, (s.identityOf_eq_none_iff _).2 hnone]
  · simp only [exec_request, State.admitRequest, State.identityOf_eq_some he ha hlow]
    refine ⟨fun hp => by rw [hp]; rfl, fun hw => by rw [State.takeRequest_held p k f hw, ite_self], fun hfull => ?_,
      fun hp hw hroom => ⟨fun hwait => ?_, fun hnil hrow => ?_⟩⟩
    · rw [State.takeRequest_full p k f hfull, ite_self]
    all_goals rw [if_pos hp, State.takeRequest_joins p k f hw hroom]
    · split
      · next hnil =>
        have hrow := hwait.resolve_left (not_not_intro hnil)
        rw [State.begin_of_row _ ⟨p, f.src, k, f.dst, f.sequence, f.payload⟩ [] (by simp [hnil]) hrow]
      · rfl
    · let q : Request := ⟨p, f.src, k, f.dst, f.sequence, f.payload⟩
      let joined : State := { s with requests := s.requests ++ [q] }
      let st := (joined.checkRequest q).getD .badValue
      have hempty : ∀ l, { s with requests := [], sent := l } = { s with sent := l } := fun l => by rw [← hnil]
      refine ⟨st, { s with sent := (joined.respond q st []).sent }, ?_, hnil, fun hpay => ?_, fun hpay hop => ?_, rfl, ?_⟩
      · rw [if_pos hnil, State.begin_of_unknown (s := joined) (r := q) (by simp [joined, hnil]) hrow]
        exact congrArg Host.Outcome.next (hempty _)
      · simp only [st, State.checkRequest, q, hpay, if_true, Option.getD_some]
      · simp only [st, State.checkRequest, q, if_neg hpay, hop, Option.getD_some]
      · simp only [State.respond, State.transmit_frame]
        rfl
  · rcases hop with hop | hop <;> simp [responsePayload, echoFields, hop, runFields_eq]
  · simp [responsePayload, echoFields, hop, commandFields_eq]
  · subst hl
    have hzeros : ∀ fields, echoFields [] = fields → responsePayload [] st images = [0#8, byte1 st.code] ++ fields ++ images :=
      fun fields h => by rw [responsePayload, h]; rfl
    exact echoFields_nil.imp (hzeros _) (hzeros _)

/-! ### READ and the checks of READ and WRITE (O45) -/

theorem exec_read {s : State} {r : Request} {rest : List Request} (h : s.headIs .read r rest) :
    exec .read s = .next (s.executeRead r) :=
  congrArg Host.Outcome.next (State.onHead_of_headIs h State.executeRead)

theorem byteAt_zero_of_operation {l : List Byte} {op : Operation} (h : operationOf l = some op) :
    op = .read ∧ byteAt l 0 = 1#8 ∨ op = .write ∧ byteAt l 0 = 2#8 ∨ op = .command ∧ byteAt l 0 = 3#8 := by
  cases l with
  | nil => cases h
  | cons b l =>
    simp only [operationOf] at h
    simp only [byteAt, List.getD_cons_zero]
    split at h
    · next hb => cases h; exact .inl ⟨rfl, hb⟩
    · split at h
      · next hb => cases h; exact .inr (.inl ⟨rfl, hb⟩)
      · split at h
        · next hb => cases h; exact .inr (.inr ⟨rfl, hb⟩)
        · cases h

theorem checkRun_of_space {op : Operation} {l : List Byte} {sp : Space} (h : spaceOf (nat8At l 1) = some sp) :
    checkRun op l =
      if op = .write ∧ sp.writeSize = none then some .readOnly
      else if ¬ nat8At l 2 < sp.size then some .badIndex
      else if ¬ (1 ≤ nat8At l 3 ∧ nat8At l 3 ≤ sp.maxCount) then some .badLength
      else if op = .write ∧ l.length - 4 ≠ nat8At l 3 * sp.writeSize.getD 0 then some .badLength
      else none := by
  simp only [checkRun, h]

/-- What a run that passes names (R171, test 5). -/
theorem run_of_checkRun {op : Operation} {l : List Byte} (h : checkRun op l = none) :
    ∃ sp, spaceOf (nat8At l 1) = some sp ∧ (op = .write → sp.writeSize ≠ none) ∧ nat8At l 2 < sp.size ∧
      1 ≤ nat8At l 3 ∧ nat8At l 3 ≤ sp.maxCount := by
  cases hsp : spaceOf (nat8At l 1) with
  | none => simp [checkRun, hsp] at h
  | some sp =>
    rw [checkRun_of_space hsp] at h
    refine ⟨sp, rfl, fun hop hw => ?_, ?_⟩
    · rw [if_pos ⟨hop, hw⟩] at h
      cases h
    · split at h
      · cases h
      · split at h
        · cases h
        · next hi =>
          split at h
          · cases h
          · next hn => exact ⟨not_not.1 hi, (not_not.1 hn).1, (not_not.1 hn).2⟩

theorem State.run_of_checkRequest {s : State} {r : Request} {op : Operation}
    (hop : op = .read ∧ byteAt r.payload 0 = 1#8 ∨ op = .write ∧ byteAt r.payload 0 = 2#8)
    (h : s.checkRequest r = none) : checkRun op r.payload = none := by
  rw [s.checkRequest_run r op hop] at h
  split at h
  · cases h
  · split at h
    · cases h
    · exact h

theorem spaceOf_eq_none {n : Nat} (h : 16 ≤ n) : spaceOf n = none := List.getElem?_eq_none h

theorem spaceOf_eq_some {n : Nat} (h : n < 16) : ∃ sp, spaceOf n = some sp := ⟨_, List.getElem?_eq_getElem h⟩

/-- Settles O45: a READ by its checks, and the checks of R171 in their order. -/
theorem readAnswersImages : Obligations.ReadAnswersImages := by
  unfold Obligations.ReadAnswersImages
  refine ⟨fun s r rest h => ⟨fun st hc => ?refused, fun hc => ?answered⟩, State.begin_of_nil,
    fun s r rest => s.begin_of_row r rest, fun s r => ⟨fun hp => if_pos hp, fun hp h1 h2 h3 => ?operation,
      fun op hop => ?checks⟩, by decide, by decide⟩
  case refused =>
    simp only [exec_read h, State.executeRead, hc]
    rw [s.complete_eq r rest st [] h.1]
  case answered =>
    have hop : Operation.read = .read ∧ byteAt r.payload 0 = 1#8 ∨ Operation.read = .write ∧ byteAt r.payload 0 = 2#8 := by
      have hb := byteAt_zero_of_operation (operationOf_of_read h.2.2)
      simp at hb
      exact .inl ⟨rfl, hb⟩
    obtain ⟨sp, hsp, -, hindex, hone, hmax⟩ := run_of_checkRun (State.run_of_checkRequest hop hc)
    refine ⟨sp, hsp, hindex, hone, hmax, ?_⟩
    simp only [exec_read h, State.executeRead, hc, hsp]
    rw [s.complete_eq r rest _ _ h.1, State.runImages, runIndexes, List.flatMap_map]
  case operation =>
    have hnone : operationOf r.payload = none := by
      cases hl : r.payload with
      | nil => exact absurd hl hp
      | cons b l =>
        simp only [hl, byteAt, List.getD_cons_zero] at h1 h2 h3
        simp [operationOf, h1, h2, h3]
    simp only [State.checkRequest, if_neg hp, hnone]
  case checks =>
    rw [s.checkRequest_run r op hop]
    refine ⟨fun _ hl => if_pos hl, fun hl ha => ?_, fun hl ha => ⟨fun hsp => ?_, fun hlt => ?_⟩⟩
    all_goals rw [if_neg (show ¬ r.payload.length < 4 by omega)]
    · rw [if_pos (by simp [ha])]
    · rw [if_neg (by simp [ha]), checkRun, spaceOf_eq_none hsp]
    · obtain ⟨sp, hsp⟩ := spaceOf_eq_some hlt
      rw [if_neg (by simp [ha]), checkRun_of_space hsp]
      refine ⟨sp, hsp, fun hw hn => if_pos ⟨hw, hn⟩, fun hwritable => ?_⟩
      have hro : ¬ (op = .write ∧ sp.writeSize = none) := by
        rintro ⟨rfl, hn⟩
        exact hwritable.elim (by simp) (absurd hn)
      rw [if_neg hro]
      refine ⟨fun hi => if_pos (by omega), fun hi => ?_⟩
      rw [if_neg (not_not_intro hi), sp.maxCount_eq]
      refine ⟨fun hcount => if_pos ?_, fun hone hmin hinv => ?_⟩
      · rcases hcount with hz | hbig | ⟨rfl, h8⟩
        · omega
        · split
          · next e => subst e; simp [Space.size] at hbig; omega
          · omega
        · simp; omega
      · have hfits : 1 ≤ nat8At r.payload 3 ∧ nat8At r.payload 3 ≤ if sp = .inventory then 8 else min sp.size 32 := by
          refine ⟨hone, ?_⟩
          split
          · next e => exact hinv e
          · exact hmin
        rw [if_neg (not_not_intro hfits)]
        refine ⟨fun hr => if_neg fun hw => by rw [hr] at hw; exact absurd hw.1 (by simp),
          fun n hw hn => ⟨fun hne => if_pos ⟨hw, ?_⟩, fun heq => if_neg ?_⟩⟩
        · rintro ⟨-, hlen⟩
          rw [hn, Option.getD_some] at hlen
          omega
        · rw [hn, Option.getD_some]
          omega

end Sys2Proof.Machine

/-! ### What each reader of an item takes and gives (R173), for O46 -/

namespace Sys2Proof.Machine

theorem clamp_eq (lo hi n : Nat) : clamp lo hi n = max lo (min hi n) := rfl

theorem byte_eq_iff (b : Byte) {n : Nat} (h : n < 256) : b = BitVec.ofNat 8 n ↔ b.toNat = n := by
  rw [← BitVec.toNat_inj, BitVec.toNat_ofNat, Nat.mod_eq_of_lt h]

theorem nat8At_lt (l : List Byte) (n : Nat) : nat8At l n < 256 := (byteAt l n).isLt

theorem readFlag_eq (l : List Byte) (n : Nat) :
    readFlag (byteAt l n) = if 1 < nat8At l n then none else some (decide (nat8At l n = 1)) := by
  have h0 : byteAt l n = 0#8 ↔ nat8At l n = 0 := byte_eq_iff _ (by decide)
  have h1 : byteAt l n = 1#8 ↔ nat8At l n = 1 := byte_eq_iff _ (by decide)
  simp only [readFlag, h0, h1]
  split
  · next h => rw [if_neg (by omega), h]; rfl
  · split
    · next h => rw [if_neg (by omega), h]; rfl
    · rw [if_pos (by omega)]

theorem readEnum_eq_none_iff {α : Type} (values : List α) (l : List Byte) (n : Nat) :
    readEnum values (byteAt l n) = none ↔ values.length ≤ nat8At l n := List.getElem?_eq_none_iff

theorem readPorts_eq (n : Nat) : readPorts n = if 2 ^ 20 ≤ n then none else some (BitVec.ofNat 20 n) := by
  unfold readPorts
  split
  · rw [if_neg (by omega)]
  · rw [if_pos (by omega)]

theorem typeAt_toNat (l : List Byte) (n : Nat) : (typeAt l n).toNat = nat16At l n := by
  simp only [typeAt, nat16At, nat8At, BitVec.toNat_append]
  rw [Nat.shiftLeft_eq, Nat.mul_comm, ← Nat.two_pow_add_eq_or_of_lt (byteAt l (n + 1)).isLt, Nat.mul_comm]

/-- An enumerated field holds its value's code, where the codes are the positions. -/
theorem readEnum_code {α : Type} {values : List α} {code : α → Nat} (hcodes : values.map code = List.range values.length)
    {l : List Byte} {n : Nat} {v : α} (h : readEnum values (byteAt l n) = some v) : code v = nat8At l n := by
  have hv : (values.map code)[nat8At l n]? = some (code v) := by
    rw [List.getElem?_map]
    exact congrArg (Option.map code) h
  have hlt : nat8At l n < values.length := (List.getElem?_eq_some_iff.1 h).1
  rw [hcodes, List.getElem?_range hlt] at hv
  exact (Option.some.inj hv).symm

theorem readRate_eq_none_iff (l : List Byte) (n : Nat) : readRate (byteAt l n) = none ↔ 15 < nat8At l n := by
  unfold readRate
  split
  · next h => simp [nat8At]; omega
  · next h => simp [nat8At]; omega

theorem readRate_val {l : List Byte} {n : Nat} {c : RateCode} (h : readRate (byteAt l n) = some c) :
    c.val = nat8At l n := by
  unfold readRate at h
  split at h
  · cases h; rfl
  · cases h

/-! ### Zones, uplink maps -/

theorem readItem_zone_eq_none_iff (l : List Byte) : readItem .zone l = none ↔ 1 < nat8At l 6 := by
  simp [readItem, readFlag_eq]

theorem readItem_zone_of_flag {l : List Byte} (h : nat8At l 6 ≤ 1) :
    readItem .zone l =
      some (.zone (min 1000 (nat16At l 0)) (min 1000 (nat16At l 2)) (min 1000 (nat16At l 4)) (nat8At l 6 = 1)) := by
  simp only [readItem, readFlag_eq, if_neg (Nat.not_lt.2 h), Option.map_some, clamp_zero]

theorem readMap_eq_none_iff (l : List Byte) :
    readMap l = none ↔ 3 < nat8At l 0 ∨ 15 < nat8At l 3 ∨ 15 < nat8At l 4 := by
  rw [← readRate_eq_none_iff, ← readRate_eq_none_iff, readMap]
  by_cases hg : nat8At l 0 < 4
  · cases h3 : readRate (byteAt l 3) <;> cases h4 : readRate (byteAt l 4) <;> simp [hg]
    omega
  · simp [hg]
    omega

theorem readMap_fields {l : List Byte} {m : UplinkMap} (h : readMap l = some m) :
    m.group.val = nat8At l 0 ∧ m.tag = min 4094 (nat16At l 1) ∧ m.rate.val = nat8At l 3 ∧
      m.capRate.val = nat8At l 4 ∧ m.depth = max 1 (min 256 (nat16At l 5)) := by
  simp only [readMap, Option.bind_eq_bind, Option.bind_eq_some_iff] at h
  obtain ⟨g, hg, r, hr, c, hc, hm⟩ := h
  cases hm
  split at hg
  · cases hg
    exact ⟨rfl, clamp_zero _ _, readRate_val hr, readRate_val hc, rfl⟩
  · cases hg

/-! ### Groups -/

theorem readMembers_eq_none_iff (l : List Byte) : readMembers l = none ↔ ∃ b ∈ l, 4 < b.toNat := by
  induction l with
  | nil => simp [readMembers]
  | cons b l ih =>
    unfold readMembers
    split
    · next h => simp only [Option.map_eq_none_iff, ih, List.mem_cons, exists_eq_or_imp]
                exact ⟨.inr, fun h' => h'.resolve_left (by omega)⟩
    · next h => simp only [List.mem_cons, exists_eq_or_imp, true_iff]
                exact .inl (by omega)

theorem readMembers_vals {l : List Byte} {us : List UplinkId} (h : readMembers l = some us) :
    us.map Fin.val = l.map BitVec.toNat := by
  induction l generalizing us with
  | nil => cases h; rfl
  | cons b l ih =>
    unfold readMembers at h
    split at h
    · rw [Option.map_eq_some_iff] at h
      obtain ⟨vs, hv, rfl⟩ := h
      simp [ih hv]
    · cases h

/-- The member bytes of a GROUPS item, by their places. -/
theorem mem_memberBytes (l : List Byte) (n : Nat) (b : Byte) :
    b ∈ (l.drop 2).take n ↔ ∃ j, j < n ∧ j < l.length - 2 ∧ byteAt l (2 + j) = b := by
  rw [List.mem_iff_getElem]
  simp only [List.length_take, List.length_drop, List.getElem_take, List.getElem_drop, lt_min_iff]
  constructor
  · rintro ⟨j, ⟨h1, h2⟩, rfl⟩
    exact ⟨j, h1, h2, List.getD_eq_getElem _ _ (by omega)⟩
  · rintro ⟨j, h1, h2, rfl⟩
    exact ⟨j, ⟨h1, h2⟩, (List.getD_eq_getElem _ _ (by omega)).symm⟩

theorem readGroup_eq_none_iff (l : List Byte) :
    readGroup l = none ↔
      1 < nat8At l 0 ∨ 4 < nat8At l 1 ∨ ∃ j, j < nat8At l 1 ∧ j < l.length - 2 ∧ 4 < nat8At l (2 + j) := by
  have hmode := readEnum_eq_none_iff [GroupMode.failover, .spread] l 0
  have hmembers : readMembers ((l.drop 2).take (nat8At l 1)) = none ↔
      ∃ j, j < nat8At l 1 ∧ j < l.length - 2 ∧ 4 < nat8At l (2 + j) := by
    rw [readMembers_eq_none_iff]
    constructor
    · rintro ⟨b, hb, h4⟩
      obtain ⟨j, h1, h2, rfl⟩ := (mem_memberBytes _ _ _).1 hb
      exact ⟨j, h1, h2, h4⟩
    · rintro ⟨j, h1, h2, h4⟩
      exact ⟨_, (mem_memberBytes _ _ _).2 ⟨j, h1, h2, rfl⟩, h4⟩
  rw [← hmembers, readGroup]
  simp only [List.length_cons, List.length_nil] at hmode
  cases h0 : readEnum [GroupMode.failover, .spread] (byteAt l 0) with
  | none =>
    have hcode : 1 < nat8At l 0 := hmode.1 h0
    simp [hcode]
  | some m =>
    have hcode : ¬ 1 < nat8At l 0 := fun hc => by simp [h0] at hmode; omega
    by_cases hn : 4 < nat8At l 1
    · simp [hn]
    · cases readMembers ((l.drop 2).take (nat8At l 1)) <;> simp [hn, hcode]

theorem firstMentions_sublist (l : List UplinkId) : ∀ seen, (firstMentions seen l).Sublist l := by
  induction l with
  | nil => exact fun _ => .slnil
  | cons u l ih =>
    intro seen
    unfold firstMentions
    split
    · exact (ih _).cons _
    · exact (ih _).cons_cons _

theorem readGroup_fields {l : List Byte} {mode : GroupMode} {members : List UplinkId}
    (h : readGroup l = some (mode, members)) (hl : l.length = 6) :
    mode.code = nat8At l 0 ∧ members.Nodup ∧ members.length ≤ nat8At l 1 ∧
      ∀ u, u ∈ members ↔ ∃ j, j < nat8At l 1 ∧ nat8At l (2 + j) = u.val := by
  simp only [readGroup, Option.bind_eq_bind, Option.bind_eq_some_iff] at h
  obtain ⟨m, hm, h⟩ := h
  split at h
  · cases h
  · next hn =>
    simp only [Option.bind_eq_some_iff, Option.some.injEq, Prod.mk.injEq] at h
    obtain ⟨us, hus, rfl, rfl⟩ := h
    have hvals := readMembers_vals hus
    have hlength : us.length = ((l.drop 2).take (nat8At l 1)).length := by
      rw [← List.length_map, hvals, List.length_map]
    have hmem : ∀ u : UplinkId, u ∈ us ↔ ∃ j, j < nat8At l 1 ∧ nat8At l (2 + j) = u.val := fun u => by
      rw [← List.mem_map_of_injective Fin.val_injective, hvals, List.mem_map]
      constructor
      · rintro ⟨b, hb, hu⟩
        obtain ⟨j, h1, -, rfl⟩ := (mem_memberBytes _ _ _).1 hb
        exact ⟨j, h1, hu⟩
      · rintro ⟨j, h1, hu⟩
        exact ⟨_, (mem_memberBytes _ _ _).2 ⟨j, h1, by omega, rfl⟩, hu⟩
    refine ⟨readEnum_code (by decide) hm, nodup_firstMentions _ _, ?_, fun u => ?_⟩
    · refine (List.Sublist.length_le (firstMentions_sublist us [])).trans ?_
      rw [hlength, List.length_take]
      omega
    · rw [mem_firstMentions, hmem]
      simp

/-! ### Slot policies -/

theorem readPolicy_eq_none_iff (l : List Byte) : readPolicy l = none ↔ ∃ j, j < 6 ∧ 1 < nat8At l j := by
  have hflag : ∀ n, readFlag (byteAt l n) = none ↔ 1 < nat8At l n := fun n => by simp [readFlag_eq]
  have hdefault := readEnum_eq_none_iff [HoldDefault.proceed, .deny] l 5
  constructor
  · intro h
    by_contra hnone
    have hlow : ∀ j, j < 6 → nat8At l j ≤ 1 := fun j hj => not_lt.1 fun hlt => hnone ⟨j, hj, hlt⟩
    have hsome : ∀ n, n < 6 → readFlag (byteAt l n) = some (decide (nat8At l n = 1)) := fun n hn => by
      rw [readFlag_eq, if_neg (Nat.not_lt.2 (hlow n hn))]
    obtain ⟨d, hd⟩ := Option.ne_none_iff_exists'.1 fun e =>
      absurd (hdefault.1 e) (Nat.not_le.2 (Nat.lt_succ_of_le (hlow 5 (by decide))))
    simp [readPolicy, hsome, hd] at h
  · rintro ⟨j, hj, hlt⟩
    rw [Option.eq_none_iff_forall_not_mem]
    intro p hp
    simp only [readPolicy, Option.bind_eq_bind, Option.mem_def, Option.bind_eq_some_iff] at hp
    obtain ⟨a0, h0, a1, h1, a2, h2, a3, h3, a4, h4, a5, h5, -⟩ := hp
    have h5' := readEnum_eq_none_iff [HoldDefault.proceed, .deny] l 5
    interval_cases j
    · rw [(hflag 0).2 hlt] at h0; cases h0
    · rw [(hflag 1).2 hlt] at h1; cases h1
    · rw [(hflag 2).2 hlt] at h2; cases h2
    · rw [(hflag 3).2 hlt] at h3; cases h3
    · rw [(hflag 4).2 hlt] at h4; cases h4
    · rw [h5'.2 hlt] at h5; cases h5

theorem readPolicy_fields {l : List Byte} {p : SlotPolicy} (h : readPolicy l = some p) :
    p =
      { adminEnable := nat8At l 0 = 1, autoPower := nat8At l 1 = 1, holdPower := nat8At l 2 = 1,
        holdOnline := nat8At l 3 = 1, restoreAfterShed := nat8At l 4 = 1,
        holdDefault := if nat8At l 5 = 1 then .deny else .proceed, holdTimeout := min 3600 (nat16At l 6),
        retryLimit := min 7 (nat8At l 8), retryInterval := max 100 (min 60000 (nat16At l 9)),
        bootAllowance := max 1 (min 1000 (nat16At l 11)),
        capFloor := max (max 1 (min 1000 (nat16At l 11))) (max 1 (min 1000 (nat16At l 13))),
        priority := min 7 (nat8At l 15), weights := Tab.make fun z => min 8 (nat8At l (16 + z.val)) } := by
  simp only [readPolicy, readFlag_eq, Option.bind_eq_bind, Option.bind_eq_some_iff, Option.ite_none_left_eq_some,
    Option.some.injEq] at h
  obtain ⟨a0, ⟨-, rfl⟩, a1, ⟨-, rfl⟩, a2, ⟨-, rfl⟩, a3, ⟨-, rfl⟩, a4, ⟨-, rfl⟩, d, hd, rfl⟩ := h
  have hdefault : d = if nat8At l 5 = 1 then .deny else .proceed := by
    have hcode := readEnum_code (code := fun d => if d = HoldDefault.deny then 1 else 0) (by decide) hd
    cases d with
    | proceed => simp at hcode; simp [← hcode]
    | deny => simp at hcode; simp [← hcode]
  subst hdefault
  simp only [clamp_zero, capFloorTied]
  rfl

/-! ### Classification entries -/

theorem readClassify_eq_none_iff (l : List Byte) :
    readClassify l = none ↔ 1 < nat8At l 0 ∨ 2 ^ 20 ≤ nat24At l 1 ∨ 2 < nat8At l 22 ∨ 3 < nat8At l 23 := by
  have htag := readEnum_eq_none_iff [TagMatch.any, .tagged, .untagged] l 22
  have haction := readEnum_eq_none_iff [ClassAction.forward, .forwardSnoop, .drop, .redirect] l 23
  change _ ↔ 2 < nat8At l 22 at htag
  change _ ↔ 3 < nat8At l 23 at haction
  rw [← htag, ← haction, readClassify, readFlag_eq, readPorts_eq]
  by_cases hv : 1 < nat8At l 0
  · simp [hv]
  · by_cases hp : 2 ^ 20 ≤ nat24At l 1
    · refine iff_of_true ?_ (.inr (.inl hp))
      simp only [if_neg hv, if_pos hp]
      rfl
    · simp only [hv, hp, false_or, if_false]
      cases readEnum [TagMatch.any, .tagged, .untagged] (byteAt l 22) with
      | none => simp
      | some t => cases readEnum [ClassAction.forward, .forwardSnoop, .drop, .redirect] (byteAt l 23) <;> simp

theorem readClassify_fields {l : List Byte} {e : ClassEntry} (h : readClassify l = some e) :
    e.valid = decide (nat8At l 0 = 1) ∧ e.ports.toNat = nat24At l 1 ∧ e.dstValue = addrAt l 4 ∧
      e.dstMask = addrAt l 10 ∧ e.typeValue.toNat = nat16At l 16 ∧ e.typeMask.toNat = nat16At l 18 ∧
      e.kindValue = byteAt l 20 ∧ e.kindMask = byteAt l 21 ∧ tagMatchCode e.tagMatch = nat8At l 22 ∧
      actionCode e.action = nat8At l 23 ∧ e.redirect.val = min 4 (nat8At l 24) := by
  simp only [readClassify, readFlag_eq, readPorts_eq, Option.bind_eq_bind, Option.bind_eq_some_iff,
    Option.ite_none_left_eq_some, Option.some.injEq] at h
  obtain ⟨v, ⟨-, rfl⟩, p, ⟨hp, rfl⟩, t, ht, a, ha, rfl⟩ := h
  refine ⟨rfl, ?_, rfl, rfl, typeAt_toNat _ _, typeAt_toNat _ _, rfl, rfl, readEnum_code (by decide) ht,
    readEnum_code (by decide) ha, ?_⟩
  · rw [BitVec.toNat_ofNat, Nat.mod_eq_of_lt (by omega)]
  · rw [clamp_zero]
    exact Nat.mod_eq_of_lt (by omega)

/-! ### The chassis -/

theorem etherTypeAllowed_iff (l : List Byte) :
    etherTypeAllowed (typeAt l 10) = true ↔ ¬ (nat16At l 10 < 0x0600 ∨ nat16At l 10 = 0x8100) := by
  have htag : typeAt l 10 = Config.tagType ↔ nat16At l 10 = 0x8100 := by
    rw [← BitVec.toNat_inj, typeAt_toNat]
    rfl
  simp only [etherTypeAllowed, listedEtherType, Bool.and_eq_true, decide_eq_true_eq, typeAt_toNat, ne_eq, htag]
  omega

theorem readChassis_eq_none_iff (l : List Byte) :
    readChassis l = none ↔ 2 < nat8At l 0 ∨ 1 < nat8At l 9 ∨ nat16At l 10 < 0x0600 ∨ nat16At l 10 = 0x8100 := by
  have hmode := readEnum_eq_none_iff [RedundancyMode.none, .nPlus1, .grid] l 0
  have hrole := readEnum_eq_none_iff [PortRole.slot, .stack] l 9
  change _ ↔ 2 < nat8At l 0 at hmode
  change _ ↔ 1 < nat8At l 9 at hrole
  rw [← hmode, ← hrole, readChassis]
  cases readEnum [RedundancyMode.none, .nPlus1, .grid] (byteAt l 0) with
  | none => simp
  | some m =>
    cases readEnum [PortRole.slot, .stack] (byteAt l 9) with
    | none => simp
    | some r =>
      cases he : etherTypeAllowed (typeAt l 10) with
      | true => simpa using (etherTypeAllowed_iff l).1 he
      | false =>
        have hbad := not_not.1 (mt (etherTypeAllowed_iff l).2 (by simp [he]))
        simp [hbad]

theorem readChassis_fields {l : List Byte} {c : Chassis} (h : readChassis l = some c) :
    redundancyCode c.mode = nat8At l 0 ∧ c.overhead = min 2000 (nat16At l 1) ∧
      c.staleLimit = max 500 (min 60000 (nat16At l 3)) ∧ c.staleDemand = min 1000 (nat16At l 5) ∧
      c.bootDemand = min 1000 (nat16At l 7) ∧ c.roleSetting.code = nat8At l 9 ∧
      c.etherType.toNat = nat16At l 10 ∧ c.firstTimeout = max 100 (min 60000 (nat16At l 12)) ∧
      c.gapTimeout = max 10 (min 10000 (nat16At l 14)) ∧ c.wholeTimeout = max 100 (min 60000 (nat16At l 16)) ∧
      c.queryWait = max 100 (min 30000 (nat16At l 18)) ∧ c.holdDown = min 60000 (nat16At l 20) ∧
      c.deadInterval = max 1 (nat8At l 22) ∧ c.dischargeTime = max 10 (min 5000 (nat16At l 23)) ∧
      c.resetHold = min 2000 (nat16At l 25) ∧ c.powerGoodTimeout = max 10 (min 2000 (nat16At l 27)) ∧
      c.debounce = max 1 (min 1000 (nat16At l 29)) ∧ c.settleTime = min 10000 (nat16At l 31) ∧
      c.criticalGrace = max 1000 (min 60000 (nat16At l 33)) := by
  simp only [readChassis, Option.bind_eq_bind, Option.bind_eq_some_iff, Option.ite_none_right_eq_some,
    Option.some.injEq] at h
  obtain ⟨m, hm, r, hr, v, ⟨-, rfl⟩, rfl⟩ := h
  have hdead : clamp 1 255 (nat8At l 22) = max 1 (nat8At l 22) := by
    rw [clamp_eq, min_eq_right (Nat.le_of_lt_succ (nat8At_lt l 22))]
  exact ⟨readEnum_code (by decide) hm, clamp_zero _ _, rfl, clamp_zero _ _, clamp_zero _ _,
    readEnum_code (by decide) hr, typeAt_toNat _ _, rfl, rfl, rfl, rfl, clamp_zero _ _, hdead, rfl, clamp_zero _ _, rfl,
    rfl, clamp_zero _ _, rfl⟩

/-! ### Identities and the notice configuration -/

theorem readIdentity_eq_none_iff (l : List Byte) :
    readIdentity l = none ↔
      1 < nat8At l 0 ∨ 1 < nat8At l 7 ∨ 2 ^ 20 ≤ nat24At l 8 ∨ groupBit (addrAt l 1) = true ∨ addrAt l 1 = 0#48 := by
  have haccess := readEnum_eq_none_iff [Access.observe, .control] l 7
  change _ ↔ 1 < nat8At l 7 at haccess
  rw [← haccess, readIdentity, readFlag_eq, readPorts_eq]
  by_cases hv : 1 < nat8At l 0
  · simp [hv]
  · cases readEnum [Access.observe, .control] (byteAt l 7) with
    | none => simp only [if_neg hv]; simp
    | some a =>
      by_cases hp : 2 ^ 20 ≤ nat24At l 8
      · refine iff_of_true ?_ (.inr (.inr (.inl hp)))
        simp only [if_neg hv, if_pos hp]
        rfl
      · simp only [hv, hp, false_or, if_false]
        cases groupBit (addrAt l 1) <;> simp

theorem readIdentity_fields {l : List Byte} {d : Identity} (h : readIdentity l = some d) :
    d.enabled = decide (nat8At l 0 = 1) ∧ d.addr = addrAt l 1 ∧ (d.access = .control ↔ nat8At l 7 = 1) ∧
      d.ports.toNat = nat24At l 8 := by
  simp only [readIdentity, readFlag_eq, readPorts_eq, Option.bind_eq_bind, Option.bind_eq_some_iff,
    Option.ite_none_left_eq_some, Option.some.injEq] at h
  obtain ⟨v, ⟨-, rfl⟩, a, ha, p, ⟨hp, rfl⟩, h⟩ := h
  split at h
  · cases h
  · cases h
    have hcode := readEnum_code (code := fun a => if a = Access.control then 1 else 0) (by decide) ha
    refine ⟨rfl, rfl, ?_, ?_⟩
    · cases a with
      | observe =>
        simp only [reduceCtorEq, if_false] at hcode
        simp [← hcode]
      | control =>
        simp only [if_true] at hcode
        simp [← hcode]
    · rw [BitVec.toNat_ofNat, Nat.mod_eq_of_lt (by omega)]

theorem readNoticeCfg_eq (l : List Byte) :
    readNoticeCfg l =
      if 1 < nat8At l 0 then none
      else some ⟨nat8At l 0 = 1, addrAt l 1, Fin.ofNat 20 (min 19 (nat8At l 7)), min 1000 (nat16At l 8)⟩ := by
  rw [readNoticeCfg, readFlag_eq]
  split <;> simp [clamp_zero]

/-! ### Items as written -/

theorem Item.asWritten_group (mode : GroupMode) (members : List UplinkId) (l : List Byte) :
    (Item.group mode members).asWritten l = true ↔ members.length = nat8At l 1 := decide_eq_true_iff

theorem Item.asWritten_iff {x : Item} (h : ∀ mode members, x ≠ .group mode members) (l : List Byte) :
    x.asWritten l = true ↔ x.image = l := by
  cases x with
  | group mode members => exact absurd rfl (h mode members)
  | _ => simp only [Item.asWritten, Item.image, decide_eq_true_eq]

end Sys2Proof.Machine

/-! ### The check of a WRITE as a whole (R168, R173), for O46 -/

namespace Sys2Proof.Machine

/-- The bytes of a WRITE's item at a place of its run. -/
def itemBytes (n : Nat) (l : List Byte) (j : Nat) : List Byte := (l.drop (j * n)).take n

theorem itemBytes_zero (n : Nat) (l : List Byte) : itemBytes n l 0 = l.take n := by simp [itemBytes]

theorem itemBytes_succ (n : Nat) (l : List Byte) (j : Nat) : itemBytes n l (j + 1) = itemBytes n (l.drop n) j := by
  rw [itemBytes, itemBytes, List.drop_drop, Nat.succ_mul, Nat.add_comm]

theorem readItems_eq_none_iff (sp : Space) (n : Nat) (ks : List Nat) : ∀ l : List Byte,
    readItems sp n ks l = none ↔ ∃ j, j < ks.length ∧ readItem sp (itemBytes n l j) = none := by
  induction ks with
  | nil => simp [readItems]
  | cons k ks ih =>
    intro l
    unfold readItems
    cases h : readItem sp (l.take n) with
    | none => exact iff_of_true rfl ⟨0, by simp, by rw [itemBytes_zero, h]⟩
    | some x =>
      simp only [Option.map_eq_none_iff, ih]
      constructor
      · rintro ⟨j, hj, hnone⟩
        exact ⟨j + 1, by simpa using hj, by rw [itemBytes_succ, hnone]⟩
      · rintro ⟨j, hj, hnone⟩
        cases j with
        | zero => rw [itemBytes_zero, h] at hnone; cases hnone
        | succ j => exact ⟨j, by simpa using hj, by rw [← itemBytes_succ, hnone]⟩

/-- Each item read stands at its index with its reading and whether it stands as written. -/
theorem readItems_get (sp : Space) (n : Nat) (ks : List Nat) : ∀ (l : List Byte) (xs : List (Nat × Item × Bool)),
    readItems sp n ks l = some xs → ∀ j (hj : j < ks.length),
      ∃ x, readItem sp (itemBytes n l j) = some x ∧ xs[j]? = some (ks[j], x, x.asWritten (itemBytes n l j)) := by
  induction ks with
  | nil => exact fun _ _ _ j hj => absurd hj (Nat.not_lt_zero j)
  | cons k ks ih =>
    intro l xs h j hj
    unfold readItems at h
    cases hx : readItem sp (l.take n) with
    | none => simp [hx] at h
    | some x =>
      simp only [hx, Option.map_eq_some_iff] at h
      obtain ⟨ys, hys, rfl⟩ := h
      cases j with
      | zero => exact ⟨x, by rw [itemBytes_zero, hx], by simp [itemBytes_zero]⟩
      | succ j =>
        rw [itemBytes_succ]
        simpa using ih _ _ hys j (by simpa using hj)

theorem length_runIndexes (size start count : Nat) : (runIndexes size start count).length = count := by
  simp [runIndexes]

theorem getElem_runIndexes (size start count j : Nat) (h : j < (runIndexes size start count).length) :
    (runIndexes size start count)[j] = (start + j) % size := by
  simp [runIndexes]

section
variable {s : State} {r : Request} {sp : Space} {n : Nat}

/-- The items of a WRITE, by its payload. -/
def Request.items (r : Request) (sp : Space) (n : Nat) : Option (List (Nat × Item × Bool)) :=
  readItems sp n (runIndexes sp.size (nat8At r.payload 2) (nat8At r.payload 3)) (r.payload.drop 4)

theorem State.checkItems_eq (hn : sp.writeSize = some n) :
    s.checkItems r sp =
      match r.items sp n with
      | none => none
      | some items =>
        if s.keepsManager sp items then some ⟨items.map fun x => (x.1, x.2.1), writeStatus items⟩ else none := by
  simp only [State.checkItems, hn, Option.getD_some]
  rfl

theorem Request.items_eq_none_iff :
    r.items sp n = none ↔ ∃ j, j < nat8At r.payload 3 ∧ readItem sp (itemBytes n (r.payload.drop 4) j) = none := by
  rw [Request.items, readItems_eq_none_iff, length_runIndexes]

theorem Request.items_get {xs : List (Nat × Item × Bool)} (h : r.items sp n = some xs) {j : Nat}
    (hj : j < nat8At r.payload 3) :
    ∃ x, readItem sp (itemBytes n (r.payload.drop 4) j) = some x ∧
      xs[j]? = some ((nat8At r.payload 2 + j) % sp.size, x, x.asWritten (itemBytes n (r.payload.drop 4) j)) := by
  have hj' : j < (runIndexes sp.size (nat8At r.payload 2) (nat8At r.payload 3)).length := by
    rwa [length_runIndexes]
  obtain ⟨x, hx, hget⟩ := readItems_get sp n _ _ _ h j hj'
  exact ⟨x, hx, by rw [hget, getElem_runIndexes]⟩

theorem Request.items_indexes {xs : List (Nat × Item × Bool)} (h : r.items sp n = some xs) :
    xs.map Prod.fst = (List.range (nat8At r.payload 3)).map fun j => (nat8At r.payload 2 + j) % sp.size :=
  readItems_indexes sp n _ _ _ h

theorem Request.items_length {xs : List (Nat × Item × Bool)} (h : r.items sp n = some xs) :
    xs.length = nat8At r.payload 3 := by
  rw [← List.length_map (f := Prod.fst), Request.items_indexes h, List.length_map, List.length_range]

theorem keepsManager_of_ne (h : sp ≠ .identity) (xs : List (Nat × Item × Bool)) : s.keepsManager sp xs = true := by
  simp [State.keepsManager, h]

/-- An accepted WRITE's items and status, by the items read. -/
theorem State.checkItems_eq_some (hn : sp.writeSize = some n) {job : WriteJob} (h : s.checkItems r sp = some job) :
    ∃ xs, r.items sp n = some xs ∧ job = ⟨xs.map fun x => (x.1, x.2.1), writeStatus xs⟩ := by
  rw [State.checkItems_eq hn] at h
  cases hx : r.items sp n with
  | none => simp [hx] at h
  | some xs =>
    simp only [hx, Option.ite_none_right_eq_some] at h
    exact ⟨xs, rfl, (Option.some.inj h.2).symm⟩

/-- The status is OK exactly where every item stands as written. -/
theorem Request.writeStatus_eq_ok_iff {xs : List (Nat × Item × Bool)} (h : r.items sp n = some xs) :
    writeStatus xs = .ok ↔
      ∀ j x, j < nat8At r.payload 3 → readItem sp (itemBytes n (r.payload.drop 4) j) = some x →
        x.asWritten (itemBytes n (r.payload.drop 4) j) = true := by
  have hall : writeStatus xs = .ok ↔ ∀ y ∈ xs, y.2.2 = true := by
    rw [← List.all_eq_true, writeStatus]
    split
    · next h => simp [h]
    · next h => simp [h]
  rw [hall]
  constructor
  · intro hxs j x hj hx
    obtain ⟨y, hy, hget⟩ := Request.items_get h hj
    rw [hy] at hx
    cases hx
    exact hxs _ (List.mem_of_getElem? hget)
  · intro hxs y hy
    obtain ⟨j, hj, rfl⟩ := List.mem_iff_getElem.1 hy
    rw [Request.items_length h] at hj
    obtain ⟨x, hx, hget⟩ := Request.items_get h hj
    rw [(List.getElem?_eq_some_iff.1 hget).2]
    exact hxs j x hj hx

end

/-! ### The identities a WRITE leaves (R168) -/

/-- A WRITE of identities at different indexes leaves its record at each of them, and the others as they were. -/
theorem identitiesAfter_get (xs : List (Nat × Item × Bool)) (k : IdentityId) : ∀ t : Vector Identity 4,
    (∀ x ∈ xs, ∃ d, x.2.1 = .identity d) → xs.Pairwise (fun x y => Fin.ofNat 4 x.1 ≠ Fin.ofNat 4 y.1) →
    (∀ x ∈ xs, ∀ d, Fin.ofNat 4 x.1 = k → x.2.1 = .identity d → Tab.get (identitiesAfter xs t) k = d) ∧
    ((∀ x ∈ xs, Fin.ofNat 4 x.1 ≠ k) → Tab.get (identitiesAfter xs t) k = Tab.get t k) := by
  induction xs with
  | nil => exact fun t _ _ => ⟨fun x hx => absurd hx (by simp), fun _ => rfl⟩
  | cons x xs ih =>
    intro t hid hdiff
    obtain ⟨d, hd⟩ := hid x List.mem_cons_self
    obtain ⟨hhead, htail⟩ := List.pairwise_cons.1 hdiff
    have hstep : identitiesAfter (x :: xs) t = identitiesAfter xs (Tab.put t (Fin.ofNat 4 x.1) d) := by
      simp only [identitiesAfter, List.foldl_cons, hd]
    obtain ⟨hmem, hnone⟩ := ih (Tab.put t (Fin.ofNat 4 x.1) d) (fun y hy => hid y (List.mem_cons_of_mem _ hy)) htail
    rw [hstep]
    refine ⟨fun y hy e hk he => ?_, fun hne => ?_⟩
    · rcases List.mem_cons.1 hy with rfl | hy
      · rw [hnone fun z hz => hk ▸ (hhead z hz).symm, ← hk]
        rw [hd] at he
        cases he
        simp
      · exact hmem y hy e hk he
    · rw [hnone fun y hy => hne y (List.mem_cons_of_mem _ hy)]
      exact Tab.get_put_ne _ _ (hne x List.mem_cons_self).symm

end Sys2Proof.Machine

/-! ### WRITE and its items (O46) -/

namespace Sys2Proof.Machine

theorem Identity.canWrite_iff (d : Identity) :
    d.canWrite = true ↔ d.enabled = true ∧ d.access = .control ∧ d.ports ≠ 0#20 := by
  simp [Identity.canWrite, and_assoc]

/-- The four places of a run of identities name different identities. -/
theorem identityIndexes_injective {start i j : Nat} (hi : i < 4) (hj : j < 4)
    (h : (start + i) % 4 = (start + j) % 4) : i = j := by omega

theorem ofNat_four_eq_iff (n : Nat) (k : IdentityId) : Fin.ofNat 4 n = k ↔ n % 4 = k.val := by
  rw [Fin.ext_iff]
  rfl

/-- A WRITE of identities fails exactly where it leaves no identity to write through (R168). -/
theorem State.checkItems_identity_eq_none_iff {s : State} {r : Request} {ds : Nat → Identity}
    (hcount : nat8At r.payload 3 ≤ 4)
    (hds : ∀ j, j < nat8At r.payload 3 → readItem .identity (itemBytes 11 (r.payload.drop 4) j) = some (.identity (ds j))) :
    s.checkItems r .identity = none ↔
      ∀ k : IdentityId,
        (∀ j, j < nat8At r.payload 3 → (nat8At r.payload 2 + j) % 4 = k.val → (ds j).canWrite = false) ∧
        ((∀ j, j < nat8At r.payload 3 → (nat8At r.payload 2 + j) % 4 ≠ k.val) → (s.identity k).canWrite = false) := by
  have hsome : r.items .identity 11 ≠ none := fun h => by
    obtain ⟨j, hj, hnone⟩ := Request.items_eq_none_iff.1 h
    rw [hds j hj] at hnone
    cases hnone
  obtain ⟨xs, hxs⟩ := Option.ne_none_iff_exists'.1 hsome
  have hget : ∀ j, j < nat8At r.payload 3 →
      ∃ b, xs[j]? = some ((nat8At r.payload 2 + j) % 4, .identity (ds j), b) := fun j hj => by
    obtain ⟨x, hx, hget⟩ := Request.items_get hxs hj
    rw [hds j hj] at hx
    cases hx
    exact ⟨_, hget⟩
  have hplace : ∀ x ∈ xs, ∃ j b, j < nat8At r.payload 3 ∧ x = ((nat8At r.payload 2 + j) % 4, .identity (ds j), b) :=
    fun x hx => by
      obtain ⟨j, hj, rfl⟩ := List.mem_iff_getElem.1 hx
      rw [Request.items_length hxs] at hj
      obtain ⟨b, hb⟩ := hget j hj
      exact ⟨j, b, hj, (List.getElem?_eq_some_iff.1 hb).2⟩
  have hdiff : xs.Pairwise fun x y => Fin.ofNat 4 x.1 ≠ Fin.ofNat 4 y.1 := by
    rw [← List.pairwise_map (f := Prod.fst) (R := fun a b => Fin.ofNat 4 a ≠ Fin.ofNat 4 b), Request.items_indexes hxs,
      List.pairwise_map]
    refine List.Pairwise.imp_of_mem (R := (· < ·)) (fun {i j} hi hj hlt he => ?_) List.pairwise_lt_range
    rw [List.mem_range] at hi hj
    rw [ofNat_four_eq_iff] at he
    exact absurd (identityIndexes_injective (start := nat8At r.payload 2) (i := i) (j := j) (by omega) (by omega)
      (by simpa [Space.size] using he)) (by omega)
  have hafter := fun k => identitiesAfter_get xs k s.identities
    (fun x hx => by obtain ⟨j, b, -, rfl⟩ := hplace x hx; exact ⟨_, rfl⟩) hdiff
  have hkeeps : s.checkItems r .identity = none ↔
      ∀ k, (Tab.get (identitiesAfter xs s.identities) k).canWrite = false := by
    rw [State.checkItems_eq (n := 11) rfl, hxs]
    simp [State.keepsManager]
  rw [hkeeps]
  refine forall_congr' fun k => ?_
  obtain ⟨hmem, hnone⟩ := hafter k
  have hat : ∀ j, j < nat8At r.payload 3 → (nat8At r.payload 2 + j) % 4 = k.val →
      Tab.get (identitiesAfter xs s.identities) k = ds j := fun j hj hk => by
    obtain ⟨b, hb⟩ := hget j hj
    exact hmem _ (List.mem_of_getElem? hb) _ ((ofNat_four_eq_iff _ _).2 (by rw [Nat.mod_mod, hk])) rfl
  have hout : (∀ j, j < nat8At r.payload 3 → (nat8At r.payload 2 + j) % 4 ≠ k.val) →
      Tab.get (identitiesAfter xs s.identities) k = s.identity k := fun hne => hnone fun x hx hk => by
    obtain ⟨j, b, hj, rfl⟩ := hplace x hx
    rw [ofNat_four_eq_iff, Nat.mod_mod] at hk
    exact hne j hj hk
  constructor
  · exact fun hfalse => ⟨fun j hj hk => by rw [← hat j hj hk, hfalse], fun hne => by rw [← hout hne, hfalse]⟩
  · rintro ⟨hin, hfree⟩
    by_cases hne : ∀ j, j < nat8At r.payload 3 → (nat8At r.payload 2 + j) % 4 ≠ k.val
    · rw [hout hne, hfree hne]
    · push Not at hne
      obtain ⟨j, hj, hk⟩ := hne
      rw [hat j hj hk, hin j hj hk]

/-! ### The rows -/

theorem exec_write {s : State} {r : Request} {rest : List Request} (h : s.headIs .write r rest) :
    exec .write s = .next (s.executeWrite r) :=
  congrArg Host.Outcome.next (State.onHead_of_headIs h State.executeWrite)

theorem exec_writeItem_idle {s : State} (h : s.writeJob = none) : exec .writeItem s = .next s :=
  congrArg Host.Outcome.next (by rw [h])

theorem exec_writeItem {s : State} {r : Request} {rest : List Request} {job : WriteJob} (hr : s.requests = r :: rest)
    (hj : s.writeJob = some job) : exec .writeItem s = .next (s.executeItem r job) :=
  congrArg Host.Outcome.next (by rw [hr, hj])

/-- WRITE and WRITE_ITEM at the head of the queue. -/
theorem writeRows (s : State) (r : Request) (rest : List Request) :
    (s.headIs .write r rest →
      (∀ st, s.checkRequest r = some st → exec .write s = .next (State.begin (s.answered r rest st []))) ∧
      (s.checkRequest r = none →
        ∃ sp, spaceOf (nat8At r.payload 1) = some sp ∧ sp.writeSize ≠ none ∧
          (s.checkItems r sp = none → exec .write s = .next (State.begin (s.answered r rest .badValue []))) ∧
          ∀ job, s.checkItems r sp = some job →
            exec .write s = .next { s with writeJob := some job } ∧
            job.items.map Prod.fst =
              (List.range (nat8At r.payload 3)).map (fun j => (nat8At r.payload 2 + j) % sp.size))) ∧
    (s.writeJob = none → exec .writeItem s = .next s) ∧
    (∀ (k : Nat) (x : Item) (more : List (Nat × Item)) (st : Status),
      s.requests = r :: rest → s.writeJob = some ⟨(k, x) :: more, st⟩ →
      (more ≠ [] → exec .writeItem s = .next { s.applyItem k x with writeJob := some ⟨more, st⟩ }) ∧
      (more = [] → exec .writeItem s = .next (State.begin ((s.applyItem k x).answered r rest st [])))) := by
  refine ⟨fun h => ⟨fun st hc => ?_, fun hc => ?_⟩, exec_writeItem_idle, fun k x more st hr hj => ⟨fun hm => ?_, fun hm => ?_⟩⟩
  · simp only [exec_write h, State.executeWrite, hc]
    rw [s.complete_eq r rest st [] h.1]
  · have hop : Operation.write = .read ∧ byteAt r.payload 0 = 1#8 ∨ Operation.write = .write ∧ byteAt r.payload 0 = 2#8 := by
      have hb := byteAt_zero_of_operation (operationOf_of_write h.2.2)
      simp at hb
      exact .inr ⟨rfl, hb⟩
    obtain ⟨sp, hsp, hw, -⟩ := run_of_checkRun (State.run_of_checkRequest hop hc)
    refine ⟨sp, hsp, hw rfl, fun hbad => ?_, fun job hjob => ⟨?_, ?_⟩⟩
    · simp only [exec_write h, State.executeWrite, hc, hsp, hbad]
      rw [s.complete_eq r rest _ [] h.1]
    · simp only [exec_write h, State.executeWrite, hc, hsp, hjob]
    · obtain ⟨n, hn⟩ := Option.ne_none_iff_exists'.1 (hw rfl)
      obtain ⟨xs, hxs, rfl⟩ := State.checkItems_eq_some hn hjob
      rw [← Request.items_indexes hxs, List.map_map]
      rfl
  · rw [exec_writeItem hr hj]
    simp only [State.executeItem, if_neg hm]
  · rw [exec_writeItem hr hj]
    simp only [State.executeItem, if_pos hm]
    rw [State.complete_eq _ r rest st [] (by rw [State.applyItem_requests, hr])]

/-- The check of a WRITE's items as a whole. -/
theorem writeChecked (s : State) (r : Request) (sp : Space) (n : Nat) (bytes : Nat → List Byte)
    (hn : sp.writeSize = some n) (hbytes : ∀ j, bytes j = ((r.payload.drop 4).drop (j * n)).take n) :
    ((∃ j, j < nat8At r.payload 3 ∧ readItem sp (bytes j) = none) → s.checkItems r sp = none) ∧
    (sp ≠ .identity → (∀ j, j < nat8At r.payload 3 → readItem sp (bytes j) ≠ none) → s.checkItems r sp ≠ none) ∧
    ∀ job, s.checkItems r sp = some job →
      (∀ j, j < nat8At r.payload 3 →
        ∃ x, readItem sp (bytes j) = some x ∧ job.items[j]? = some ((nat8At r.payload 2 + j) % sp.size, x)) ∧
      (job.status = .ok ∨ job.status = .okClamped) ∧
      (job.status = .ok ↔ ∀ j x, j < nat8At r.payload 3 → readItem sp (bytes j) = some x →
        x.asWritten (bytes j) = true) := by
  obtain rfl : bytes = itemBytes n (r.payload.drop 4) := funext hbytes
  refine ⟨fun hbad => ?_, fun hsp hgood => ?_, fun job hjob => ?_⟩
  · rw [State.checkItems_eq hn, Request.items_eq_none_iff.2 hbad]
  · have hsome : r.items sp n ≠ none := fun h => by
      obtain ⟨j, hj, hnone⟩ := Request.items_eq_none_iff.1 h
      exact hgood j hj hnone
    obtain ⟨xs, hxs⟩ := Option.ne_none_iff_exists'.1 hsome
    simp [State.checkItems_eq hn, hxs, keepsManager_of_ne hsp]
  · obtain ⟨xs, hxs, rfl⟩ := State.checkItems_eq_some hn hjob
    refine ⟨fun j hj => ?_, ?_, Request.writeStatus_eq_ok_iff hxs⟩
    · obtain ⟨x, hx, hget⟩ := Request.items_get hxs hj
      exact ⟨x, hx, by rw [List.getElem?_map, hget]; rfl⟩
    · rw [writeStatus]
      split
      · exact .inl rfl
      · exact .inr rfl

/-! ### What an item does at its owner -/

theorem clamp_of_le {lo hi n : Nat} (h1 : lo ≤ n) (h2 : n ≤ hi) : clamp lo hi n = n := by
  rw [clamp_eq, min_eq_right h2, max_eq_right h1]

/-- A member list without repeats stands as it is. -/
theorem firstMentions_of_nodup (l : List UplinkId) : ∀ seen, l.Nodup → (∀ u ∈ l, u ∉ seen) → firstMentions seen l = l := by
  induction l with
  | nil => exact fun _ _ _ => rfl
  | cons u l ih =>
    intro seen hl hseen
    obtain ⟨hu, hl⟩ := List.nodup_cons.1 hl
    have hout : ¬ seen.contains u = true := by simpa using hseen u List.mem_cons_self
    rw [firstMentions, if_neg hout, ih (u :: seen) hl]
    intro v hv
    rw [List.mem_cons, not_or]
    exact ⟨fun e => hu (e ▸ hv), hseen v (List.mem_cons_of_mem _ hv)⟩

theorem State.refreshRate_meter (s : State) (i j : SlotId) :
    (s.refreshRate i).meter j =
      if j = i then
        { s.meter i with pending := if s.wantedRate i = (s.meter i).effective then none else some (s.wantedRate i) }
      else s.meter j := s.updMeter_meter i _ j

/-- What a SLOT_POLICY item leaves of the policies. -/
theorem State.actOnAdmin_settings (s : State) (i : SlotId) (old : SlotPolicy) :
    (s.actOnAdmin i old).settings = s.settings := by
  unfold State.actOnAdmin
  (repeat' split) <;> simp

theorem State.updPolicy_updPolicy (s : State) (i : SlotId) (f g : SlotPolicy → SlotPolicy) :
    (s.updPolicy i f).updPolicy i g = s.updPolicy i fun p => g (f p) := by
  simp only [State.updPolicy, Tab.upd_upd]

/-- A FAN item is a write of its full power once its other fields stand. -/
theorem State.fanItem (s : State) (f : FanId) (a b c d : Nat) (hd : d ≤ 200) :
    ∃ w : State, w = { s with fans := w.fans } ∧
      (∀ g, w.fan g = if g = f then { s.fan g with minDrive := a, pulses := b, faultFloor := c } else s.fan g) ∧
      exec (.fanFullPowerWrite f d) w = .next (s.setFan f a b c d) := by
  let w := s.updFan f fun r => { r with minDrive := a, pulses := b, faultFloor := c }
  have hav : w.cAvail = s.cAvail := s.updFan_cAvail f _ rfl rfl
  have hfans : w.updFan f (fun r => { r with fullPower := d }) =
      s.updFan f fun r => { r with minDrive := a, pulses := b, faultFloor := c, fullPower := d } := by
    simp only [w, State.updFan, Tab.upd_upd]
  refine ⟨w, rfl, fun g => ?_, ?_⟩
  · rw [State.updFan_fan]
    split
    · next e => subst e; rfl
    · rfl
  · rw [exec_fanFullPowerWrite, clamp_of_le (Nat.zero_le _) hd, hfans, hav]
    rfl

theorem exec_memberListWrite (s : State) (g : GroupId) (members : List UplinkId) :
    exec (.memberListWrite g members) s =
      .next (if members.length ≤ 4 then s.setMembers g (firstMentions [] members) else s) := rfl

/-- A GROUPS item is a write of its members once its mode stands. -/
theorem State.groupItem (s : State) (g : GroupId) (mode : GroupMode) (members : List UplinkId)
    (hlen : members.length ≤ 4) (hnodup : members.Nodup) :
    ∃ w : State, w = { s with groups := w.groups } ∧
      (∀ h, w.group h = if h = g then { s.group h with mode := mode } else s.group h) ∧
      exec (.memberListWrite g members) w = .next (s.setGroup g mode members) := by
  refine ⟨s.updGroup g fun r => { r with mode := mode }, rfl, fun h => ?_, ?_⟩
  · rw [State.updGroup_group]
    split
    · next e => subst e; rfl
    · rfl
  · have hmembers : firstMentions [] members = members := firstMentions_of_nodup _ [] hnodup fun _ _ => by simp
    rw [exec_memberListWrite, if_pos hlen, hmembers]
    rfl

theorem State.updMap_updMap (s : State) (i : SlotId) (f g : UplinkMap → UplinkMap) :
    (s.updMap i f).updMap i g = s.updMap i fun r => g (f r) := by
  simp only [State.updMap, Tab.upd_upd]

theorem State.updMeter_updMeter (s : State) (i : SlotId) (f g : Meter → Meter) :
    (s.updMeter i f).updMeter i g = s.updMeter i fun r => g (f r) := by
  simp only [State.updMeter, Tab.upd_upd]

theorem State.updMeter_updMap (s : State) (i : SlotId) (f : Meter → Meter) (g : UplinkMap → UplinkMap) :
    (s.updMeter i f).updMap i g = (s.updMap i g).updMeter i f := rfl

/-- An UPLINK_MAP item as one change of its record and one of its meter. -/
theorem State.setMap_eq (s : State) (i : SlotId) (m : UplinkMap) :
    s.setMap i m =
      (s.updMap i fun _ => m).updMeter i fun r =>
        { r with
          tokens := min r.tokens (1024 * m.depth),
          pending :=
            if (if (s.grantOf i).capped then m.capRate else m.rate) = r.effective then none
            else some (if (s.grantOf i).capped then m.capRate else m.rate) } := by
  have hrate : ((s.updMap i fun r => { r with group := m.group, tag := m.tag }).updMap i fun r =>
      { r with rate := m.rate, capRate := m.capRate }).wantedRate i =
        if (s.grantOf i).capped then m.capRate else m.rate := by
    simp [State.wantedRate]
  rw [State.setMap, State.setRates, State.refreshRate, State.setDepth, hrate, State.updMeter_updMap,
    State.updMeter_updMeter, State.updMap_updMap, State.updMap_updMap]
  rfl

/-- An UPLINK_MAP item sets its record, the pending rate code and the bucket's limit. -/
theorem State.mapItem (s : State) (i : SlotId) (m : UplinkMap) :
    s.setMap i m = { s with uplinkMap := (s.setMap i m).uplinkMap, meters := (s.setMap i m).meters } ∧
    ∀ j, (s.setMap i m).map j = (if j = i then m else s.map j) ∧
      (s.setMap i m).meter j =
        if j = i then
          { s.meter j with
            tokens := min (s.meter j).tokens (1024 * m.depth),
            pending :=
              if (if (s.grantOf j).capped then m.capRate else m.rate) = (s.meter j).effective then none
              else some (if (s.grantOf j).capped then m.capRate else m.rate) }
        else s.meter j := by
  rw [s.setMap_eq]
  refine ⟨rfl, fun j => ⟨?_, ?_⟩⟩
  · rw [State.updMeter_map, State.updMap_map]
  · rw [State.updMeter_meter, State.updMap_meter, State.updMap_meter]
    split
    · next e => rw [e]
    · rfl

/-- A SLOT_POLICY item acts on admin_enable and then on the power fields, the other fields standing. -/
theorem State.policyItem (s : State) (i : SlotId) (p : SlotPolicy) (hpriority : p.priority ≤ 7)
    (hboot : 1 ≤ p.bootAllowance) (hboot' : p.bootAllowance ≤ 1000) (hfloor : p.bootAllowance ≤ p.capFloor)
    (hfloor' : p.capFloor ≤ 1000) :
    ∃ u v w : State, u = { s with policies := u.policies } ∧
      (∀ j, u.policy j = if j = i then { p with adminEnable := (s.policy i).adminEnable } else s.policy j) ∧
      exec (.adminEnableWrite i p.adminEnable) u = .next v ∧ w = { v with policies := w.policies } ∧
      (∀ j, w.policy j =
        if j = i then
          { p with
            priority := (s.policy i).priority, bootAllowance := (s.policy i).bootAllowance,
            capFloor := (s.policy i).capFloor }
        else s.policy j) ∧
      exec (.powerPolicyWrite i p.priority p.bootAllowance p.capFloor) w = .next (s.setPolicy i p) := by
  let u := s.updPolicy i fun _ => { p with adminEnable := (s.policy i).adminEnable }
  let v := State.actOnAdmin (s.updPolicy i fun _ => p) i (s.policy i)
  let w := v.updPolicy i fun _ =>
    { p with
      priority := (s.policy i).priority, bootAllowance := (s.policy i).bootAllowance,
      capFloor := (s.policy i).capFloor }
  have hv : v.policies = (s.updPolicy i fun _ => p).policies :=
    State.policies_of_settings (State.actOnAdmin_settings _ _ _)
  have hpolicy : ∀ j, v.policy j = if j = i then p else s.policy j := fun j => by
    rw [State.policy, hv]
    exact s.updPolicy_policy i _ j
  refine ⟨u, v, w, rfl, fun j => s.updPolicy_policy i _ j, ?_, rfl, fun j => ?_, ?_⟩
  · have hwritten : u.updPolicy i (fun q => { q with adminEnable := p.adminEnable }) = s.updPolicy i fun _ => p :=
      State.updPolicy_updPolicy s i _ _
    refine congrArg Host.Outcome.next ?_
    rw [hwritten]
    unfold v State.actOnAdmin
    simp [u]
  · rw [State.updPolicy_policy]
    split
    · rfl
    · next e => rw [hpolicy, if_neg e]
  · have hties : capFloorTied (clamp 1 1000 p.bootAllowance) p.capFloor = p.capFloor := by
      rw [capFloorTied, clamp_of_le hboot hboot', clamp_of_le (hboot.trans hfloor) hfloor', max_eq_right hfloor]
    have hwritten : w.updPolicy i (fun q =>
        { q with
          priority := clamp 0 7 p.priority, bootAllowance := clamp 1 1000 p.bootAllowance,
          capFloor := capFloorTied (clamp 1 1000 p.bootAllowance) p.capFloor }) = v := by
      rw [State.updPolicy_updPolicy, hties, clamp_of_le hboot hboot', clamp_of_le (Nat.zero_le _) hpriority]
      have hsame : Tab.upd v.policies i (fun _ => p) = v.policies := Tab.ext_get fun j => by
        rw [Tab.get_upd]
        split
        · next e => subst e; exact ((hpolicy j).trans (if_pos rfl)).symm
        · rfl
      simp only [State.updPolicy, hsame]
    have hold : w.policy i = { p with
        priority := (s.policy i).priority, bootAllowance := (s.policy i).bootAllowance,
        capFloor := (s.policy i).capFloor } := v.updPolicy_policy_self i _
    refine congrArg Host.Outcome.next ?_
    rw [hwritten, hold]
    rfl

theorem State.setStaleLimit_chassis (s : State) (n : Nat) :
    (s.setStaleLimit n).chassis = { s.chassis with staleLimit := n } := by
  unfold State.setStaleLimit
  exact (foldl_kept State.chassis (fun t i _ => by
    split
    · exact State.chassis_of_settings (t.clearTest_settings i)
    · rfl) _)

theorem State.setRole_chassis (s : State) (r : PortRole) :
    (s.setRole r).chassis = { s.chassis with roleSetting := r } := by
  unfold State.setRole
  split
  · next h => rw [← h]
  · cases r with
    | stack =>
      let t : State := { s with chassis := { s.chassis with roleSetting := .stack } }
      have hdisable := State.chassis_of_settings (t.applyDisable_settings slot15)
      refine Eq.trans ?_ hdisable
      change (t.applyDisable slot15).stackIfDisabled.chassis = _
      unfold State.stackIfDisabled
      split
      · exact State.chassis_of_settings (State.stackIfDue_settings _ _)
      · rfl
    | slot =>
      let t : State := { s with chassis := { s.chassis with roleSetting := .slot } }
      change (if s.portRole = .stack then t.takeSlotRole.applyEnable slot15 else t).chassis = t.chassis
      split
      · exact State.chassis_of_settings ((State.applyEnable_settings _ _).trans t.takeSlotRole_settings)
      · rfl

/-- The state with the settings of a CHASSIS item that no unit has to act on. -/
def State.withTimes (t : State) (c : Chassis) : State :=
  { t with
    chassis :=
      { t.chassis with
        etherType := c.etherType, firstTimeout := c.firstTimeout, gapTimeout := c.gapTimeout,
        wholeTimeout := c.wholeTimeout, queryWait := c.queryWait, holdDown := c.holdDown,
        deadInterval := c.deadInterval, dischargeTime := c.dischargeTime, resetHold := c.resetHold,
        powerGoodTimeout := c.powerGoodTimeout, debounce := c.debounce, settleTime := c.settleTime,
        criticalGrace := c.criticalGrace } }

/-- The state with the two demands of a CHASSIS item. -/
def State.withDemands (t : State) (c : Chassis) : State :=
  { t with chassis := { t.chassis with staleDemand := c.staleDemand, bootDemand := c.bootDemand } }

theorem State.setChassis_eq (s : State) (c : Chassis) :
    s.setChassis c =
      ((((s.setRedundancy c.mode c.overhead).setStaleLimit c.staleLimit).withDemands c).setRole
        c.roleSetting).withTimes c := by
  simp only [State.setChassis, State.withTimes, State.withDemands]

/-- A CHASSIS item hands over the power settings, the stale limit and the role setting, in that order. -/
theorem State.chassisItem (s : State) (c : Chassis) (hoverhead : c.overhead ≤ 2000) (hlow : 500 ≤ c.staleLimit)
    (hhigh : c.staleLimit ≤ 60000) :
    ∃ u v w : State, exec (.redundancyModeWrite c.mode c.overhead) s = .next u ∧
      exec (.staleLimitWrite c.staleLimit) u = .next v ∧
      exec (if c.roleSetting = .stack then .roleSettingStackWrite else .roleSettingSlotWrite)
        { v with chassis := { v.chassis with staleDemand := c.staleDemand, bootDemand := c.bootDemand } } = .next w ∧
      s.setChassis c = { w with chassis := c } := by
  let u := s.setRedundancy c.mode c.overhead
  let v := u.setStaleLimit c.staleLimit
  let v' := v.withDemands c
  refine ⟨u, v, v'.setRole c.roleSetting, ?_, ?_, ?_, ?_⟩
  · exact congrArg (fun n => Host.Outcome.next (s.setRedundancy c.mode n)) (clamp_of_le (Nat.zero_le _) hoverhead)
  · exact congrArg (fun n => Host.Outcome.next (u.setStaleLimit n)) (clamp_of_le hlow hhigh)
  · cases hrole : c.roleSetting <;> rfl
  · let s' : State := { s with chassis := { s.chassis with mode := c.mode, overhead := c.overhead } }
    have hu : u.chassis = s'.chassis := State.chassis_of_settings (s'.recapacity_settings s.cAvail)
    have hv : v.chassis = { u.chassis with staleLimit := c.staleLimit } := State.setStaleLimit_chassis _ _
    have hw : (v'.setRole c.roleSetting).chassis =
        { s.chassis with
          mode := c.mode, overhead := c.overhead, staleLimit := c.staleLimit, staleDemand := c.staleDemand,
          bootDemand := c.bootDemand, roleSetting := c.roleSetting } := by
      rw [State.setRole_chassis]
      simp only [v', State.withDemands, hv, hu, s']
    have hset : s.setChassis c = (v'.setRole c.roleSetting).withTimes c := State.setChassis_eq s c
    rw [hset, State.withTimes, hw]

end Sys2Proof.Machine

namespace Sys2Proof.Machine

/-- A ZONE item sets its zone's four fields, and raises a command below the min demand. -/
theorem State.zoneItem (s : State) (z : ZoneId) (a b c : Nat) (d : Bool) (y : ZoneId) :
    (s.updZone z (Zone.withSettings a b c d)).zone y =
      if y = z then
        { s.zone y with
          minDemand := a, slewUp := b, slewDown := c, stopAllowed := d, command := max (s.zone y).command a }
      else s.zone y := by
  rw [State.updZone_zone]
  split
  · next e => subst e; rfl
  · rfl

/-- What each kind of item reads from its bytes. -/
theorem readItem_fields (l : List Byte) :
    (∀ m, readItem .uplinkMap l = some (.uplinkMap m) → readMap l = some m) ∧
    (∀ mode members, readItem .groups l = some (.group mode members) → readGroup l = some (mode, members)) ∧
    (∀ p, readItem .slotPolicy l = some (.slotPolicy p) → readPolicy l = some p) ∧
    (∀ e, readItem .classify l = some (.classify e) → readClassify l = some e) ∧
    (∀ c, readItem .chassis l = some (.chassis c) → readChassis l = some c) ∧
    (∀ d, readItem .identity l = some (.identity d) → readIdentity l = some d) ∧
    ∀ c, readItem .noticeCfg l = some (.noticeCfg c) → readNoticeCfg l = some c := by
  simp only [readItem, Option.map_eq_some_iff, Item.uplinkMap.injEq, Item.group.injEq, Item.slotPolicy.injEq,
    Item.classify.injEq, Item.chassis.injEq, Item.identity.injEq, Item.noticeCfg.injEq, exists_eq_right, imp_self,
    implies_true, true_and, and_true]
  rintro mode members ⟨⟨m, ms⟩, h, rfl, rfl⟩
  exact h

/-- Settles O46: by the rows, the check as a whole, the readers of the items, and their owners. -/
theorem writeCheckedThenApplied : Obligations.WriteCheckedThenApplied := by
  unfold Obligations.WriteCheckedThenApplied
  refine ⟨writeRows, writeChecked, Identity.canWrite_iff, fun s r ds => State.checkItems_identity_eq_none_iff,
    fun l => ?readers, fun s k => ?owners⟩
  case readers =>
    obtain ⟨hmap, hgroup, hpolicy, hclassify, hchassis, hidentity, hnotice⟩ := readItem_fields l
    refine ⟨fun mode members => Item.asWritten_group mode members l, fun x hx => Item.asWritten_iff hx l, ?_, ?_,
      readItem_zone_eq_none_iff l, readItem_zone_of_flag, ?_, fun m h => readMap_fields (hmap m h), ?_,
      fun mode members h => readGroup_fields (hgroup mode members h), ?_, fun p h => readPolicy_fields (hpolicy p h), ?_,
      fun e h => readClassify_fields (hclassify e h), ?_, fun c h => readChassis_fields (hchassis c h), ?_,
      fun d h => readIdentity_fields (hidentity d h), ?_, fun c h => ?_⟩
    · simp only [readItem, clamp_zero]
    · simp only [readItem, clamp_zero]
      rfl
    · rw [readItem, Option.map_eq_none_iff, readMap_eq_none_iff]
    · rw [readItem, Option.map_eq_none_iff, readGroup_eq_none_iff]
    · rw [readItem, Option.map_eq_none_iff, readPolicy_eq_none_iff]
    · rw [readItem, Option.map_eq_none_iff, readClassify_eq_none_iff]
    · rw [readItem, Option.map_eq_none_iff, readChassis_eq_none_iff]
    · rw [readItem, Option.map_eq_none_iff, readIdentity_eq_none_iff]
    · simp [readItem, readNoticeCfg_eq]
    · have hread := hnotice c h
      rw [readNoticeCfg_eq, Option.ite_none_left_eq_some] at hread
      exact (Option.some.inj hread.2).symm
  case owners =>
    refine ⟨fun e => rfl, fun c hc => ?_, fun c hc => ?_, fun d => ⟨rfl, fun j => s.updIdentity_identity _ _ j⟩,
      fun a b c d => ⟨_, rfl, rfl, fun z => s.zoneItem _ a b c d z⟩, fun m => ⟨_, rfl, (s.mapItem _ m).1, (s.mapItem _ m).2⟩,
      fun mode members => s.groupItem _ mode members, fun a b c d => s.fanItem _ a b c d, fun p i hi => ?_,
      fun c => s.chassisItem c⟩
    · exact congrArg (fun n => Host.Outcome.next (s.setCapacity (Fin.ofNat 6 k) n)) (clamp_of_le (Nat.zero_le _) hc)
    · exact congrArg (fun n => Host.Outcome.next (s.setNoticeCfg { c with spacing := n }))
        (clamp_of_le (Nat.zero_le _) hc)
    · subst hi
      exact s.policyItem _ p

end Sys2Proof.Machine

/-! ### Table and field writes (O30, O28), the thermal cap's marks -/

namespace Sys2Proof.Machine

/-! ### Tables (O30) -/

theorem State.recomputeGroup_frame (s : State) (g : GroupId) (l : List UplinkId) :
    s.recomputeGroup g l =
      { s with
        groups := (s.recomputeGroup g l).groups, notices := (s.recomputeGroup g l).notices,
        spacing := (s.recomputeGroup g l).spacing, noticeSeq := (s.recomputeGroup g l).noticeSeq,
        sent := (s.recomputeGroup g l).sent } := by
  unfold State.recomputeGroup
  dsimp only
  split
  · rfl
  · rw [State.raiseAll_side]
    rfl

theorem exec_noticeCfgWrite (s : State) (c : NoticeCfg) :
    exec (.noticeCfgWrite c) s = .next (s.setNoticeCfg { c with spacing := clamp 0 1000 c.spacing }) := rfl

theorem exec_serviceEthertypeWrite (s : State) (v : BitVec 16) :
    exec (.serviceEthertypeWrite v) s =
      .next (if etherTypeAllowed v then { s with chassis := { s.chassis with etherType := v } } else s) := rfl

/-- Settles O30: by the bounds of each write. -/
theorem tableWritesTakeEffect : Obligations.TableWritesTakeEffect := by
  unfold Obligations.TableWritesTakeEffect
  refine ⟨fun s g members => ⟨fun hlen => ?_, fun hlen => ?_⟩, fun s k e => ⟨_, rfl, rfl, fun j => s.updClassEntry_classEntry k _ j⟩,
    fun s v => ⟨fun hbad => ?_, fun hlow hne => ?_⟩, fun s c => ?_⟩
  · rw [exec_memberListWrite, if_neg (by omega)]
  · let t := s.updGroup g fun r => { r with members := firstMentions [] members }
    have hgroup : ∀ h, (s.setMembers g (firstMentions [] members)).group h =
        if h = g then { t.group g with active := t.usableMembers (t.group g).members } else t.group h :=
      fun h => State.recomputeGroup_group t g h (s.group g).members
    have hself := (hgroup g).trans (if_pos rfl)
    rw [State.updGroup_group_self] at hself
    refine ⟨s.setMembers g (firstMentions [] members), by rw [exec_memberListWrite, if_pos hlen], ?_, fun h hne => ?_, ?_, ?_,
      ?_, ?_, ?_⟩
    · exact State.recomputeGroup_frame t g (s.group g).members
    · rw [hgroup, if_neg hne, State.updGroup_group_ne _ _ hne]
    · rw [hself]
    · rw [hself]
    · rw [hself]
      rfl
    · rw [hself]
      exact nodup_firstMentions _ _
    · intro u
      rw [hself, mem_firstMentions]
      simp
  · have hout : ¬ etherTypeAllowed v = true := by
      simp only [etherTypeAllowed, listedEtherType, Bool.and_eq_true, decide_eq_true_eq, not_and, not_not]
      exact fun h => hbad.resolve_left (Nat.not_lt.2 h)
    rw [exec_serviceEthertypeWrite, if_neg hout]
  · have hin : etherTypeAllowed v = true := by
      simp only [etherTypeAllowed, listedEtherType, Bool.and_eq_true, decide_eq_true_eq]
      exact ⟨hlow, hne⟩
    rw [exec_serviceEthertypeWrite, if_pos hin]
  · rw [exec_noticeCfgWrite, clamp_zero]
    exact ⟨_, rfl, rfl, rfl⟩

/-! ### The thermal cap under the arbiter and the tests -/

theorem State.admitBoot_thermalCap (s : State) (i j : SlotId) :
    ((s.admitBoot i).grantOf j).thermalCap = (s.grantOf j).thermalCap := by
  unfold State.admitBoot
  have hramp : ∀ t : State, (t.startRamp i).grantOf j = t.grantOf j := fun t => by
    have hreports : ∀ (l : List RailReport) (u : State), (u.takeReports i l).grantOf j = u.grantOf j := fun l u => by
      refine foldl_kept (·.grantOf j) (fun s r _ => ?_) u
      unfold State.takeReport
      (repeat' split) <;> rfl
    rw [State.startRamp, State.raise_grantOf, hreports]
    rfl
  rw [hramp, State.remark_grantOf]
  obtain ⟨a, ha⟩ := State.numberAdmission_grantOf (s.updGrant i fun g =>
    { g with grant := (s.policy i).bootAllowance, target := (s.policy i).bootAllowance }) i
      j
  have hdequeue : ∀ t : State, (t.dequeue i .boot).grantOf j = t.grantOf j := fun _ => rfl
  by_cases e : j = i
  · subst e
    simp [hdequeue, ha]
  · rw [if_neg e, hdequeue, ha, State.updGrant_grantOf_ne _ _ e]

theorem State.upgrade_thermalCap (s : State) (i j : SlotId) :
    ((s.upgrade i).grantOf j).thermalCap = (s.grantOf j).thermalCap := by
  have hdequeue : ∀ (t : State) (j : SlotId), (t.dequeue i .upgrade).grantOf j = t.grantOf j := fun _ _ => rfl
  rw [State.upgrade, State.remark_grantOf, hdequeue, hdequeue]
  by_cases e : j = i
  · subst e; simp
  · rw [if_neg e, State.updGrant_grantOf_ne _ _ e]

theorem State.partialStep_thermalCap (s : State) (i j : SlotId) :
    ((s.partialStep i).grantOf j).thermalCap = (s.grantOf j).thermalCap := by
  unfold State.partialStep
  split
  · rw [State.remark_grantOf]
    by_cases e : j = i
    · subst e; simp
    · rw [if_neg e, State.updGrant_grantOf_ne _ _ e]
  · rfl

/-- The arbiter changes no thermal cap. -/
theorem State.arbiter_thermalCap (s : State) (j : SlotId) :
    (s.arbiter.grantOf j).thermalCap = (s.grantOf j).thermalCap := by
  refine State.arbiter_induct (P := fun _ => True) (R := fun s t => (t.grantOf j).thermalCap = (s.grantOf j).thermalCap)
    (fun _ => rfl) (fun _ _ _ h k => k.trans h) (fun s e _ _ _ => ⟨?_, trivial⟩) (fun s e _ _ _ => ?_) trivial
  · unfold State.serve
    split
    · exact s.admitBoot_thermalCap e.slot j
    · exact s.upgrade_thermalCap e.slot j
  · unfold State.stopAt
    split
    · rfl
    · exact s.partialStep_thermalCap e.slot j

theorem State.arbiter_thermal (s : State) : s.arbiter.thermal = s.thermal := by
  rw [State.arbiter_side]
  rfl

theorem State.remark_thermalCap (s : State) (i j : SlotId) :
    ((s.remark i).grantOf j).thermalCap = (s.grantOf j).thermalCap := by
  rw [State.remark_grantOf]
  split
  · next e => rw [e]
  · rfl

theorem State.remark_thermal (s : State) (i : SlotId) : (s.remark i).thermal = s.thermal := by
  rw [State.remark_frame]

theorem State.liftThermalCap_grantOf (s : State) (i j : SlotId) :
    (s.liftThermalCap i).grantOf j = if j = i then { s.grantOf i with thermalCap := false } else s.grantOf j := by
  unfold State.liftThermalCap
  split
  · rw [State.raise_grantOf, State.updGrant_grantOf]
  · next h =>
    split
    · next e =>
      subst e
      cases hg : s.grantOf j
      simp_all
    · rfl

theorem State.liftThermalCap_thermal (s : State) (i : SlotId) : (s.liftThermalCap i).thermal = s.thermal := by
  unfold State.liftThermalCap
  split <;> simp

theorem State.clearThermalCap_thermalCap (s : State) (i j : SlotId) :
    ((s.clearThermalCap i).grantOf j).thermalCap = if j = i then false else (s.grantOf j).thermalCap := by
  unfold State.clearThermalCap
  split
  · have hlift : ((s.liftThermalCap i).grantOf j).thermalCap = if j = i then false else (s.grantOf j).thermalCap := by
      rw [State.liftThermalCap_grantOf]
      split <;> rfl
    dsimp only
    rw [State.remark_thermalCap, ← hlift]
    split
    · rw [State.arbiter_thermalCap, State.enqueue_frame]
      rfl
    · rfl
  · next h =>
    split
    · next e => rw [e]; simpa using h
    · rfl

theorem State.clearThermalCap_thermal (s : State) (i : SlotId) : (s.clearThermalCap i).thermal = s.thermal := by
  unfold State.clearThermalCap
  split
  · dsimp only
    rw [State.remark_thermal, ← s.liftThermalCap_thermal i]
    split
    · rw [State.arbiter_thermal, State.enqueue_frame]
    · rfl
  · rfl

/-- A slot whose critical flag is set and whose every sensor is cool. -/
def State.clears (s : State) (i : SlotId) : Bool :=
  (s.thermalOf i).critical && (s.thermalOf i).sensors.all (Sensor.cool s.chassis.staleLimit)

theorem State.clearTest_of_not {s : State} {i : SlotId} (h : s.clears i = false) : s.clearTest i = s :=
  if_neg (by rw [← State.clears, h]; simp)

theorem State.clearTest_thermalOf (s : State) (i j : SlotId) :
    (s.clearTest i).thermalOf j =
      if j = i ∧ s.clears i = true then { s.thermalOf i with critical := false, grace := none } else s.thermalOf j := by
  unfold State.clearTest
  rw [← State.clears]
  split
  · next h =>
    rw [State.thermalOf, State.clearThermalCap_thermal]
    refine (s.updThermal_thermalOf i _ j).trans ?_
    simp [h]
  · next h => simp [h]

theorem State.clearTest_thermalCap (s : State) (i j : SlotId) :
    ((s.clearTest i).grantOf j).thermalCap =
      if j = i ∧ s.clears i = true then false else (s.grantOf j).thermalCap := by
  unfold State.clearTest
  rw [← State.clears]
  split
  · next h =>
    rw [State.clearThermalCap_thermalCap]
    simp [h]
  · next h => simp [h]

/-! ### Field writes (O28) -/

/-- A fold that touches a view of the state only at one element of its list has there the one change. -/
theorem foldl_view {α β : Type} {F : State → α → State} {π : State → β} {a : α}
    (h : ∀ s b, b ≠ a → π (F s b) = π s) {l : List α} (hl : l.Nodup) (ha : a ∈ l) (s : State) :
    ∃ t, π t = π s ∧ π (l.foldl F s) = π (F t a) := by
  obtain ⟨before, after, rfl⟩ := List.append_of_mem ha
  have hbefore : ∀ b ∈ before, b ≠ a := fun b hb e => (List.nodup_append.1 hl).2.2 b hb a List.mem_cons_self e
  have hafter : a ∉ after := (List.nodup_cons.1 (List.nodup_append.1 hl).2.1).1
  refine ⟨before.foldl F s, foldl_kept π (fun s b hb => h s b (hbefore b hb)) s, ?_⟩
  rw [List.foldl_append, List.foldl_cons]
  exact foldl_kept π (fun s b hb => h s b (ne_of_mem_of_not_mem hb hafter)) _

theorem exec_minDemandWrite (s : State) (z : ZoneId) (w : Nat) :
    exec (.minDemandWrite z w) s = .next (s.updZone z (Zone.withMinDemand (clamp 0 1000 w))) := rfl

theorem exec_staleLimitWrite (s : State) (w : Nat) :
    exec (.staleLimitWrite w) s = .next (s.setStaleLimit (clamp 500 60000 w)) := rfl

theorem exec_rateCodeWrite (s : State) (i : SlotId) (rate cap : RateCode) :
    exec (.rateCodeWrite i rate cap) s = .next (s.setRates i rate cap) := rfl

theorem exec_bucketDepthWrite (s : State) (i : SlotId) (kib : Nat) :
    exec (.bucketDepthWrite i kib) s = .next (s.setDepth i (clamp 1 256 kib)) := rfl

/-- One slot's step of a stale limit's write. -/
def State.staleStep (s : State) (limit : Nat) (t : State) (i : SlotId) : State :=
  if (s.thermalOf i).turnsStale s.chassis.staleLimit limit then t.clearTest i else t

theorem State.setStaleLimit_eq (s : State) (limit : Nat) :
    s.setStaleLimit limit =
      allSlots.foldl (s.staleStep limit) { s with chassis := { s.chassis with staleLimit := limit } } := rfl

theorem State.staleStep_settings (s : State) (limit : Nat) (t : State) (i : SlotId) :
    (s.staleStep limit t i).settings = t.settings := by
  unfold State.staleStep
  split
  · exact t.clearTest_settings i
  · rfl

/-- What a stale limit's write leaves of one slot. -/
theorem State.setStaleLimit_slot (s : State) (limit : Nat) (i : SlotId) :
    ((s.setStaleLimit limit).thermalOf i, ((s.setStaleLimit limit).grantOf i).thermalCap) =
      if (s.thermalOf i).turnsStale s.chassis.staleLimit limit = true ∧ (s.thermalOf i).critical = true ∧
          (s.thermalOf i).sensors.all (Sensor.cool limit) = true then
        ({ s.thermalOf i with critical := false, grace := none }, false)
      else (s.thermalOf i, (s.grantOf i).thermalCap) := by
  let π : State → ThermalRecord × Bool × Nat := fun t => (t.thermalOf i, (t.grantOf i).thermalCap, t.chassis.staleLimit)
  have hπ : ∀ t : State, ∀ j, j ≠ i → π (s.staleStep limit t j) = π t := fun t j hj => by
    have hchassis : (s.staleStep limit t j).chassis = t.chassis :=
      State.chassis_of_settings (s.staleStep_settings limit t j)
    simp only [π, hchassis, Prod.mk.injEq, and_true]
    unfold State.staleStep
    split
    · rw [State.clearTest_thermalOf, State.clearTest_thermalCap, if_neg fun h => hj h.1.symm, if_neg fun h => hj h.1.symm]
      exact ⟨rfl, rfl⟩
    · exact ⟨rfl, rfl⟩
  obtain ⟨t, ht, hfold⟩ := foldl_view (F := s.staleStep limit) (π := π) (a := i) hπ (List.nodup_finRange 16)
    (List.mem_finRange i) { s with chassis := { s.chassis with staleLimit := limit } }
  simp only [π, Prod.mk.injEq] at ht hfold
  obtain ⟨hrecord, hcap, hlimit⟩ := ht
  have hresult : ((s.setStaleLimit limit).thermalOf i, ((s.setStaleLimit limit).grantOf i).thermalCap) =
      ((s.staleStep limit t i).thermalOf i, ((s.staleStep limit t i).grantOf i).thermalCap) :=
    Prod.ext hfold.1 hfold.2.1
  have hclears : t.clears i = ((s.thermalOf i).critical && (s.thermalOf i).sensors.all (Sensor.cool limit)) := by
    rw [State.clears, hrecord, hlimit]
    rfl
  rw [hresult]
  unfold State.staleStep
  by_cases hturns : (s.thermalOf i).turnsStale s.chassis.staleLimit limit = true
  · rw [if_pos hturns, State.clearTest_thermalOf, State.clearTest_thermalCap, hclears, hrecord, hcap]
    simp only [hturns, true_and, Bool.and_eq_true]
    split <;> rfl
  · rw [if_neg hturns, if_neg fun h => hturns h.1, hrecord, hcap]
    rfl

/-- Settles O28: by the fields of each write, and slot by slot for the stale limit. -/
theorem fieldWritesTakeEffect : Obligations.FieldWritesTakeEffect := by
  unfold Obligations.FieldWritesTakeEffect
  refine ⟨fun s z w => ?demand, fun s w limit hlimit => ?stale, fun s i rate cap => ?rates, fun s i kib => ?depth⟩
  case demand =>
    refine ⟨_, exec_minDemandWrite s z w, rfl, fun y => ?_⟩
    rw [State.updZone_zone, clamp_zero]
    rfl
  case stale =>
    obtain rfl : limit = clamp 500 60000 w := hlimit
    let r : State := { s with chassis := { s.chassis with staleLimit := clamp 500 60000 w } }
    have hset : (s.setStaleLimit (clamp 500 60000 w)).settings = r.settings :=
      foldl_kept State.settings (fun t i _ => s.staleStep_settings _ t i) r
    refine ⟨_, exec_staleLimitWrite s w, State.setStaleLimit_chassis s _, (State.fans_of_settings hset).trans rfl,
      (State.psus_of_settings hset).trans rfl, fun hnone => ?_, fun i => ⟨fun hcrit hturns hcool => ?_, fun hkept => ?_⟩⟩
    · have hfixed : ∀ i, s.staleStep (clamp 500 60000 w) r i = r := fun i => by
        unfold State.staleStep
        split
        · refine State.clearTest_of_not ?_
          rw [State.clears, show (r.thermalOf i).critical = false from hnone i]
          rfl
        · rfl
      exact (s.setStaleLimit_eq _).trans (List.foldl_fixed' hfixed allSlots)
    · have hslot := s.setStaleLimit_slot (clamp 500 60000 w) i
      rw [if_pos ⟨by simpa [ThermalRecord.turnsStale] using hturns, hcrit, List.all_eq_true.2 hcool⟩] at hslot
      exact Prod.mk.inj hslot
    · have hslot := s.setStaleLimit_slot (clamp 500 60000 w) i
      rw [if_neg ?_] at hslot
      · exact Prod.mk.inj hslot
      · rintro ⟨hturns, hcrit, hcool⟩
        rcases hkept with hc | hfresh | ⟨x, hx, hwarm⟩
        · rw [hc] at hcrit
          cases hcrit
        · simp only [ThermalRecord.turnsStale, List.any_eq_true, Bool.and_eq_true, Bool.not_eq_true'] at hturns
          obtain ⟨x, hx, hfalse, htrue⟩ := hturns
          rcases hfresh x hx with h | h
          · rw [h] at hfalse
            cases hfalse
          · rw [h] at htrue
            cases htrue
        · rw [List.all_eq_true.1 hcool x hx] at hwarm
          cases hwarm
  case rates =>
    refine ⟨_, exec_rateCodeWrite s i rate cap, rfl, fun j => ?_, fun j => ?_⟩
    · exact s.updMap_map i _ j
    · rw [State.setRates, State.refreshRate_meter]
      split
      · simp [State.wantedRate]
      · rfl
  case depth =>
    rw [exec_bucketDepthWrite, exec_bucketDepthWrite]
    refine congrArg (fun n => Host.Outcome.next (s.setDepth i n)) ?_
    change clamp 1 256 kib = clamp 1 256 (clamp 1 256 kib)
    obtain ⟨h1, h2⟩ := clamp_bounds (lo := 1) (hi := 256) (n := kib) (by decide)
    rw [clamp_of_le h1 h2]

end Sys2Proof.Machine

/-! ### Drains and the entry to ONLINE (O11, O9) -/

namespace Sys2Proof.Machine

/-! ### The rail's course down -/

/-- A RAMP_DOWN that is taken. -/
theorem Rail.rampDown_taken {v : RailEnv} {c : DrainCause} {r : Rail} (h : r.op ≠ .rampDown) :
    (r.rampDown v c).op = .rampDown ∧ (r.rampDown v c).downCause = c ∧ (r.rampDown v c).bladeReset = true ∧
      (r.rampDown v c).mainEnable = false ∧ (r.rampDown v c).powerGoodTimer = none ∧
      (r.rampDown v c).resetTimer = none := by
  unfold Rail.rampDown
  rw [if_neg h]
  dsimp only
  unfold Rail.releaseMain Rail.assertDischarge
  dsimp only
  split
  · split <;> exact ⟨rfl, rfl, rfl, rfl, rfl, rfl⟩
  · next hmain =>
    have hoff : r.mainEnable = false := by simpa using hmain
    split <;> exact ⟨rfl, rfl, rfl, hoff, rfl, rfl⟩

theorem Rail.rampDown_wires (v : RailEnv) (c : DrainCause) (r : Rail) :
    (r.rampDown v c).powerGood = r.powerGood ∧ (r.rampDown v c).powerCap = r.powerCap := by
  unfold Rail.rampDown
  split
  · exact ⟨rfl, rfl⟩
  · dsimp only
    unfold Rail.releaseMain Rail.assertDischarge
    dsimp only
    split <;> split <;> exact ⟨rfl, rfl⟩

/-! ### What a drain changes -/

/-- The state s with the parts of t that a drain may change. -/
def State.drainSideOf (s t : State) : State := { s.arbiterSideOf t with thermal := t.thermal }

theorem State.drainSideOf_trans {s t u : State} (h : t = s.drainSideOf t) (k : u = t.drainSideOf u) :
    u = s.drainSideOf u :=
  calc
    u = t.drainSideOf u := k
    _ = (s.drainSideOf t).drainSideOf u := congrArg (fun x => State.drainSideOf x u) h
    _ = s.drainSideOf u := rfl

theorem State.drainSideOf_of_arbiterSide {s t : State} (h : t = s.arbiterSideOf t) : t = s.drainSideOf t :=
  calc
    t = s.arbiterSideOf t := h
    _ = s.drainSideOf (s.arbiterSideOf t) := rfl
    _ = s.drainSideOf t := congrArg s.drainSideOf h.symm

theorem State.enter_drainSide (s : State) (i : SlotId) (st : SlotState) : s.enter i st = s.drainSideOf (s.enter i st) := by
  refine State.drainSideOf_of_arbiterSide (State.arbiterSideOf_trans (t := s.setSlotState i st) rfl ?_)
  exact State.raise_arbiterSide _ _

theorem State.markReleasing_arbiterSide (s : State) (i : SlotId) :
    s.markReleasing i = s.arbiterSideOf (s.markReleasing i) :=
  State.arbiterSideOf_trans (t := (s.updGrant i fun g => { g with releasing := true }).dequeue i .upgrade) rfl
    (State.arbiter_side _)

theorem State.drainGrant_arbiterSide (s : State) (i : SlotId) (c : DrainCause) :
    s.drainGrant i c = s.arbiterSideOf (s.drainGrant i c) := by
  unfold State.drainGrant
  split
  · rfl
  · exact s.markReleasing_arbiterSide i

/-- The course of a drain up to its grant: the record, and the actions of the state it leaves. -/
def State.leaveForDrain (s : State) (i : SlotId) (cause : DrainCause) (next : DrainNext) (fault : FaultCause) : State :=
  let t := s.updSlot i (Slot.recordDrain cause next fault)
  let t := if (s.slot i).state = .online then t.exitOnline i else t
  if (s.slot i).state = .announcing then t.closeContext i else t

theorem State.startDrain_eq {s : State} {i : SlotId} (h : (s.slot i).state.drainable = true) (c : DrainCause)
    (n : DrainNext) (f : FaultCause) :
    s.startDrain i c n f =
      (((s.leaveForDrain i c n f).drainGrant i c).setRail i
        ((((s.leaveForDrain i c n f).drainGrant i c).rail i).rampDown
          ((s.leaveForDrain i c n f).drainGrant i c).railEnv c)).enter i .draining := if_pos h

theorem State.leaveForDrain_frame (s : State) (i : SlotId) (c : DrainCause) (n : DrainNext) (f : FaultCause) :
    s.leaveForDrain i c n f =
      { s.updSlot i (Slot.recordDrain c n f) with
        contexts := (s.leaveForDrain i c n f).contexts, thermal := (s.leaveForDrain i c n f).thermal } := by
  have hexit := (s.updSlot i (Slot.recordDrain c n f)).exitOnline_frame i
  unfold State.leaveForDrain
  dsimp only
  by_cases honline : (s.slot i).state = .online
  · simp only [honline, reduceCtorEq, if_true, if_false]
    exact hexit
  · by_cases hannounce : (s.slot i).state = .announcing
    · simp only [hannounce, reduceCtorEq, if_true, if_false]
      rfl
    · simp only [honline, hannounce, if_false]

theorem State.startDrain_drainSide (s : State) (i : SlotId) (c : DrainCause) (n : DrainNext) (f : FaultCause) :
    s.startDrain i c n f = s.drainSideOf (s.startDrain i c n f) := by
  by_cases h : (s.slot i).state.drainable = true
  · rw [State.startDrain_eq h]
    refine State.drainSideOf_trans ?_ (State.enter_drainSide _ _ _)
    refine State.drainSideOf_trans (t := (s.leaveForDrain i c n f).drainGrant i c) ?_ rfl
    refine State.drainSideOf_trans ?_ (State.drainSideOf_of_arbiterSide (State.drainGrant_arbiterSide _ i c))
    rw [State.leaveForDrain_frame]
    rfl
  · rw [State.startDrain, if_neg h]
    rfl

/-- The grant's part of a drain passes the slot's other records by. -/
theorem State.drainGrant_passes {s : State} {i : SlotId} (c : DrainCause) (hb : s.hasEntry i .boot = false) :
    (∃ a, (s.drainGrant i c).slot i = { s.slot i with admission := a }) ∧
    (∃ b, (s.drainGrant i c).rail i = { s.rail i with powerCap := b }) ∧
    (s.drainGrant i c).context i = s.context i ∧
    (c ≠ .budget → ((s.drainGrant i c).grantOf i).releasing = true ∧ (s.drainGrant i c).hasEntry i .upgrade = false) := by
  unfold State.drainGrant
  split
  · next hc => exact ⟨⟨_, rfl⟩, ⟨_, rfl⟩, rfl, fun h => absurd hc h⟩
  · let m := (s.updGrant i fun g => { g with releasing := true }).dequeue i .upgrade
    have hboot : m.hasEntry i .boot = false := by
      rw [State.dequeue_hasEntry, Bool.and_eq_false_iff]
      exact .inl hb
    have hupgrade : m.hasEntry i .upgrade = false := by simp [m, State.dequeue_hasEntry]
    have hpass := State.arbiter_passes hboot
    refine ⟨hpass.slot, hpass.rail, hpass.context, fun _ => ⟨?_, hpass.entries _ hupgrade⟩⟩
    obtain ⟨a, ha⟩ := hpass.grant hupgrade
    have hgrant : m.grantOf i = { s.grantOf i with releasing := true } := s.updGrant_grantOf_self i _
    change (m.arbiter.grantOf i).releasing = true
    rw [ha, hgrant]

theorem State.leaveForDrain_context (s : State) (i : SlotId) (c : DrainCause) (n : DrainNext) (f : FaultCause) :
    ((s.slot i).state = .announcing → (s.leaveForDrain i c n f).context i = contextClosed) ∧
    ((s.slot i).state = .online → (s.context i).mode = .refresh →
      (s.leaveForDrain i c n f).context i = contextClosed) := by
  refine ⟨fun h => ?_, fun h hm => ?_⟩
  · simp [State.leaveForDrain, h, State.closeContext]
  · simp only [State.leaveForDrain, h, if_true, reduceCtorEq, if_false]
    exact (State.exitOnline_context _ i i).trans (if_pos ⟨rfl, hm⟩)

theorem State.leaveForDrain_thermalOf (s : State) (i : SlotId) (c : DrainCause) (n : DrainNext) (f : FaultCause)
    (h : (s.slot i).state = .online) :
    (s.leaveForDrain i c n f).thermalOf i = { s.thermalOf i with critical := false, grace := none } := by
  simp only [State.leaveForDrain, h, if_true, reduceCtorEq, if_false]
  exact (State.exitOnline_thermalOf _ i i).trans (if_pos rfl)

/-- Settles O11: by the three stages of a drain's start. -/
theorem drainStartTakesItsActions : Obligations.DrainStartTakesItsActions := by
  unfold Obligations.DrainStartTakesItsActions
  intro s i c n f
  refine ⟨fun h => if_neg (by simp [h]), fun h hb hop => ?_⟩
  let u := s.leaveForDrain i c n f
  have hframe := s.leaveForDrain_frame i c n f
  have hboot : u.hasEntry i .boot = false := by
    rw [show u = _ from hframe]
    exact hb
  obtain ⟨⟨a, hslot⟩, ⟨b, hrail⟩, hcontext, hgrant⟩ := State.drainGrant_passes c hboot
  have hurail : u.rail i = s.rail i := by rw [show u = _ from hframe]; rfl
  have huslot : u.slot i = Slot.recordDrain c n f (s.slot i) := by
    rw [show u = _ from hframe]
    exact s.updSlot_slot_self i _
  have htaken := Rail.rampDown_taken (v := (u.drainGrant i c).railEnv) (c := c) (r := (u.drainGrant i c).rail i)
    (by rw [hrail, hurail]; exact hop)
  have hthermal : (u.drainGrant i c).thermal = u.thermal := by
    rw [State.drainGrant_arbiterSide]
    rfl
  dsimp only
  rw [State.startDrain_eq h]
  simp only [State.enter, State.setSlotState, State.raise_slot, State.raise_context, State.raise_thermalOf,
    State.raise_grantOf, State.raise_rail, State.hasEntry, State.raise_powerQueue, State.setRail, State.updSlot_slot_self,
    State.updSlot_rail, State.updRail_rail_self, State.updSlot_context, State.updSlot_thermalOf, State.updSlot_grantOf,
    State.updSlot_powerQueue, State.updRail_slot, State.updRail_context, State.updRail_thermalOf, State.updRail_grantOf,
    State.updRail_powerQueue]
  refine ⟨trivial, ?_, ?_, ?_, ?_, fun hst => ?_, fun hst hm => ?_, fun hst => ?_, fun hc => hgrant hc, htaken⟩
  · rw [hslot, huslot]; rfl
  · rw [hslot, huslot]; rfl
  · rw [hslot, huslot]; rfl
  · rw [hslot, huslot]; rfl
  · rw [hcontext, (s.leaveForDrain_context i c n f).1 hst]; rfl
  · rw [hcontext, (s.leaveForDrain_context i c n f).2 hst hm]; rfl
  · rw [State.thermalOf, hthermal]
    change (u.thermalOf i).critical = false ∧ (u.thermalOf i).grace = none
    rw [s.leaveForDrain_thermalOf i c n f hst]
    exact ⟨rfl, rfl⟩

/-! ### Entry to ONLINE (O9) -/

theorem State.setTest_of_not {s : State} {i : SlotId} {xs : List Sensor}
    (h : (s.thermalOf i).critical = true ∨ xs.any (Sensor.critical s.chassis.staleLimit) = false) :
    s.setTest i xs = s := by
  refine if_neg ?_
  rcases h with h | h <;> simp [h]

theorem State.setTest_of_critical {s : State} {i : SlotId} {xs : List Sensor} (h : (s.thermalOf i).critical = false)
    (hx : xs.any (Sensor.critical s.chassis.staleLimit) = true) :
    s.setTest i xs =
      ((s.updThermal i fun r => { r with critical := true }).setThermalCap i).updThermal i fun r =>
        { r with grace := s.timer s.chassis.criticalGrace } := if_pos (by simp [h, hx])

/-- A thermal cap asked for, the grant not releasing, is set; the slot's record stands but for its admission. -/
theorem State.setThermalCap_slot {s : State} {i : SlotId} (hb : s.hasEntry i .boot = false)
    (hr : (s.grantOf i).releasing = false) :
    (∃ a, (s.setThermalCap i).slot i = { s.slot i with admission := a }) ∧
    ((s.setThermalCap i).grantOf i).thermalCap = true ∧ (s.setThermalCap i).thermal = s.thermal := by
  unfold State.setThermalCap
  split
  · next h =>
    rw [hr, Bool.or_false] at h
    exact ⟨⟨_, rfl⟩, h, rfl⟩
  · let m := ((s.updGrant i fun g => { g with thermalCap := true }).raise (.thermalCapOn i)).dequeue i .upgrade
    let u := (m.updGrant i fun g => { g with grant := min g.grant (s.capLevel i) }).remark i
    have hm : m.slot i = s.slot i := by
      change (State.raise _ _).slot i = _
      rw [State.raise_slot]
      rfl
    have hslot : u.slot i = s.slot i := by
      rw [← hm]
      exact congrArg (fun t => Tab.get t.slots i) (State.remark_frame _ i)
    have hboot : u.hasEntry i .boot = false := by
      rw [State.hasEntry, State.remark_powerQueue]
      change m.hasEntry i .boot = false
      rw [State.dequeue_hasEntry, Bool.and_eq_false_iff, State.hasEntry, State.raise_powerQueue]
      exact .inl hb
    have hcap : (u.grantOf i).thermalCap = true := by
      rw [State.remark_thermalCap, State.updGrant_grantOf_self]
      change ((State.raise _ _).grantOf i).thermalCap = true
      rw [State.raise_grantOf, State.updGrant_grantOf_self]
    have hthermal : u.thermal = s.thermal := by
      rw [State.remark_thermal]
      change (State.raise _ _).thermal = _
      rw [State.raise_thermal]
      rfl
    obtain ⟨a, ha⟩ := (State.arbiter_passes hboot).slot
    exact ⟨⟨a, by rw [← hslot]; exact ha⟩, by rw [State.arbiter_thermalCap]; exact hcap,
      by rw [State.arbiter_thermal]; exact hthermal⟩

/-- Settles O9: by the set test of R107. -/
theorem onlineEntryMakesSetTest : Obligations.OnlineEntryMakesSetTest := by
  unfold Obligations.OnlineEntryMakesSetTest
  intro s i hcrit hb
  let v := s.updSlot i fun r => { r with hold := none, retryCount := 0, faultCause := .none, state := .online }
  let u := v.raise (.stateChange i)
  have henter : s.enterOnline i = u.setTest i (s.thermalOf i).sensors := by
    rw [State.enterOnline, State.enter_updSlot]
    simp only [State.raise_thermalOf, State.updSlot_thermalOf]
    rfl
  have hucrit : (u.thermalOf i).critical = false := by
    rw [State.raise_thermalOf]
    exact hcrit
  have hlimit : u.chassis = s.chassis := by
    rw [State.raise_chassis]
    rfl
  refine ⟨fun hx => ⟨v, ?_, rfl, fun j => ?_⟩, fun hx hr => ?_⟩
  · rw [henter]
    exact State.setTest_of_not (.inr (by rw [hlimit]; exact hx))
  · rw [State.updSlot_slot]
  · let w := u.updThermal i fun r => { r with critical := true }
    have hwslot : w.slot i = v.slot i := by
      change u.slot i = _
      rw [State.raise_slot]
    have hwboot : w.hasEntry i .boot = false := by
      change u.hasEntry i .boot = false
      rw [State.hasEntry, State.raise_powerQueue]
      exact hb
    have hwreleasing : (w.grantOf i).releasing = false := by
      change (u.grantOf i).releasing = false
      rw [State.raise_grantOf]
      exact hr
    obtain ⟨⟨a, hslot⟩, hcap, hthermal⟩ := State.setThermalCap_slot hwboot hwreleasing
    have htimer : u.timer u.chassis.criticalGrace = s.timer s.chassis.criticalGrace := by
      rw [State.timer, hlimit, State.raise_clock]
      rfl
    rw [henter, State.setTest_of_critical hucrit (by rw [hlimit]; exact hx), htimer]
    have hwcrit : (w.thermalOf i).critical = true := by
      rw [State.updThermal_thermalOf_self]
    have hcrit' : ((w.setThermalCap i).thermalOf i).critical = true := by
      rw [State.thermalOf, hthermal]
      exact hwcrit
    refine ⟨?_, ?_, ?_, hcap⟩
    · change ((w.setThermalCap i).slot i).state = .online
      rw [hslot, hwslot, State.updSlot_slot_self]
    · rw [State.updThermal_thermalOf_self]
      exact hcrit'
    · rw [State.updThermal_thermalOf_self]

end Sys2Proof.Machine

/-! ### The courses of a slot's entry to EMPTY and to DISABLED

What clearing a blade's records, port 15's change to the STACK role and the two entries do, in the terms of the
statements (State.bladeCleared, State.stackTaken, State.entersDisabled, State.entersEmpty). -/

namespace Sys2Proof.Machine

/-! ### The blade's records -/

/-- The state s with the records of t that a removal from the Station Table may change. -/
def State.stationSideOf (s t : State) : State :=
  { s with
    inventory := t.inventory, stations := t.stations, notices := t.notices, spacing := t.spacing,
    noticeSeq := t.noticeSeq, sent := t.sent }

theorem State.stationSideOf_trans {s t u : State} (h : t = s.stationSideOf t) (k : u = t.stationSideOf u) :
    u = s.stationSideOf u :=
  calc
    u = t.stationSideOf u := k
    _ = (s.stationSideOf t).stationSideOf u := congrArg (fun x => State.stationSideOf x u) h
    _ = s.stationSideOf u := rfl

theorem State.raise_stationSide (s : State) (e : Event) : s.raise e = s.stationSideOf (s.raise e) := by
  rw [State.raise_side]
  rfl

/-- One step of a removal of all of slot i's entries: entry k leaves if it is slot i's. -/
def State.dropAt (s : State) (i : SlotId) (k : Fin 64) : State :=
  match s.station k with
  | none => s
  | some e => if e.slot = i && !([] : List Addr).contains e.addr then s.removeStation k e else s

/-- From v to t, entries of a slot with no record only leave the Station Table: every other slot's entry stays, slot i gets
none, no slot gets a record, and the generation counts stand. -/
structure State.Dropping (i : SlotId) (v t : State) : Prop where
  side : t = v.stationSideOf t
  record : ∀ j, (v.inv j).record = none → (t.inv j).record = none
  generation : ∀ j, (t.inv j).generation = (v.inv j).generation
  kept : ∀ k x, v.station k = some x → x.slot ≠ i → t.station k = some x
  none_new : (v.inv i).record = none → ∀ k x, t.station k = some x → x.slot = i → v.station k = some x

namespace State.Dropping

variable {i : SlotId} {s t u : State}

theorem refl (i : SlotId) (s : State) : State.Dropping i s s :=
  ⟨rfl, fun _ h => h, fun _ => rfl, fun _ _ h _ => h, fun _ _ _ h _ => h⟩

theorem trans (h : State.Dropping i s t) (k : State.Dropping i t u) : State.Dropping i s u :=
  ⟨State.stationSideOf_trans h.side k.side, fun j hj => k.record j (h.record j hj),
    fun j => (k.generation j).trans (h.generation j), fun n x hx hne => k.kept n x (h.kept n x hx hne) hne,
    fun hr n x hx hi => h.none_new hr n x (k.none_new (h.record i hr) n x hx hi) hi⟩

theorem raise (i : SlotId) (s : State) (e : Event) : State.Dropping i s (s.raise e) :=
  ⟨s.raise_stationSide e, fun j h => by rw [State.raise_inv]; exact h, fun j => by rw [State.raise_inv],
    fun n x h _ => by rw [State.raise_station]; exact h, fun _ n x h _ => by rw [State.raise_station] at h; exact h⟩

/-- An address given to another slot takes a free entry. -/
theorem install {j : SlotId} (i : SlotId) (s : State) (a : Addr) (hj : j ≠ i) : State.Dropping i s (s.install a j) := by
  unfold State.install
  split
  · exact refl i s
  · next k hk =>
    have hfree : s.station k = none := by simpa using List.find?_some hk
    refine ⟨rfl, fun _ h => h, fun _ => rfl, fun n x hx _ => ?_, fun _ n x hx hi => ?_⟩
    · rw [State.updStation_station, if_neg (by rintro rfl; rw [hfree] at hx; cases hx)]
      exact hx
    · rw [State.updStation_station] at hx
      split at hx
      · obtain rfl := Option.some.inj hx
        exact absurd hi hj
      · exact hx

/-- A freed address goes to a slot that has a record. -/
theorem reoffer (i : SlotId) (s : State) (a : Addr) (hi : (s.inv i).record = none) :
    State.Dropping i s (s.reoffer a) := by
  unfold State.reoffer
  split
  · exact refl i s
  · next j hj =>
    have hseeks : s.seeks a j = true := List.find?_some hj
    have hne : j ≠ i := by
      rintro rfl
      simp [State.seeks, hi] at hseeks
    refine ((install i s a hne).trans ?_).trans (raise i _ _)
    generalize s.install a j = u
    refine ⟨rfl, fun n hn => ?_, fun n => ?_, fun _ _ h _ => h, fun _ _ _ h _ => h⟩
    · rw [State.updInv_inv]
      split
      · next e => subst e; simp [hn]
      · exact hn
    · rw [State.updInv_inv]
      split
      · next e => subst e; rfl
      · rfl

/-- An entry of slot i leaves the table. -/
theorem removeStation {k : Fin 64} {e : Station} (hk : s.station k = some e) (he : e.slot = i)
    (hi : (s.inv i).record = none) :
    State.Dropping i s (s.removeStation k e) ∧ ∀ x, (s.removeStation k e).station k = some x → x.slot ≠ i := by
  have hclear : State.Dropping i s (s.updStation k fun _ => none) := by
    refine ⟨rfl, fun _ h => h, fun _ => rfl, fun n x hx hne => ?_, fun _ n x hx _ => ?_⟩
    · rw [State.updStation_station, if_neg (by rintro rfl; rw [hk] at hx; cases hx; exact hne he)]
      exact hx
    · rw [State.updStation_station] at hx
      split at hx
      · cases hx
      · exact hx
  have hraise := raise i (s.updStation k fun _ => none) (.addressChange e.slot)
  have hafter : State.Dropping i ((s.updStation k fun _ => none).raise (.addressChange e.slot)) (s.removeStation k e) :=
    reoffer i _ e.addr (hraise.record i (hclear.record i hi))
  refine ⟨(hclear.trans hraise).trans hafter, fun x hx hxi => ?_⟩
  have hold := hafter.none_new (hraise.record i (hclear.record i hi)) k x hx hxi
  rw [State.raise_station, State.updStation_station_self] at hold
  cases hold

theorem dropAt (k : Fin 64) (hi : (s.inv i).record = none) :
    State.Dropping i s (s.dropAt i k) ∧ ∀ x, (s.dropAt i k).station k = some x → x.slot ≠ i := by
  unfold State.dropAt
  split
  · next hk => exact ⟨refl i s, fun x hx => by rw [hk] at hx; cases hx⟩
  · next e hk =>
    split
    · next he => exact removeStation hk (by simpa using he) hi
    · next he =>
      refine ⟨refl i s, fun x hx => ?_⟩
      rw [hk] at hx
      cases hx
      simpa using he

theorem foldl_dropAt (l : List (Fin 64)) : ∀ s : State, (s.inv i).record = none →
    State.Dropping i s (l.foldl (fun s k => s.dropAt i k) s) ∧
      ∀ k ∈ l, ∀ x, (l.foldl (fun s k => s.dropAt i k) s).station k = some x → x.slot ≠ i := by
  induction l with
  | nil => exact fun s _ => ⟨refl i s, fun k hk => absurd hk List.not_mem_nil⟩
  | cons k l ih =>
    intro s hi
    obtain ⟨hdrop, hnone⟩ := dropAt (s := s) k hi
    obtain ⟨hrest, hlist⟩ := ih (s.dropAt i k) (hdrop.record i hi)
    refine ⟨hdrop.trans hrest, fun n hn x hx => ?_⟩
    rcases List.mem_cons.1 hn with rfl | hn
    · exact fun hxi => hnone x (hrest.none_new (hdrop.record i hi) n x hx hxi) hxi
    · exact hlist n hn x hx

/-- Every entry of slot i leaves the table. -/
theorem removeStations (i : SlotId) (s : State) (hi : (s.inv i).record = none) :
    State.Dropping i s (s.removeStations i []) ∧ ∀ k x, (s.removeStations i []).station k = some x → x.slot ≠ i := by
  obtain ⟨hdrop, hnone⟩ := foldl_dropAt stationIndexes s hi
  exact ⟨hdrop, fun k x hx => hnone k (List.mem_finRange k) x hx⟩

end State.Dropping

/-- The state s with the records of t that clearing a blade may change. -/
def State.bladeSideOf (s t : State) : State :=
  { s with
    inventory := t.inventory, stations := t.stations, thermal := t.thermal, notices := t.notices, spacing := t.spacing,
    noticeSeq := t.noticeSeq, sent := t.sent }

theorem State.clearBlade_spec (s : State) (i : SlotId) :
    s.clearBlade i = s.bladeSideOf (s.clearBlade i) ∧ s.bladeCleared (s.clearBlade i) i := by
  have hrecord : (((s.updInv i fun v => { v with record := none }).inv i).record) = none := by
    rw [State.updInv_inv_self]
  have hgeneration : ∀ j, ((s.updInv i fun v => { v with record := none }).inv j).generation =
      (s.inv j).generation := fun j => by
    rw [State.updInv_inv]
    split
    · next e => subst e; rfl
    · rfl
  have hstation : ∀ k, (s.updInv i fun v => { v with record := none }).station k = s.station k := fun _ => rfl
  have hside : s.updInv i (fun v => { v with record := none }) =
    s.stationSideOf (s.updInv i fun v => { v with record := none }) := rfl
  unfold State.clearBlade
  generalize s.updInv i (fun v => { v with record := none }) = u at *
  obtain ⟨hdrop, hnone⟩ := State.Dropping.removeStations i u hrecord
  generalize u.removeStations i [] = w at *
  have hw := State.stationSideOf_trans hside hdrop.side
  have hthermal : w.thermal = s.thermal := by rw [hw]; rfl
  refine ⟨?_, hdrop.record i hrecord, fun j => (hdrop.generation j).trans (hgeneration j), fun j => ?_, hnone,
    fun k x hx => hdrop.kept k x ((hstation k).trans hx)⟩
  · calc
      w.updThermal i (fun _ => thermalEmpty) = { w with thermal := (w.updThermal i fun _ => thermalEmpty).thermal } := rfl
      _ = { s.stationSideOf w with thermal := (w.updThermal i fun _ => thermalEmpty).thermal } :=
        congrArg (fun x : State => { x with thermal := (w.updThermal i fun _ => thermalEmpty).thermal }) hw
      _ = _ := rfl
  · rw [State.updThermal_thermalOf]
    split
    · rfl
    · rw [State.thermalOf, hthermal]
      rfl

/-! ### Port 15 in the STACK role -/

/-- The state s with the records of t that a change of an uplink's use may change. -/
def State.uplinkSideOf (s t : State) : State :=
  { s with
    uplinks := t.uplinks, groups := t.groups, notices := t.notices, spacing := t.spacing, noticeSeq := t.noticeSeq,
    sent := t.sent }

theorem State.uplinkSideOf_trans {s t u : State} (h : t = s.uplinkSideOf t) (k : u = t.uplinkSideOf u) :
    u = s.uplinkSideOf u :=
  calc
    u = t.uplinkSideOf u := k
    _ = (s.uplinkSideOf t).uplinkSideOf u := congrArg (fun x => State.uplinkSideOf x u) h
    _ = s.uplinkSideOf u := rfl

theorem State.recomputeMembers_uplinkSide (s : State) (k : UplinkId) :
    s.recomputeMembers k = s.uplinkSideOf (s.recomputeMembers k) := by
  unfold State.recomputeMembers
  generalize List.finRange 4 = l
  induction l generalizing s with
  | nil => rfl
  | cons g l ih =>
    rw [List.foldl_cons]
    refine State.uplinkSideOf_trans (t := _) ?_ (ih _)
    split
    · rw [State.recomputeGroup_frame]
      rfl
    · rfl

/-- An uplink whose timer stops and whose mark becomes b: its record, and the active lists where the mark changes. -/
theorem State.setUsable_stopped_spec (s : State) (k : UplinkId) (b : Bool) (t : State)
    (ht : t = (s.updUplink k fun r => { r with holdDown := none }).setUsable k b) :
    t = s.uplinkSideOf t ∧ (∀ u, t.uplink u = if u = k then ⟨none, b⟩ else s.uplink u) ∧
    ((s.uplink k).usable = b → t.groups = s.groups) ∧
    ((s.uplink k).usable ≠ b →
      ∀ g, (t.group g).mode = (s.group g).mode ∧ (t.group g).members = (s.group g).members ∧
        (k ∈ (s.group g).members →
          (t.group g).active = (s.group g).members.filter fun u => (t.uplink u).usable) ∧
        (k ∉ (s.group g).members → t.group g = s.group g)) := by
  rw [State.setUsable_stopped] at ht
  split at ht
  · next h =>
    subst ht
    exact ⟨rfl, fun u => s.updUplink_uplink k _ u, fun _ => rfl, fun hne => absurd h hne⟩
  · next h =>
    obtain ⟨hup, hgroup⟩ := State.recomputeMembers_spec ((s.updUplink k fun _ => ⟨none, b⟩).raise (.usableChange k)) k
    have hside := State.recomputeMembers_uplinkSide ((s.updUplink k fun _ => ⟨none, b⟩).raise (.usableChange k)) k
    rw [← ht] at hup hgroup hside
    have husable : ∀ l, ((s.updUplink k fun _ => ⟨none, b⟩).raise (.usableChange k)).usableMembers l =
        t.usableMembers l := fun l => (State.usableMembers_congr hup l).symm
    simp only [State.raise_group, State.updUplink_group, husable] at hgroup
    refine ⟨State.uplinkSideOf_trans ?_ hside, fun u => ?_, fun he => absurd he h, fun _ g => ⟨?_, ?_, fun hk => ?_,
      fun hk => ?_⟩⟩
    · rw [State.raise_side]
      rfl
    · rw [State.uplink, hup]
      change State.uplink (State.raise _ _) u = _
      rw [State.raise_uplink, State.updUplink_uplink]
    · rw [hgroup]
      split <;> rfl
    · rw [hgroup]
      split <;> rfl
    · rw [hgroup, if_pos hk]
      rfl
    · rw [hgroup, if_neg hk]

theorem State.takeStackRole_stackTaken (s : State) : s.stackTaken s.takeStackRole := by
  have hlink : State.uplinkLink { s with portRole := .stack } uplink4 = s.link 15 := rfl
  unfold State.takeStackRole
  dsimp only
  rw [hlink]
  refine ⟨?_, fun h => by rw [if_neg (by simp [h])], fun h ht => ?_, fun h ht => ?_⟩
  · split
    · unfold State.startHoldDown
      split
      · rw [State.setUsable_settings_portRole]
        rfl
      · rfl
    · rfl
  · rw [if_pos h, State.startHoldDown, if_neg ht]
    refine ⟨rfl, fun u => ?_⟩
    rw [State.updUplink_uplink]
    split
    · next e => subst e; rfl
    · rfl
  · rw [if_pos h, State.startHoldDown, if_pos ht]
    obtain ⟨hside, huplink, -, hgroup⟩ := State.setUsable_stopped_spec { s with portRole := .stack } uplink4 true _ rfl
    exact ⟨hside, huplink, fun hu => hgroup fun hon => Bool.noConfusion (hu.symm.trans hon)⟩

theorem State.stackTaken_frame {v t : State} (h : v.stackTaken t) :
    t.slots = v.slots ∧ t.powerQueue = v.powerQueue := by
  obtain ⟨-, hdown, htimed, huntimed⟩ := h
  cases hlink : v.link 15 with
  | false => rw [hdown hlink]; exact ⟨rfl, rfl⟩
  | true =>
    by_cases ht : v.chassis.holdDown = 0
    · rw [(huntimed hlink ht).1]; exact ⟨rfl, rfl⟩
    · rw [(htimed hlink ht).1]; exact ⟨rfl, rfl⟩

/-! ### Entry to DISABLED and to EMPTY -/

theorem State.stackIfDue_of_not {s : State} {i : SlotId}
    (h : i ≠ slot15 ∨ s.chassis.roleSetting = .slot ∨ s.portRole = .stack) : s.stackIfDue i = s := by
  refine if_neg fun hdue => ?_
  obtain ⟨hi, hset, hrole⟩ := hdue
  rcases h with h | h | h
  · exact h hi
  · rw [hset] at h
    cases h
  · rw [hrole] at h
    cases h

theorem State.stackIfDue_of_due {s : State} {i : SlotId} (hi : i = slot15) (hset : s.chassis.roleSetting = .stack)
    (hrole : s.portRole = .slot) : s.stackIfDue i = s.takeStackRole := if_pos ⟨hi, hset, hrole⟩

/-- The entry to DISABLED up to its event. -/
def State.disableSlot (s : State) (i : SlotId) : State :=
  ((s.clearBlade i).updSlot i fun r => { r with faultCause := .none, retryCount := 0 }).enter i .disabled

theorem State.disableSlot_slots (s : State) (i : SlotId) :
    s.disableSlot i =
      { s with
        slots := (s.disableSlot i).slots, inventory := (s.disableSlot i).inventory,
        stations := (s.disableSlot i).stations, thermal := (s.disableSlot i).thermal,
        notices := (s.disableSlot i).notices, spacing := (s.disableSlot i).spacing,
        noticeSeq := (s.disableSlot i).noticeSeq, sent := (s.disableSlot i).sent } ∧
    s.bladeCleared (s.disableSlot i) i ∧
    ∀ j, (s.disableSlot i).slot j =
      if j = i then { s.slot i with state := .disabled, faultCause := .none, retryCount := 0 } else s.slot j := by
  obtain ⟨hside, hcleared⟩ := s.clearBlade_spec i
  unfold State.disableSlot
  generalize s.clearBlade i = u at *
  rw [State.enter_updSlot]
  have hslots : u.slots = s.slots := by rw [hside]; rfl
  refine ⟨?_, ?_, fun j => ?_⟩
  · rw [State.raise_side, hside]
    rfl
  · obtain ⟨hrecord, hgeneration, hthermal, hnone, hkept⟩ := hcleared
    refine ⟨?_, fun j => ?_, fun j => ?_, fun k x => ?_, fun k x hx hne => ?_⟩
    · rw [State.raise_inv]; exact hrecord
    · rw [State.raise_inv]; exact hgeneration j
    · rw [State.raise_thermalOf]; exact hthermal j
    · rw [State.raise_station]; exact hnone k x
    · rw [State.raise_station]; exact hkept k x hx hne
  · rw [State.raise_slot, State.updSlot_slot]
    simp only [State.slot, hslots]

theorem State.enterDisabled_entersDisabled (s : State) (i : SlotId) : s.entersDisabled (s.enterDisabled i) i := by
  obtain ⟨hside, hcleared, hslot⟩ := s.disableSlot_slots i
  have henter : s.enterDisabled i = (s.disableSlot i).stackIfDue i := rfl
  rw [henter]
  generalize s.disableSlot i = w at *
  have hchassis : w.chassis = s.chassis := by rw [hside]
  have hrole : w.portRole = s.portRole := by rw [hside]
  refine ⟨w, hside, hcleared, hslot, fun h => State.stackIfDue_of_not (by rw [hchassis, hrole]; exact h),
    fun hi hset hr => ?_⟩
  rw [State.stackIfDue_of_due hi (by rw [hchassis]; exact hset) (by rw [hrole]; exact hr)]
  exact w.takeStackRole_stackTaken

theorem State.enterEmpty_entersEmpty (s : State) (i : SlotId) : s.entersEmpty (s.enterEmpty i) i := by
  have hdisable : (s.updSlot i fun r => { r with faultCause := .none, drainCause := .none, retryCount := 0 }).disableCondition
      i = s.disableCondition i := rfl
  unfold State.enterEmpty
  dsimp only
  rw [hdisable, State.updSlot_slot_self]
  refine ⟨fun h => ?_, fun h => ?_⟩
  · rw [if_neg (by simp [h])]
    dsimp only
    split
    · next hp =>
      rw [State.enter_updSlot, State.updSlot_updSlot]
      refine ⟨_, rfl, rfl, fun j => ?_⟩
      rw [State.updSlot_slot, hp]
      rfl
    · next hp =>
      rw [State.enter_updSlot]
      refine ⟨_, rfl, rfl, fun j => ?_⟩
      rw [State.updSlot_slot]
  · rw [if_pos h]
    exact ⟨_, rfl, fun j => s.updSlot_slot i _ j, State.enterDisabled_entersDisabled _ i⟩

end Sys2Proof.Machine

/-! ### Removal (O4, O5) -/

namespace Sys2Proof.Machine

theorem exec_presenceDeasserted (s : State) (i : SlotId) :
    exec (.presenceDeasserted i) s = .next (if (s.slot i).presence then s.presenceFall i else s) := rfl

theorem State.entersDisabled_slot {v t : State} {i : SlotId} (h : v.entersDisabled t i) :
    (t.slot i).presence = (v.slot i).presence ∧ t.powerQueue = v.powerQueue := by
  obtain ⟨w, hside, -, hslot, hsame, htaken⟩ := h
  have hqueue : w.powerQueue = v.powerQueue := by rw [hside]
  have hpresence : (w.slot i).presence = (v.slot i).presence := by rw [hslot, if_pos rfl]
  by_cases hdue : i ≠ slot15 ∨ v.chassis.roleSetting = .slot ∨ v.portRole = .stack
  · rw [hsame hdue]
    exact ⟨hpresence, hqueue⟩
  · simp only [not_or, not_not] at hdue
    obtain ⟨hi, hset, hrole⟩ := hdue
    have hstack : v.chassis.roleSetting = .stack := by
      cases hs : v.chassis.roleSetting with
      | stack => rfl
      | slot => exact absurd hs hset
    have hport : v.portRole = .slot := by
      cases hs : v.portRole with
      | slot => rfl
      | stack => exact absurd hs hrole
    obtain ⟨hslots, hq⟩ := State.stackTaken_frame (htaken hi hstack hport)
    rw [State.slot, hslots, hq]
    exact ⟨hpresence, hqueue⟩

theorem State.entersEmpty_slot {v t : State} {i : SlotId} (h : v.entersEmpty t i) :
    (t.slot i).presence = (v.slot i).presence ∧ t.powerQueue = v.powerQueue ∧
      (v.disableCondition i = false → (t.slot i).state = if (v.slot i).presence then .debounce else .empty) := by
  obtain ⟨hmove, hdisable⟩ := h
  cases hc : v.disableCondition i with
  | true =>
    obtain ⟨w, hside, hslot, henter⟩ := hdisable hc
    obtain ⟨hpresence, hqueue⟩ := State.entersDisabled_slot henter
    refine ⟨?_, ?_, fun h => by cases h⟩
    · rw [hpresence, hslot, if_pos rfl]
    · rw [hqueue, hside]
  | false =>
    obtain ⟨w, rfl, hside, hslot⟩ := hmove hc
    refine ⟨?_, ?_, fun _ => ?_⟩
    · rw [State.raise_slot, hslot, if_pos rfl]
    · rw [State.raise_powerQueue, hside]
    · rw [State.raise_slot, hslot, if_pos rfl]

/-- The presence wire's fall in a state other than DEBOUNCE. -/
theorem State.presenceFall_of_ne {s : State} {i : SlotId} (h : (s.slot i).state ≠ .debounce) :
    s.presenceFall i = (s.updSlot i fun r => { r with presence := false }).removeBlade i := if_neg h

/-- The blade's records cleared with the presence level already deasserted. -/
theorem State.fallen_cleared (s : State) (i : SlotId) (u : State)
    (hu : u = (s.updSlot i fun r => { r with presence := false }).clearBlade i) :
    u = { s with
      slots := u.slots, inventory := u.inventory, stations := u.stations, thermal := u.thermal,
      notices := u.notices, spacing := u.spacing, noticeSeq := u.noticeSeq, sent := u.sent } ∧
    s.bladeCleared u i ∧ ∀ j, u.slot j = if j = i then { s.slot i with presence := false } else s.slot j := by
  obtain ⟨hside, hcleared⟩ := (s.updSlot i fun r => { r with presence := false }).clearBlade_spec i
  rw [← hu] at hside hcleared
  refine ⟨?_, hcleared, fun j => ?_⟩
  · rw [hside]
    rfl
  · have hslots : u.slots = (s.updSlot i fun r => { r with presence := false }).slots := by rw [hside]; rfl
    rw [State.slot, hslots]
    exact s.updSlot_slot i _ j

/-- Settles O4: by the slot's state. -/
theorem removalClearsUnpoweredSlot : Obligations.RemovalClearsUnpoweredSlot := by
  unfold Obligations.RemovalClearsUnpoweredSlot
  intro s i hp
  have hexec : exec (.presenceDeasserted i) s = .next (s.presenceFall i) := by rw [exec_presenceDeasserted, if_pos hp]
  have hstate : ((s.updSlot i fun r => { r with presence := false }).slot i).state = (s.slot i).state := by
    rw [State.updSlot_slot_self]
  refine ⟨fun h => ?_, fun h => ?_, fun h hb => ?_, fun h => ?_⟩
  · have hfall : s.presenceFall i =
        (s.updSlot i fun r => { r with presence := false, debounce := none }).enterEmpty i := by
      rw [State.presenceFall, if_pos h, State.updSlot_updSlot]
    exact ⟨s.updSlot i fun r => { r with presence := false, debounce := none }, _, hexec, rfl,
      fun j => s.updSlot_slot i _ j, hfall ▸ State.enterEmpty_entersEmpty _ i⟩
  · have hfall : s.presenceFall i =
        ((((s.updSlot i fun r => { r with presence := false }).clearBlade i).updSlot i Slot.stopTimers).enterEmpty i) := by
      rcases h with h | h | h <;>
        rw [State.presenceFall_of_ne (by simp [h]), State.removeBlade, hstate, h]
    obtain ⟨hside, hcleared, hslot⟩ := s.fallen_cleared i _ rfl
    generalize (s.updSlot i fun r => { r with presence := false }).clearBlade i = w at *
    refine ⟨w.updSlot i Slot.stopTimers, _, hexec, ?_, hcleared, fun j => ?_,
      hfall ▸ State.enterEmpty_entersEmpty _ i⟩
    · rw [hside]
      rfl
    · rw [State.updSlot_slot]
      split
      · rw [hslot, if_pos rfl]
        rfl
      · next hj => rw [hslot, if_neg hj]
  · have hfall : s.presenceFall i =
        (((s.updSlot i fun r => { r with presence := false }).clearBlade i).withdraw i .boot).enterEmpty i := by
      rw [State.presenceFall_of_ne (by simp [h]), State.removeBlade, hstate, h]
    obtain ⟨hside, hcleared, hslot⟩ := s.fallen_cleared i _ rfl
    generalize (s.updSlot i fun r => { r with presence := false }).clearBlade i = w at *
    have hqueue : w.powerQueue = s.powerQueue := by rw [hside]
    have hentry : w.hasEntry i .boot = true := by rw [State.hasEntry, hqueue]; exact hb
    have hout : (w.dequeue i .boot).hasEntry i .boot = false := by simp [State.dequeue_hasEntry]
    have hpasses := State.arbiter_passes hout
    obtain ⟨a, ha⟩ := hpasses.slot
    have hself : ((w.dequeue i .boot).arbiter.slot i).presence = false := by
      rw [ha]
      change (w.slot i).presence = false
      rw [hslot, if_pos rfl]
    have hcondition : (w.dequeue i .boot).arbiter.disableCondition i = s.disableCondition i := by
      rw [State.arbiter_side]
      change w.disableCondition i = _
      rw [hside]
      rfl
    rw [State.withdraw_of_entry hentry] at hfall
    have henters := State.enterEmpty_entersEmpty (w.dequeue i .boot).arbiter i
    rw [← hfall] at henters
    obtain ⟨hpresence, hq, hempty⟩ := State.entersEmpty_slot henters
    refine ⟨w.dequeue i .boot, _, hexec, ?_, hcleared, hslot, henters, hpresence.trans hself, ?_, fun hc => ?_⟩
    · rw [hside]
      rfl
    · rw [State.hasEntry, hq]
      exact hpasses.entries _ hout
    · rw [hempty (hcondition.trans hc), hself]
      rfl
  · refine ⟨s.updSlot i fun r => { r with presence := false }, ?_, rfl, fun j => s.updSlot_slot i _ j⟩
    have hfall : s.presenceFall i = s.updSlot i fun r => { r with presence := false } := by
      rcases h with h | h <;>
        rw [State.presenceFall_of_ne (by simp [h]), State.removeBlade, hstate, h]
    rw [hexec, hfall]

theorem SlotState.drainable_iff (st : SlotState) :
    st.drainable = true ↔
      st = .ramping ∨ st = .resetHold ∨ st = .announcing ∨ st = .heldOnline ∨ st = .online := by
  cases st <;> decide

theorem State.presenceFall_drain {s : State} {i : SlotId} (h : (s.slot i).state.drainable = true) :
    s.presenceFall i =
      ((s.updSlot i fun r => { r with presence := false }).clearBlade i).startDrain i .removed .empty .none := by
  have hstate : ((s.updSlot i fun r => { r with presence := false }).slot i).state = (s.slot i).state := by
    rw [State.updSlot_slot_self]
  rcases (SlotState.drainable_iff _).1 h with h | h | h | h | h <;>
    rw [State.presenceFall_of_ne (by simp [h]), State.removeBlade, hstate, h]

theorem Rail.rampDown_op (v : RailEnv) (c : DrainCause) (r : Rail) : (r.rampDown v c).op = .rampDown := by
  by_cases h : r.op = .rampDown
  · rw [Rail.rampDown, if_pos h]
    exact h
  · exact (Rail.rampDown_taken h).1

/-- What a drain leaves, in the terms of the state g its grant's part leaves. -/
theorem State.startDrain_at {s : State} {i : SlotId} (h : (s.slot i).state.drainable = true) (c : DrainCause)
    (n : DrainNext) (f : FaultCause) (g t : State) (hg : g = (s.leaveForDrain i c n f).drainGrant i c)
    (ht : t = s.startDrain i c n f) :
    (∀ j, t.slot j = if j = i then { g.slot i with state := .draining } else g.slot j) ∧
    (∀ j, t.rail j = if j = i then (g.rail i).rampDown g.railEnv c else g.rail j) ∧
    t.grants = g.grants ∧ t.powerQueue = g.powerQueue ∧ t.thermal = g.thermal := by
  rw [State.startDrain_eq h, ← hg] at ht
  subst ht
  rw [State.enter, State.setSlotState]
  refine ⟨fun j => ?_, fun j => ?_, State.raise_grants _ _, State.raise_powerQueue _ _, State.raise_thermal _ _⟩
  · rw [State.raise_slot, State.updSlot_slot]
    rfl
  · rw [State.raise_rail]
    exact g.updRail_rail i _ j

theorem State.leaveForDrain_slot (s : State) (i : SlotId) (c : DrainCause) (n : DrainNext) (f : FaultCause)
    (j : SlotId) : (s.leaveForDrain i c n f).slot j = if j = i then Slot.recordDrain c n f (s.slot i) else s.slot j := by
  rw [State.leaveForDrain_frame]
  exact s.updSlot_slot i _ j

theorem State.leaveForDrain_sensors (s : State) (i : SlotId) (c : DrainCause) (n : DrainNext) (f : FaultCause) :
    ((s.leaveForDrain i c n f).thermalOf i).sensors = (s.thermalOf i).sensors := by
  by_cases h : (s.slot i).state = .online
  · rw [State.leaveForDrain_thermalOf _ _ _ _ _ h]
  · unfold State.leaveForDrain
    dsimp only
    rw [if_neg h]
    split <;> rfl

/-- Settles O5: the drain of O11 on the cleared records, and R20's change of a drain under way. -/
theorem removalDrainsPoweredSlot : Obligations.RemovalDrainsPoweredSlot := by
  unfold Obligations.RemovalDrainsPoweredSlot
  intro s i hp hb
  have hexec : exec (.presenceDeasserted i) s = .next (s.presenceFall i) := by rw [exec_presenceDeasserted, if_pos hp]
  obtain ⟨hside, hcleared, hslot⟩ := s.fallen_cleared i _ rfl
  refine ⟨fun h => ⟨_, hexec, ?_⟩, fun h => ?_⟩
  · rw [State.presenceFall_drain h]
    generalize (s.updSlot i fun r => { r with presence := false }).clearBlade i = w at *
    have hself : w.slot i = { s.slot i with presence := false } := by rw [hslot, if_pos rfl]
    have hdrain : (w.slot i).state.drainable = true := by rw [hself]; exact h
    have hboot : (w.leaveForDrain i .removed .empty .none).hasEntry i .boot = false := by
      rw [State.leaveForDrain_frame]
      change w.hasEntry i .boot = false
      rw [hside]
      exact hb
    obtain ⟨⟨a, ha⟩, -, -, hrelease⟩ := State.drainGrant_passes .removed hboot
    have hthermal : ((w.leaveForDrain i .removed .empty .none).drainGrant i .removed).thermal =
        (w.leaveForDrain i .removed .empty .none).thermal := by
      rw [State.drainGrant_arbiterSide]
      rfl
    obtain ⟨htslot, htrail, htgrants, -, htthermal⟩ := State.startDrain_at hdrain .removed .empty .none _ _ rfl rfl
    have htside := w.startDrain_drainSide i .removed .empty .none
    generalize w.startDrain i .removed .empty .none = t at *
    have hti : t.slot i = { Slot.recordDrain .removed .empty .none { s.slot i with presence := false } with
        state := .draining, admission := a } := by
      rw [htslot, if_pos rfl, ha, State.leaveForDrain_slot, if_pos rfl, hself]
    have hinv : t.inventory = w.inventory := by rw [htside]; rfl
    have hstations : t.stations = w.stations := by rw [htside]; rfl
    obtain ⟨hrecord, -, hempty, hnone, -⟩ := hcleared
    refine ⟨by rw [hti], by rw [hti]; rfl, by rw [hti]; rfl, by rw [hti]; rfl, ?_, ?_, ?_, ?_, fun k x hx => ?_⟩
    · rw [htrail, if_pos rfl, Rail.rampDown_op]
    · rw [State.grantOf, htgrants]
      exact (hrelease (by decide)).1
    · rw [State.inv, hinv]
      exact hrecord
    · rw [State.thermalOf, htthermal, hthermal]
      change ((w.leaveForDrain i .removed .empty .none).thermalOf i).sensors = []
      rw [State.leaveForDrain_sensors, hempty, if_pos rfl]
    · rw [State.station, hstations] at hx
      exact hnone k x hx
  · have hfall : s.presenceFall i =
        ((s.updSlot i fun r => { r with presence := false }).clearBlade i).updSlot i Slot.redirectRemoved := by
      rw [State.presenceFall_of_ne (by simp [h]), State.removeBlade,
        show ((s.updSlot i fun r => { r with presence := false }).slot i).state = .draining by
          rw [State.updSlot_slot_self]; exact h]
    rw [hfall] at hexec
    generalize (s.updSlot i fun r => { r with presence := false }).clearBlade i = w at *
    refine ⟨_, hexec, fun j => ?_, ?_, ?_, ?_, hcleared.1⟩
    · rw [State.updSlot_slot]
      split
      · rw [hslot, if_pos rfl]
        rfl
      · next hj => rw [hslot, if_neg hj]
    all_goals rw [hside]; rfl

end Sys2Proof.Machine

/-! ### The end of a drain (O17) -/

namespace Sys2Proof.Machine

/-! ### What the arbiter leaves of every slot record -/

/-- From s to t every slot record stands but for its state and its admission sequence. -/
def State.SlotsStand (s t : State) : Prop :=
  ∀ j, ∃ st a, t.slot j = { s.slot j with state := st, admission := a }

namespace State.SlotsStand

variable {s t u : State}

theorem of_slots (h : t.slots = s.slots) : State.SlotsStand s t := fun j =>
  ⟨(s.slot j).state, (s.slot j).admission, by rw [State.slot, h]; rfl⟩

theorem trans (h : State.SlotsStand s t) (k : State.SlotsStand t u) : State.SlotsStand s u := fun j => by
  obtain ⟨st, a, hj⟩ := h j
  obtain ⟨st', a', hj'⟩ := k j
  exact ⟨st', a', by rw [hj', hj]⟩

theorem setSlotState (s : State) (i : SlotId) (st : SlotState) : State.SlotsStand s (s.setSlotState i st) := fun j => by
  rw [State.setSlotState, State.updSlot_slot]
  split
  · next e => exact ⟨st, (s.slot j).admission, by rw [e]⟩
  · exact ⟨_, _, rfl⟩

theorem takeReports (i : SlotId) (l : List RailReport) : ∀ s : State, State.SlotsStand s (s.takeReports i l) := by
  induction l with
  | nil => exact fun s => of_slots rfl
  | cons r l ih =>
    intro s
    refine trans (t := s.takeReport i r) ?_ (ih _)
    unfold State.takeReport
    split
    · split
      · exact setSlotState s i _
      · exact of_slots rfl
    · split
      · exact (setSlotState s i _).trans (of_slots rfl)
      · exact of_slots rfl
    all_goals exact of_slots rfl

theorem startRamp (s : State) (i : SlotId) : State.SlotsStand s (s.startRamp i) := by
  unfold State.startRamp
  dsimp only
  refine trans ?_ (of_slots (State.raise_slots _ _))
  refine trans ?_ (takeReports i _ _)
  exact trans (t := s.setRail i _) (of_slots rfl) (setSlotState _ i _)

theorem remark (s : State) (i : SlotId) : State.SlotsStand s (s.remark i) := of_slots (by rw [State.remark_frame])

theorem numberAdmission (s : State) (i : SlotId) : State.SlotsStand s (s.numberAdmission i) := fun j => by
  obtain ⟨a, ha⟩ := s.numberAdmission_slot i j
  exact ⟨_, a, ha⟩

theorem serve (s : State) (e : PowerEntry) : State.SlotsStand s (s.serve e) := by
  unfold State.serve
  split
  · unfold State.admitBoot
    refine State.SlotsStand.trans (t := ((s.updGrant e.slot _).numberAdmission e.slot).dequeue e.slot .boot) ?_
      ((remark _ _).trans (startRamp _ _))
    exact trans (t := (s.updGrant e.slot _).numberAdmission e.slot)
      (trans (t := s.updGrant e.slot _) (of_slots rfl) (numberAdmission _ _)) (of_slots rfl)
  · exact trans (t := (s.updGrant e.slot _).dequeue e.slot .upgrade) (of_slots rfl) (remark _ _)

theorem stopAt (s : State) (e : PowerEntry) : State.SlotsStand s (s.stopAt e) := by
  unfold State.stopAt
  split
  · exact of_slots rfl
  · unfold State.partialStep
    split
    · exact trans (t := s.updGrant e.slot _) (of_slots rfl) (remark _ _)
    · exact of_slots rfl

theorem arbiter (s : State) : State.SlotsStand s s.arbiter :=
  State.arbiter_induct (P := fun _ => True) (R := State.SlotsStand) (fun _ => of_slots rfl) (fun _ _ _ => trans)
    (fun s e _ _ _ => ⟨serve s e, trivial⟩) (fun s e _ _ _ => stopAt s e) trivial

end State.SlotsStand

/-! ### The release of a grant -/

theorem State.liftThermalCap_side (s : State) (i : SlotId) :
    s.liftThermalCap i =
      { s with
        grants := (s.liftThermalCap i).grants, notices := (s.liftThermalCap i).notices,
        spacing := (s.liftThermalCap i).spacing, noticeSeq := (s.liftThermalCap i).noticeSeq,
        sent := (s.liftThermalCap i).sent } := by
  unfold State.liftThermalCap
  split
  · rw [State.raise_side]
    rfl
  · rfl

theorem State.remark_rail_self (s : State) (i : SlotId) :
    (s.remark i).rail i =
      { s.rail i with
        powerCap := if (s.grantOf i).shouldCap = (s.grantOf i).capped then (s.rail i).powerCap
          else (s.grantOf i).shouldCap } := by
  unfold State.remark State.refreshRate
  split
  · rfl
  · exact State.updRail_rail_self _ _ _

theorem State.remark_meter_ne (s : State) {i j : SlotId} (h : j ≠ i) : (s.remark i).meter j = s.meter j := by
  unfold State.remark
  split
  · rfl
  · exact State.updMeter_meter_ne _ _ h

/-- The grant and the marks cleared at a release, before the arbiter runs. -/
def State.clearGrant (s : State) (i : SlotId) : State :=
  ((s.updGrant i fun g => { g with grant := 0, target := 0, releasing := false, budgetCapped := false }).liftThermalCap
    i).remark i

theorem State.clearGrant_frame (s : State) (i : SlotId) :
    s.clearGrant i =
      { s with
        rails := (s.clearGrant i).rails, grants := (s.clearGrant i).grants, meters := (s.clearGrant i).meters,
        notices := (s.clearGrant i).notices, spacing := (s.clearGrant i).spacing,
        noticeSeq := (s.clearGrant i).noticeSeq, sent := (s.clearGrant i).sent } := by
  unfold State.clearGrant
  rw [State.remark_frame, State.liftThermalCap_side]
  rfl

theorem State.clearGrant_grantOf (s : State) (i j : SlotId) :
    (s.clearGrant i).grantOf j =
      if j = i then
        { s.grantOf i with
          grant := 0, target := 0, releasing := false, thermalCap := false, budgetCapped := false, capped := false }
      else s.grantOf j := by
  rw [State.clearGrant, State.remark_grantOf, State.liftThermalCap_grantOf, State.liftThermalCap_grantOf, if_pos rfl,
    State.updGrant_grantOf_self]
  split
  · rfl
  · next h => exact State.updGrant_grantOf_ne _ _ h

theorem State.clearGrant_rail (s : State) (i j : SlotId) :
    (s.clearGrant i).rail j =
      if j = i then
        { s.rail i with powerCap := if (s.grantOf i).capped then false else (s.rail i).powerCap }
      else s.rail j := by
  have hlift : ∀ k, ((s.updGrant i fun g =>
      { g with grant := 0, target := 0, releasing := false, budgetCapped := false }).liftThermalCap i).rail k =
      s.rail k := fun k => by
    rw [State.liftThermalCap_side]
    rfl
  unfold State.clearGrant
  split
  · next h =>
    subst h
    rw [State.remark_rail_self, State.liftThermalCap_grantOf, if_pos rfl, State.updGrant_grantOf_self, hlift]
    cases (s.grantOf j).capped <;> rfl
  · next h => rw [State.remark_rail_ne _ h, hlift]

theorem State.clearGrant_meter_ne (s : State) {i j : SlotId} (h : j ≠ i) : (s.clearGrant i).meter j = s.meter j := by
  rw [State.clearGrant, State.remark_meter_ne _ h, State.liftThermalCap_side]
  rfl

theorem exec_dischargeTimerExpiry (s : State) (i : SlotId) :
    exec (.dischargeTimerExpiry i) s = .next (s.railStep i ((s.rail i).dischargeExpiry s.railEnv)) := rfl

theorem State.railStep_complete {s : State} {i : SlotId} (r : Rail) (h : (s.slot i).state = .draining) :
    s.railStep i (r, [.rampDownComplete]) =
      ((((s.setRail i r).clearGrant i).arbiter).updSlot i fun x => { x with drainNext := .none }).takeNext i
        ((((s.setRail i r).clearGrant i).arbiter).slot i).drainNext := if_pos h

/-- Settles O17: by the drain's next state. -/
theorem rampDownCompleteTakesNextState : Obligations.RampDownCompleteTakesNextState := by
  unfold Obligations.RampDownCompleteTakesNextState
  intro s i
  refine ⟨fun h => ?_, fun h hst => ?_⟩
  · rw [exec_dischargeTimerExpiry, Rail.dischargeExpiry, h]
    simp [State.railStep_silent]
  · let r : Rail :=
      { s.rail i with
        dischargeTimer := none, discharge := false, dead := s.timer s.chassis.deadInterval, op := .none, stage := .none }
    have hexpiry : (s.rail i).dischargeExpiry s.railEnv = (r, [.rampDownComplete]) :=
      if_pos (Option.isSome_iff_ne_none.2 h)
    have hexec := exec_dischargeTimerExpiry s i
    rw [hexpiry, State.railStep_complete r hst] at hexec
    have hframe := (s.setRail i r).clearGrant_frame i
    have hgrants := (s.setRail i r).clearGrant_grantOf i
    have hrails := (s.setRail i r).clearGrant_rail i
    have hmeters := fun j hj => (s.setRail i r).clearGrant_meter_ne (i := i) (j := j) hj
    generalize (s.setRail i r).clearGrant i = u at *
    have huslots : u.slots = s.slots := by rw [hframe]; rfl
    have huqueue : u.powerQueue = s.powerQueue := by rw [hframe]; rfl
    have hself : u.slot i = s.slot i := by rw [State.slot, huslots]; rfl
    obtain ⟨st, a, hslot⟩ := State.SlotsStand.arbiter u i
    rw [hself] at hslot
    let v := u.arbiter.updSlot i fun x => { x with drainNext := .none }
    have hv : ∀ j, v.slot j = if j = i then { u.arbiter.slot i with drainNext := .none } else u.arbiter.slot j :=
      fun j => State.updSlot_slot _ i _ j
    have hvi : v.slot i = { s.slot i with state := st, admission := a, drainNext := .none } := by
      rw [hv, if_pos rfl, hslot]
    have hnext : (u.arbiter.slot i).drainNext = (s.slot i).drainNext := by rw [hslot]
    have hsame : v = s.arbiterSideOf v :=
      State.arbiterSideOf_trans (t := u) (by rw [hframe]; rfl) (State.arbiterSideOf_trans u.arbiter_side rfl)
    have hpolicy : v.policy i = s.policy i := by rw [hsame]; rfl
    have htimer : v.timer (s.policy i).retryInterval = s.timer (s.policy i).retryInterval := by rw [hsame]; rfl
    have hcondition : v.disableCondition i = s.disableCondition i := by rw [hsame]; rfl
    rw [hnext] at hexec
    refine ⟨u, v, _, hexec, by rw [hframe]; rfl, fun j hj => ?_, ?_, ?_⟩
    · refine ⟨?_, ?_, hmeters j hj⟩
      · rw [hrails, if_neg hj]
        exact State.setRail_rail_ne s r hj
      · rw [hgrants, if_neg hj]
        rfl
    · rw [hrails, if_pos rfl, State.setRail_rail_self]
      rfl
    rw [hgrants, if_pos rfl]
    refine ⟨rfl, rfl, rfl, rfl, rfl, rfl, fun hq => State.arbiter_of_nil (huqueue.trans hq), fun hb => ?_, rfl, hv,
      fun hn => ?_, fun hn => ?_, fun hn => ?_, fun hn => ?_, fun hn => ⟨fun hc => ?_, fun hc => ?_⟩⟩
    · have hboot : u.hasEntry i .boot = false := by rw [State.hasEntry, huqueue]; exact hb
      obtain ⟨b, hpassed⟩ := (State.arbiter_passes hboot).slot
      rw [hpassed, hself]
    · rw [hn]
      exact ⟨v.updSlot i fun x => { x with state := .present }, rfl, rfl, fun j => v.updSlot_slot i _ j⟩
    · rw [hn]
      refine ⟨_, State.enter_updSlot _ _ _ _, rfl, fun j => ?_⟩
      rw [State.updSlot_slot]
      split
      · dsimp only
        rw [hpolicy, htimer, hvi]
        simp only [Bool.and_eq_true, decide_eq_true_eq]
      · rfl
    · rw [hn]
      rfl
    · rw [hn]
      exact State.enterEmpty_entersEmpty v i
    · rw [hn]
      change v.entersDisabled (if v.disableCondition i then v.enterDisabled i else _) i
      rw [if_pos (hcondition.trans hc)]
      exact State.enterDisabled_entersDisabled v i
    · rw [hn]
      have hblade := v.clearBlade_spec i
      refine ⟨v.clearBlade i, hblade.1, hblade.2, ?_⟩
      change (v.clearBlade i).entersEmpty (if v.disableCondition i then _ else (v.clearBlade i).enterEmpty i) i
      rw [if_neg (by rw [hcondition, hc]; decide)]
      exact State.enterEmpty_entersEmpty _ i

end Sys2Proof.Machine

/-! ### The disable condition (O26) and the role of port 15 (O27) -/

namespace Sys2Proof.Machine

theorem exec_adminEnableWrite (s : State) (i : SlotId) (b : Bool) :
    exec (.adminEnableWrite i b) s =
      .next (State.actOnAdmin (s.updPolicy i fun p => { p with adminEnable := b }) i (s.policy i)) := rfl

/-- What the disable condition's coming to hold does, by the slot's state. -/
theorem State.applyDisable_spec (s : State) (i : SlotId) :
    ((s.slot i).state.drainable = true → s.applyDisable i = s.startDrain i .admin .disabled .none) ∧
    ((s.slot i).state = .draining → s.applyDisable i = s.updSlot i Slot.redirectAdmin) ∧
    ((s.slot i).state = .disabled → s.applyDisable i = s) ∧
    ((s.slot i).state = .powerWait → s.hasEntry i .boot = true →
      s.applyDisable i = (((s.updSlot i Slot.stopTimers).dequeue i .boot).arbiter).enterDisabled i) ∧
    ((s.slot i).state ∈ [SlotState.empty, .debounce, .present, .heldPower, .fault] →
      s.applyDisable i = (s.updSlot i Slot.stopTimers).enterDisabled i) := by
  refine ⟨fun h => ?_, fun h => ?_, fun h => ?_, fun h hb => ?_, fun h => ?_⟩
  · rcases (SlotState.drainable_iff _).1 h with h | h | h | h | h <;> rw [State.applyDisable, h]
  · rw [State.applyDisable, h]
  · rw [State.applyDisable, h]
  · have hentry : (s.updSlot i Slot.stopTimers).hasEntry i .boot = true := hb
    rw [State.applyDisable, h]
    exact congrArg (fun t => State.enterDisabled t i) (State.withdraw_of_entry hentry)
  · simp only [List.mem_cons, List.not_mem_nil, or_false] at h
    rcases h with h | h | h | h | h <;> rw [State.applyDisable, h]

/-- R20's change of a drain under way for the disable condition, field by field. -/
def Slot.redirected (r : Slot) : Slot :=
  { r with
    drainCause := .admin, drainNext := if r.drainNext = .empty then .empty else .disabled,
    faultCause := if r.drainNext = .empty then r.faultCause else .none }

theorem Slot.redirectAdmin_eq (r : Slot) : r.redirectAdmin = r.redirected := by
  unfold Slot.redirectAdmin Slot.redirected
  split
  · next h => rw [← h]
  · rfl

theorem State.updSlot_redirectAdmin_slot (s : State) (i j : SlotId) :
    (s.updSlot i Slot.redirectAdmin).slot j =
      if j = i then (s.slot i).redirected else s.slot j := by
  rw [State.updSlot_slot, Slot.redirectAdmin_eq]

theorem State.updPolicy_self {s : State} {i : SlotId} {f : SlotPolicy → SlotPolicy} (h : f (s.policy i) = s.policy i) :
    s.updPolicy i f = s := by
  have htab : Tab.upd s.policies i f = s.policies := Tab.ext_get fun j => by
    rw [Tab.get_upd]
    split
    · next e => subst e; exact h
    · rfl
  simp only [State.updPolicy, htab]

theorem State.applyEnable_of_enabled {s : State} {i : SlotId} (h : (s.slot i).state = .disabled)
    (hc : s.disableCondition i = false) : s.applyEnable i = s.enterEmpty i := if_pos (by simp [h, hc])

theorem State.applyEnable_of_not {s : State} {i : SlotId}
    (h : (s.slot i).state ≠ .disabled ∨ s.disableCondition i = true) : s.applyEnable i = s := by
  refine if_neg ?_
  rcases h with h | h <;> simp [h]

/-- Settles O26: by the value written and the slot's state. -/
theorem adminEnableDisablesAndEnables : Obligations.AdminEnableDisablesAndEnables := by
  unfold Obligations.AdminEnableDisablesAndEnables
  intro s i
  let u := s.updPolicy i fun p => { p with adminEnable := !(s.policy i).adminEnable }
  have hpolicy : ∀ j, u.policy j =
      if j = i then { s.policy i with adminEnable := !(s.policy i).adminEnable } else s.policy j :=
    fun j => s.updPolicy_policy i _ j
  have hself : (u.policy i).adminEnable = !(s.policy i).adminEnable := by rw [hpolicy, if_pos rfl]
  refine ⟨?_, u, rfl, hpolicy, fun h => ?_, fun h => ?_⟩
  · rw [exec_adminEnableWrite, State.updPolicy_self rfl, State.actOnAdmin, if_pos rfl]
  · have hexec : exec (.adminEnableWrite i false) s = .next (u.applyDisable i) := by
      rw [exec_adminEnableWrite,
        show (s.updPolicy i fun p => { p with adminEnable := false }) = u by simp only [u, h]; rfl,
        State.actOnAdmin, hself, h]
      rfl
    obtain ⟨hdrain, hdraining, hdisabled, hwait, hother⟩ := u.applyDisable_spec i
    refine ⟨fun hst => ?_, fun hst => ?_, fun hst => ?_, fun hst hb => ?_, fun hst => ?_⟩
    · rw [hexec, hdrain hst]
    · exact ⟨u.updSlot i Slot.redirectAdmin, by rw [hexec, hdraining hst], rfl, State.updSlot_redirectAdmin_slot u i⟩
    · rw [hexec, hdisabled hst]
    · exact ⟨(u.updSlot i Slot.stopTimers).dequeue i .boot, _, by rw [hexec, hwait hst hb], rfl,
        fun j => u.updSlot_slot i _ j, State.enterDisabled_entersDisabled _ i⟩
    · exact ⟨u.updSlot i Slot.stopTimers, _, by rw [hexec, hother hst], rfl, fun j => u.updSlot_slot i _ j,
        State.enterDisabled_entersDisabled _ i⟩
  · have hexec : exec (.adminEnableWrite i true) s = .next (u.applyEnable i) := by
      rw [exec_adminEnableWrite,
        show (s.updPolicy i fun p => { p with adminEnable := true }) = u by simp only [u, h]; rfl,
        State.actOnAdmin, hself, h]
      rfl
    have hcondition : u.disableCondition i = decide (i = slot15 ∧ s.chassis.roleSetting = .stack) := by
      rw [State.disableCondition, hself, h]
      change (false || (decide (i = slot15) && decide (s.chassis.roleSetting = .stack))) = _
      rw [Bool.false_or, Bool.decide_and]
    refine ⟨fun hst => ?_, fun _ hi hset => ?_, fun hst hset => ?_⟩
    · rw [hexec, State.applyEnable_of_not (s := u) (.inl hst)]
    · rw [hexec, State.applyEnable_of_not (s := u) (.inr (hcondition.trans (decide_eq_true ⟨hi, hset⟩)))]
    · have hfree : u.disableCondition i = false := by
        rw [hcondition, decide_eq_false_iff_not]
        intro hdue
        rw [hset hdue.1] at hdue
        exact absurd hdue.2 (by decide)
      exact ⟨_, by rw [hexec, State.applyEnable_of_enabled (s := u) hst hfree], State.enterEmpty_entersEmpty u i, hfree⟩

/-! ### The role setting -/

theorem exec_roleSettingStackWrite (s : State) : exec .roleSettingStackWrite s = .next (s.setRole .stack) := rfl

theorem exec_roleSettingSlotWrite (s : State) : exec .roleSettingSlotWrite s = .next (s.setRole .slot) := rfl

theorem State.enterDisabled_portRole {s : State} (hset : s.chassis.roleSetting = .stack) (hrole : s.portRole = .slot) :
    (s.enterDisabled slot15).portRole = .stack := by
  obtain ⟨w, -, -, -, -, htaken⟩ := State.enterDisabled_entersDisabled s slot15
  exact (htaken rfl hset hrole).1

theorem State.stackIfDisabled_of_ne {s : State} (h : (s.slot slot15).state ≠ .disabled) : s.stackIfDisabled = s :=
  if_neg h

theorem State.stackIfDisabled_of_stack {s : State} (h : s.portRole = .stack) : s.stackIfDisabled = s := by
  unfold State.stackIfDisabled
  split
  · exact State.stackIfDue_of_not (.inr (.inr h))
  · rfl

theorem if_slot15_self {α : Type} {j : SlotId} (f : SlotId → α) (b : α) :
    (if j = slot15 then f slot15 else b) = if j = slot15 then f j else b := by
  split
  · next e => rw [e]
  · rfl

/-- Settles O27: by the setting, the port role and slot 15's state. -/
theorem roleSettingMovesPort15 : Obligations.RoleSettingMovesPort15 := by
  unfold Obligations.RoleSettingMovesPort15
  intro s
  simp only [exec_roleSettingStackWrite, exec_roleSettingSlotWrite]
  refine ⟨fun h => by rw [State.setRole, if_pos h], fun h => by rw [State.setRole, if_pos h], fun hset hrole => ?_,
    fun hset hrole => ?_, fun hset hrole => ?_⟩
  · let u : State := { s with chassis := { s.chassis with roleSetting := .stack } }
    have hwrite : s.setRole .stack = (u.applyDisable slot15).stackIfDisabled := by
      rw [State.setRole, if_neg (by rw [hset]; decide)]
      rfl
    have huset : u.chassis.roleSetting = .stack := rfl
    have hurole : u.portRole = .slot := hrole
    obtain ⟨hdrain, hdraining, hdisabled, hwait, hother⟩ := u.applyDisable_spec slot15
    refine ⟨u, rfl, fun hst => ?_, fun hst => ?_, fun hst => ?_, fun hst hb => ?_, fun hst => ?_⟩
    · refine ⟨_, rfl, ?_⟩
      rw [hwrite, hdisabled hst, State.stackIfDisabled, if_pos (show (u.slot slot15).state = .disabled from hst),
        State.stackIfDue_of_due rfl huset hurole]
      exact u.takeStackRole_stackTaken
    · obtain ⟨hslot, -⟩ := State.startDrain_at (s := u) hst .admin .disabled .none _ _ rfl rfl
      refine ⟨?_, ?_⟩
      · rw [hwrite, hdrain hst, State.stackIfDisabled_of_ne]
        rw [hslot, if_pos rfl]
        exact SlotState.noConfusion
      · rw [State.startDrain_drainSide]
        exact hrole
    · refine ⟨u.updSlot slot15 Slot.redirectAdmin, ?_, rfl, fun j =>
        (State.updSlot_redirectAdmin_slot u slot15 j).trans (if_slot15_self (fun j => (u.slot j).redirected) _)⟩
      rw [hwrite, hdraining hst, State.stackIfDisabled_of_ne]
      rw [State.updSlot_redirectAdmin_slot, if_pos rfl]
      change (s.slot slot15).state ≠ .disabled
      rw [hst]
      exact SlotState.noConfusion
    · let v := (u.updSlot slot15 Slot.stopTimers).dequeue slot15 .boot
      have hvset : v.arbiter.chassis.roleSetting = .stack := by rw [State.arbiter_side]; rfl
      have hvrole : v.arbiter.portRole = .slot := by rw [State.arbiter_side]; exact hrole
      have hstack := State.enterDisabled_portRole hvset hvrole
      refine ⟨v, _, ?_, rfl, fun j => ?_, State.enterDisabled_entersDisabled v.arbiter slot15, hstack⟩
      · rw [hwrite, hwait hst hb, State.stackIfDisabled_of_stack hstack]
      · exact (u.updSlot_slot slot15 _ j).trans (if_slot15_self (fun j => (u.slot j).stopTimers) _)
    · let v := u.updSlot slot15 Slot.stopTimers
      have hstack := State.enterDisabled_portRole (s := v) huset hurole
      refine ⟨v, _, ?_, rfl, fun j => ?_, State.enterDisabled_entersDisabled v slot15, hstack⟩
      · rw [hwrite, hother hst, State.stackIfDisabled_of_stack hstack]
      · exact (u.updSlot_slot slot15 _ j).trans (if_slot15_self (fun j => (u.slot j).stopTimers) _)
  · rw [State.setRole, if_neg (by rw [hset]; decide)]
    exact congrArg Host.Outcome.next (if_neg (by rw [hrole]; decide))
  · let b : State := { s with chassis := { s.chassis with roleSetting := .slot }, portRole := .slot }
    obtain ⟨hside, huplink, hsame, hgroup⟩ := b.setUsable_stopped_spec uplink4 false (b.dropUplink uplink4) rfl
    have hwrite : s.setRole .slot = (b.dropUplink uplink4).applyEnable slot15 := by
      rw [State.setRole, if_neg (by rw [hset]; decide)]
      exact if_pos hrole
    generalize b.dropUplink uplink4 = u at *
    have hstate : (u.slot slot15).state = (s.slot slot15).state := by rw [hside]; rfl
    have hcondition : u.disableCondition slot15 = !(s.policy slot15).adminEnable := by
      rw [hside]
      exact Bool.or_false _
    refine ⟨u, hside, huplink, hsame, fun hu => hgroup (fun hoff => Bool.noConfusion (hu.symm.trans hoff)), fun h => ?_,
      fun hst hadmin => ?_⟩
    · rw [hwrite, State.applyEnable_of_not]
      refine h.imp (fun h => by rw [hstate]; exact h) fun h => by rw [hcondition, h]; rfl
    · have hfree : u.disableCondition slot15 = false := by rw [hcondition, hadmin]; rfl
      exact ⟨_, by rw [hwrite, State.applyEnable_of_enabled (hstate.trans hst) hfree], State.enterEmpty_entersEmpty u slot15,
        hfree⟩

end Sys2Proof.Machine

/-! ### The power policy (O25), the passes (O22) and the capacity recomputation (O21) -/

namespace Sys2Proof.Machine

/-! ### The order of the queue -/

/-- The queue stands in order: no entry stands behind one that it comes before (R79). -/
def queueOrdered (q : List PowerEntry) : Prop := q.Pairwise fun e f => f.before e = false

theorem PowerEntry.before_false_iff (e f : PowerEntry) :
    f.before e = false ↔ e.priority < f.priority ∨ e.priority = f.priority ∧ e.seq ≤ f.seq := by
  simp only [PowerEntry.before, Bool.or_eq_false_iff, Bool.and_eq_false_iff, decide_eq_false_iff_not]
  omega

theorem PowerEntry.before_true_iff (e f : PowerEntry) :
    e.before f = true ↔ e.priority < f.priority ∨ e.priority = f.priority ∧ e.seq < f.seq := by
  simp only [PowerEntry.before, Bool.or_eq_true, Bool.and_eq_true, decide_eq_true_eq]

/-- An entry put in its place keeps the order. -/
theorem insertEntry_ordered {e : PowerEntry} {q : List PowerEntry} (h : queueOrdered q) :
    queueOrdered (insertEntry e q) := by
  induction q with
  | nil => exact List.pairwise_singleton _ _
  | cons f q ih =>
    obtain ⟨hf, hq⟩ := List.pairwise_cons.1 h
    unfold insertEntry
    split
    · next hb =>
      rw [PowerEntry.before_true_iff] at hb
      refine List.pairwise_cons.2 ⟨fun g hg => ?_, h⟩
      rw [PowerEntry.before_false_iff]
      rcases List.mem_cons.1 hg with rfl | hg
      · omega
      · have hfg := (PowerEntry.before_false_iff _ _).1 (hf g hg)
        omega
    · next hb =>
      refine List.pairwise_cons.2 ⟨fun g hg => ?_, ih hq⟩
      rcases List.mem_cons.1 ((insertEntry_perm e q).mem_iff.1 hg) with rfl | hg
      · simpa using hb
      · exact hf g hg

theorem foldl_insertEntry_ordered {α : Type} (f : α → PowerEntry) (l : List α) : ∀ q : List PowerEntry,
    queueOrdered q → queueOrdered (l.foldl (fun q e => insertEntry (f e) q) q) := by
  induction l with
  | nil => exact fun _ h => h
  | cons a l ih => exact fun q h => ih _ (insertEntry_ordered h)

/-- A moved entry keeps the queue's order and its length, and the queue the other entries. -/
theorem State.movePriority_queue (s : State) (i : SlotId) :
    (∀ e, e ∈ (s.movePriority i).powerQueue ↔
      e.slot ≠ i ∧ e ∈ s.powerQueue ∨
      ∃ x ∈ s.powerQueue, x.slot = i ∧ e = { x with priority := (s.policy i).priority }) ∧
    (s.movePriority i).powerQueue.length = s.powerQueue.length ∧
    (queueOrdered s.powerQueue → queueOrdered (s.movePriority i).powerQueue) := by
  have hperm := foldl_insertEntry_perm (fun e : PowerEntry => { e with priority := (s.policy i).priority })
    (s.powerQueue.filter fun e => e.slot = i) (s.powerQueue.filter fun e => e.slot ≠ i)
  refine ⟨fun e => ?_, ?_, fun h => foldl_insertEntry_ordered _ _ _ (h.filter _)⟩
  · rw [State.movePriority, hperm.mem_iff, List.mem_append, List.mem_map]
    simp only [List.mem_filter, decide_eq_true_eq]
    constructor
    · rintro (⟨x, ⟨hx, hi⟩, rfl⟩ | ⟨hx, hi⟩)
      · exact .inr ⟨x, hx, hi, rfl⟩
      · exact .inl ⟨hi, hx⟩
    · rintro (⟨hi, hx⟩ | ⟨x, hx, hi, rfl⟩)
      · exact .inr ⟨hx, hi⟩
      · exact .inl ⟨x, ⟨hx, hi⟩, rfl⟩
  · have h := s.movePriority_perm i
    simpa using h.length_eq

theorem State.movePriority_of_none {s : State} {i : SlotId} (h : s.entryOf i = none) : s.movePriority i = s := by
  have hno : ∀ e ∈ s.powerQueue, ¬ e.slot = i := by simpa [State.entryOf] using h
  have hout : s.powerQueue.filter (fun e => decide (e.slot = i)) = [] := by simpa using hno
  have hall : s.powerQueue.filter (fun e => decide (e.slot ≠ i)) = s.powerQueue := by simpa using hno
  rw [State.movePriority, hout, hall]
  rfl

theorem exec_powerPolicyWrite (s : State) (i : SlotId) (priority boot floor : Nat) :
    exec (.powerPolicyWrite i priority boot floor) s =
      .next (State.actOnPower (s.updPolicy i fun p =>
        { p with
          priority := clamp 0 7 priority, bootAllowance := clamp 1 1000 boot,
          capFloor := capFloorTied (clamp 1 1000 boot) floor }) i (s.policy i)) := rfl

/-- Settles O25: by whether the priority, or another of the fields, changes. -/
theorem powerPolicyWriteRunsArbiter : Obligations.PowerPolicyWriteRunsArbiter := by
  unfold Obligations.PowerPolicyWriteRunsArbiter
  intro s i priority boot floor
  let p : SlotPolicy :=
    { s.policy i with
      priority := min 7 priority, bootAllowance := max 1 (min 1000 boot),
      capFloor := max (max 1 (min 1000 boot)) (max 1 (min 1000 floor)) }
  let w := s.updPolicy i fun q =>
    { q with
      priority := min 7 priority, bootAllowance := max 1 (min 1000 boot),
      capFloor := max (max 1 (min 1000 boot)) (max 1 (min 1000 floor)) }
  have hfloor : capFloorTied (clamp 1 1000 boot) floor = max (max 1 (min 1000 boot)) (max 1 (min 1000 floor)) := by
    simp only [capFloorTied, clamp_eq]
  have hexec : exec (.powerPolicyWrite i priority boot floor) s = .next (w.actOnPower i (s.policy i)) := by
    rw [exec_powerPolicyWrite, hfloor, clamp_zero, clamp_eq]
  have hself : w.policy i = p := s.updPolicy_policy_self i _
  by_cases hprio : min 7 priority = (s.policy i).priority
  · have hact : w.actOnPower i (s.policy i) = if p = s.policy i then w else w.arbiter := by
      rw [State.actOnPower, hself, if_pos hprio]
      refine if_congr ⟨fun h => ?_, fun h => by rw [h]; exact ⟨rfl, rfl, rfl⟩⟩ rfl rfl
      obtain ⟨hp, hboot, hcap⟩ := h
      calc
        p = { s.policy i with priority := p.priority, bootAllowance := p.bootAllowance, capFloor := p.capFloor } := rfl
        _ = s.policy i := by rw [hp, hboot, hcap]
    refine ⟨w, rfl, fun j hj => s.updPolicy_policy_ne _ hj, hself, fun h => ?_, fun h => ?_, fun _ => rfl,
      fun hne => absurd hprio.symm hne⟩
    · rw [hexec, hact, if_pos (hself.symm.trans h)]
      exact congrArg Host.Outcome.next (State.updPolicy_self (hself.symm.trans h))
    · rw [hexec, hact, if_neg (hself ▸ h)]
  · have hne : p ≠ s.policy i := fun h => hprio (congrArg SlotPolicy.priority h)
    have hact : w.actOnPower i (s.policy i) = (w.movePriority i).arbiter := by
      rw [State.actOnPower, hself, if_neg hprio, if_neg fun h => hprio h.1]
    have hpolicy : ∀ j, (w.movePriority i).policy j = w.policy j := fun _ => rfl
    obtain ⟨hmem, hlength, hordered⟩ := w.movePriority_queue i
    rw [hself] at hmem
    refine ⟨w.movePriority i, rfl, fun j hj => s.updPolicy_policy_ne _ hj, hself, fun h => absurd (hself.symm.trans h) hne,
      fun _ => by rw [hexec, hact], fun h => ?_, fun _ => ⟨hmem, hlength, hordered⟩⟩
    have hnone : w.entryOf i = none := h.resolve_left fun h => hprio h.symm
    rw [State.movePriority_of_none hnone]
    rfl

/-! ### The passes -/

/-- What the capping pass does with a slot. -/
theorem State.capSlot_spec (s u : State) (i : SlotId) (hu : u = s.capSlot i) :
    u = { s with
      rails := u.rails, grants := u.grants, meters := u.meters, powerQueue := u.powerQueue,
      queueCounter := u.queueCounter } ∧
    (u.grantOf i).grant = s.capLevel i ∧ (u.grantOf i).budgetCapped = true ∧
    (u.grantOf i).target = (s.grantOf i).target ∧ (u.grantOf i).capped = (u.grantOf i).shouldCap ∧
    (∀ j, j ≠ i → u.grantOf j = s.grantOf j ∧ u.rail j = s.rail j ∧ u.meter j = s.meter j) ∧
    ((s.slot i).state = .heldOnline ∨ (s.slot i).state = .online → (s.grantOf i).thermalCap = false →
      u.hasEntry i .upgrade = true) ∧
    ((s.slot i).state ≠ .heldOnline → (s.slot i).state ≠ .online → u.powerQueue = s.powerQueue) := by
  let t := s.updGrant i fun g => { g with grant := s.capLevel i, budgetCapped := true }
  let w := if t.mayUpgrade i && !(t.grantOf i).thermalCap && !t.hasEntry i .upgrade then t.enqueue i .upgrade else t
  have hw : w = { t with powerQueue := w.powerQueue, queueCounter := w.queueCounter } := by
    simp only [w]
    split
    · exact t.enqueue_frame i .upgrade
    · rfl
  have hugrant := w.remark_grantOf i
  have hurail := fun j (hj : j ≠ i) => w.remark_rail_ne hj
  have humeter := fun j (hj : j ≠ i) => w.remark_meter_ne hj
  have huqueue := w.remark_powerQueue i
  have huframe := w.remark_frame i
  rw [show w.remark i = u from hu.symm] at hugrant huqueue huframe
  have htself : t.grantOf i = { s.grantOf i with grant := s.capLevel i, budgetCapped := true } :=
    s.updGrant_grantOf_self i _
  have hwgrant : ∀ j, w.grantOf j = t.grantOf j := fun j => by rw [hw]; rfl
  have hself := hugrant i
  rw [if_pos rfl, hwgrant, htself] at hself
  refine ⟨?_, by rw [hself], by rw [hself], by rw [hself], by rw [hself]; rfl, fun j hj => ⟨?_, ?_, ?_⟩, fun hst hc => ?_,
    fun hheld honline => ?_⟩
  · rw [huframe, hw]
    rfl
  · rw [hugrant, if_neg hj, hwgrant]
    exact s.updGrant_grantOf_ne _ hj
  · rw [hu]
    exact (hurail j hj).trans (by rw [hw]; rfl)
  · rw [hu]
    exact (humeter j hj).trans (by rw [hw]; rfl)
  · have hmay : t.mayUpgrade i = true := by
      change ((s.slot i).state = .heldOnline || (s.slot i).state = .online) = true
      simpa using hst
    have hcool : (t.grantOf i).thermalCap = false := by rw [htself]; exact hc
    rw [State.hasEntry, huqueue]
    change w.hasEntry i .upgrade = true
    cases hentry : t.hasEntry i .upgrade with
    | true => simp only [w, hmay, hcool, hentry]; exact hentry
    | false =>
      simp only [w, hmay, hcool, hentry]
      simp [State.enqueue_hasEntry]
  · have hmay : t.mayUpgrade i = false := by
      change ((s.slot i).state = .heldOnline || (s.slot i).state = .online) = false
      simp [hheld, honline]
    rw [huqueue]
    simp only [w, hmay]
    rfl

theorem State.raise_headroom (s : State) (e : Event) : (s.raise e).headroom = s.headroom := by
  rw [State.raise_side]
  rfl

/-- The headroom a shed gains. -/
theorem State.updReleasing_headroom (s : State) (i : SlotId) :
    (s.updGrant i fun g => { g with releasing := true }).headroom =
      s.headroom + (if (s.grantOf i).releasing then 0 else ((s.grantOf i).grant : Int)) := by
  have hsum := s.updGrant_grantsHeld i fun g => { g with releasing := true }
  have hc : (s.updGrant i fun g => { g with releasing := true }).cAvail = s.cAvail := State.cAvail_congr rfl rfl rfl
  have hheld : Grant.held { s.grantOf i with releasing := true } = 0 := rfl
  rw [hheld] at hsum
  unfold State.headroom
  rw [hc]
  unfold Grant.held at hsum
  split at hsum
  · next h => rw [if_pos h]; omega
  · next h => rw [if_neg h]; omega

/-- Settles O22: by the slot at the front of each pass. -/
theorem cappingPassReducesToCapLevel : Obligations.CappingPassReducesToCapLevel := by
  unfold Obligations.CappingPassReducesToCapLevel
  refine ⟨fun s i rest did => ⟨fun h => ?_, fun h hle => ?_, fun h hlt => ?_⟩, fun s i rest did => ⟨fun h => ?_, fun h => ?_⟩⟩
  · rw [cappingPass, if_pos h]
  · rw [cappingPass, if_neg (by omega), if_neg (by omega)]
  · exact ⟨s.capSlot i, by rw [cappingPass, if_neg (by omega), if_pos hlt], State.capSlot_spec s _ i rfl⟩
  · rw [sheddingPass, if_pos h]
  · let u : State := { s.updGrant i (fun g => { g with releasing := true }) with
      powerQueue := s.powerQueue.filter fun e => !(e.slot = i) }
    have hfilter : (s.powerQueue.filter fun e => decide (e.slot ≠ i)) = s.powerQueue.filter fun e => !(e.slot = i) :=
      List.filter_congr fun e _ => by simp
    have hshed : s.shedSlot i = u.startDrain i .budget (if (s.policy i).restoreAfterShed then .powerWait else .present)
        .none := by
      rw [State.shedSlot]
      simp only [State.updGrant_powerQueue, hfilter]
      rfl
    refine ⟨u, s.shedSlot i, by rw [sheddingPass, if_neg (by omega)], rfl, fun j => s.updGrant_grantOf i _ j, hshed,
      fun hdrain => ?_⟩
    have hgrant : (u.leaveForDrain i .budget (if (s.policy i).restoreAfterShed then .powerWait else .present)
        .none).drainGrant i .budget =
        u.leaveForDrain i .budget (if (s.policy i).restoreAfterShed then .powerWait else .present) .none := if_pos rfl
    obtain ⟨hslot, -, hgrants, hqueue, -⟩ := State.startDrain_at (s := u) hdrain .budget
      (if (s.policy i).restoreAfterShed then .powerWait else .present) .none _ _ hgrant.symm hshed
    have hside := u.startDrain_drainSide i .budget (if (s.policy i).restoreAfterShed then .powerWait else .present) .none
    rw [← hshed] at hside
    have hleave := u.leaveForDrain_frame i .budget (if (s.policy i).restoreAfterShed then .powerWait else .present) .none
    generalize s.shedSlot i = t at *
    have hself := hslot i
    rw [if_pos rfl, State.leaveForDrain_slot, if_pos rfl] at hself
    rw [hleave] at hgrants hqueue
    have hsum : t.grantsHeld = u.grantsHeld := State.grantsHeld_congr fun j => by rw [State.grantOf, hgrants]; rfl
    have hc : t.cAvail = u.cAvail := State.cAvail_congr (by rw [hside]; rfl) (by rw [hside]; rfl) (by rw [hside]; rfl)
    refine ⟨by rw [hself], by rw [hself]; rfl, by rw [hself]; rfl, hgrants, hqueue, ?_⟩
    rw [← s.updReleasing_headroom i]
    unfold State.headroom
    rw [hsum, hc]
    rfl

/-! ### The order of the passes and the recomputation -/

/-- Slot i does not stand behind slot j in the order of the passes (R90). -/
def State.shedOrder (s : State) (i j : SlotId) : Prop :=
  (s.policy j).priority < (s.policy i).priority ∨
    (s.policy i).priority = (s.policy j).priority ∧ (s.grantOf j).admission ≤ (s.grantOf i).admission

theorem State.shedBefore_iff (s : State) (i j : SlotId) :
    s.shedBefore i j = true ↔
      (s.policy j).priority < (s.policy i).priority ∨
        (s.policy i).priority = (s.policy j).priority ∧ (s.grantOf j).admission < (s.grantOf i).admission := by
  simp only [State.shedBefore, Bool.or_eq_true, Bool.and_eq_true, decide_eq_true_eq]

theorem insertSlot_perm (s : State) (i : SlotId) (l : List SlotId) : (insertSlot s i l).Perm (i :: l) := by
  induction l with
  | nil => exact List.Perm.refl _
  | cons j l ih =>
    unfold insertSlot
    split
    · exact List.Perm.refl _
    · exact (ih.cons j).trans (List.Perm.swap i j l)

theorem insertSlot_pairwise {s : State} {i : SlotId} {l : List SlotId} (h : l.Pairwise s.shedOrder) :
    (insertSlot s i l).Pairwise s.shedOrder := by
  induction l with
  | nil => exact List.pairwise_singleton _ _
  | cons j l ih =>
    obtain ⟨hj, hl⟩ := List.pairwise_cons.1 h
    unfold insertSlot
    split
    · next hb =>
      rw [State.shedBefore_iff] at hb
      refine List.pairwise_cons.2 ⟨fun k hk => ?_, h⟩
      unfold State.shedOrder
      rcases List.mem_cons.1 hk with rfl | hk
      · omega
      · have hjk := hj k hk
        unfold State.shedOrder at hjk
        omega
    · next hb =>
      rw [State.shedBefore_iff] at hb
      refine List.pairwise_cons.2 ⟨fun k hk => ?_, ih hl⟩
      rcases (mem_insertSlot s i k l).1 hk with rfl | hk
      · unfold State.shedOrder
        omega
      · exact hj k hk

theorem State.passOrder_spec (s : State) : s.passOrder.Nodup ∧ s.passOrder.Pairwise s.shedOrder := by
  have hnodup : (allSlots.filter fun i => (s.grantOf i).grant ≠ 0 && !(s.grantOf i).releasing).Nodup :=
    (List.nodup_finRange 16).filter _
  unfold State.passOrder
  generalize (allSlots.filter fun i => (s.grantOf i).grant ≠ 0 && !(s.grantOf i).releasing) = l at *
  have hperm : (l.foldr (insertSlot s) []).Perm l := by
    clear hnodup
    induction l with
    | nil => exact List.Perm.refl _
    | cons i l ih => exact (insertSlot_perm s i _).trans (ih.cons i)
  refine ⟨hperm.nodup_iff.2 hnodup, ?_⟩
  clear hnodup hperm
  induction l with
  | nil => exact List.Pairwise.nil
  | cons i l ih => exact insertSlot_pairwise ih

theorem State.restoreBalance_of_nonneg {s : State} (h : 0 ≤ s.headroom) : s.restoreBalance = (s, false) := if_pos h

/-- What a recomputation leaves as it was. -/
theorem State.recapacity_kept (s : State) (old : Nat) :
    (s.recapacity old).psus = s.psus ∧ (s.recapacity old).fans = s.fans ∧ (s.recapacity old).chassis = s.chassis ∧
      (s.recapacity old).policies = s.policies := by
  have h := s.recapacity_settings old
  exact ⟨State.psus_of_settings h, State.fans_of_settings h, State.chassis_of_settings h, State.policies_of_settings h⟩

/-- Settles O21: by the sign of the headroom and of the change. -/
theorem recapacityEndsInBalance : Obligations.RecapacityEndsInBalance := by
  unfold Obligations.RecapacityEndsInBalance
  refine ⟨fun s old => ⟨fun h => if_pos h, fun h => ?_⟩, fun s => ⟨s.mem_passOrder, s.passOrder_spec.1, s.passOrder_spec.2⟩,
    fun s h => ?_⟩
  · obtain ⟨hpsus, hfans, hchassis, hpolicies⟩ := s.recapacity_kept old
    have hrun : s.recapacity old =
        if old < s.cAvail || (s.raise .capacityChange).restoreBalance.2 then
          (s.raise .capacityChange).restoreBalance.1.arbiter
        else (s.raise .capacityChange).restoreBalance.1 := if_neg h
    have hheadroom := s.raise_headroom .capacityChange
    refine ⟨s.recapacity_headroom old fun e => absurd e h, State.cAvail_congr hchassis hpsus hfans, hpsus, hfans, hchassis,
      hpolicies, fun hpos hlt => ?_, fun hpos hlt => ?_, fun hneg => ⟨(s.raise .capacityChange).restoreBalance.1,
        (s.raise .capacityChange).restoreBalance.2, Prod.mk.eta.symm, fun hdue => ?_, fun hlt hb => ?_⟩⟩
    · rw [hrun, State.restoreBalance_of_nonneg (by rw [hheadroom]; exact hpos), if_neg]
      simp only [Bool.or_false, decide_eq_true_eq]
      omega
    · rw [hrun, State.restoreBalance_of_nonneg (by rw [hheadroom]; exact hpos), if_pos (by simp [hlt])]
    · rw [hrun, if_pos (by simpa using hdue)]
    · rw [hrun, if_neg]
      rw [hb, Bool.or_false, decide_eq_true_eq]
      omega
  · have hbalance : s.restoreBalance = (s.runCapping.1.runShedding.1, s.runCapping.2 || s.runCapping.1.runShedding.2) :=
      if_neg (by omega)
    rw [hbalance]
    refine ⟨(cappingPass s.passOrder false s).1, s.runCapping.1, (cappingPass s.passOrder false s).2, rfl, rfl, fun hpos => ?_,
      fun hneg => ⟨(sheddingPass s.runCapping.1.passOrder false s.runCapping.1).1,
        (sheddingPass s.runCapping.1.passOrder false s.runCapping.1).2, rfl, ?_, ?_⟩⟩
    · rw [State.runShedding, if_pos hpos, Bool.or_false]
      rfl
    · have hshed := s.runCapping.1.runShedding_headroom
      rw [State.runShedding, if_neg (by omega)] at hshed
      dsimp only at hshed
      split at hshed
      · rw [State.raise_headroom] at hshed
        exact hshed
      · exact hshed
    · rw [State.runShedding, if_neg (show ¬ 0 ≤ s.runCapping.1.headroom by omega)]
      rfl

end Sys2Proof.Machine

/-! ### The arbiter, targets and thermal caps (O23) -/

namespace Sys2Proof.Machine

/-! ### The arbiter at its head -/

theorem State.arbiter_of_unfit {s : State} {e : PowerEntry} {rest : List PowerEntry} (hq : s.powerQueue = e :: rest)
    (h : s.fits e = false) (hi : s.interlock = false) : s.arbiter = s.stopAt e := by
  rw [State.arbiter, if_neg (by simp [hi]), hq, List.length_cons]
  unfold arbiterLoop
  rw [hq]
  exact if_neg (by simp [h])

theorem State.fits_upgrade {s : State} {e : PowerEntry} (hk : e.kind = .upgrade) :
    s.fits e = decide (((s.grantOf e.slot).target : Int) - ((s.grantOf e.slot).grant : Int) ≤ s.headroom) := by
  rw [State.fits, hk]

theorem State.fits_boot {s : State} {e : PowerEntry} (hk : e.kind = .boot) :
    s.fits e = decide (((s.policy e.slot).bootAllowance : Int) ≤ s.headroom) := by
  rw [State.fits, hk]

/-- An UPGRADE alone in the queue is granted in full or takes its partial step. -/
theorem State.arbiter_single_upgrade {s : State} {e : PowerEntry} (hi : s.interlock = false) (hq : s.powerQueue = [e])
    (hk : e.kind = .upgrade) :
    s.arbiter = if s.fits e then s.upgrade e.slot else s.partialStep e.slot := by
  have hserve : s.serve e = s.upgrade e.slot := by rw [State.serve, hk]
  have hstop : s.stopAt e = s.partialStep e.slot := by rw [State.stopAt, hk]
  cases h : s.fits e with
  | true =>
    rw [State.arbiter, if_neg (by simp [hi]), hq]
    change arbiterLoop 1 s = _
    unfold arbiterLoop
    rw [hq]
    dsimp only
    rw [h, hserve]
    rfl
  | false =>
    rw [State.arbiter_of_unfit hq h hi, hstop]
    rfl

theorem State.partialStep_of_not {s : State} {i : SlotId}
    (h : s.capLevel i ≤ (s.grantOf i).grant ∨ s.headroom < (s.capLevel i : Int) - ((s.grantOf i).grant : Int)) :
    s.partialStep i = s := by
  refine if_neg ?_
  simp only [Bool.and_eq_true, decide_eq_true_eq]
  omega

theorem State.upgrade_grantOf (s : State) (i j : SlotId) :
    (s.upgrade i).grantOf j =
      if j = i then
        { s.grantOf i with grant := (s.grantOf i).target, budgetCapped := false, capped := (s.grantOf i).thermalCap }
      else s.grantOf j := by
  have hdequeue : ∀ (t : State) (j : SlotId), (t.dequeue i .upgrade).grantOf j = t.grantOf j := fun _ _ => rfl
  rw [State.upgrade, State.remark_grantOf, hdequeue, hdequeue, State.updGrant_grantOf_self]
  split
  · simp [Grant.shouldCap]
  · next h => exact State.updGrant_grantOf_ne _ _ h

theorem State.upgrade_queue (s : State) (i : SlotId) :
    (s.upgrade i).powerQueue = s.powerQueue.filter (fun e => !(e.slot = i && e.kind = .upgrade)) ∧
      (s.upgrade i).slots = s.slots := by
  rw [State.upgrade, State.remark_powerQueue, State.remark_frame]
  exact ⟨rfl, rfl⟩

theorem arbiter_serves_head (s : State) (e : PowerEntry) (rest : List PowerEntry) :
    (s.interlock = true → s.arbiter = s) ∧
    (s.powerQueue = [] → s.arbiter = s) ∧
    (s.powerQueue = e :: rest → e.kind = .boot → s.headroom < ((s.policy e.slot).bootAllowance : Int) →
      s.arbiter = s) ∧
    (s.powerQueue = e :: rest → e.kind = .upgrade →
      s.headroom < ((s.grantOf e.slot).target : Int) - ((s.grantOf e.slot).grant : Int) →
      s.capLevel e.slot ≤ (s.grantOf e.slot).grant ∨
        s.headroom < (s.capLevel e.slot : Int) - ((s.grantOf e.slot).grant : Int) →
      s.arbiter = s) ∧
    (s.interlock = false → s.powerQueue = [e] → e.kind = .upgrade →
      ((s.grantOf e.slot).target : Int) - ((s.grantOf e.slot).grant : Int) ≤ s.headroom →
      s.arbiter.powerQueue = [] ∧ (s.arbiter.grantOf e.slot).grant = (s.grantOf e.slot).target ∧
      (s.arbiter.grantOf e.slot).target = (s.grantOf e.slot).target ∧
      (s.arbiter.grantOf e.slot).budgetCapped = false ∧
      (s.arbiter.grantOf e.slot).capped = (s.grantOf e.slot).thermalCap ∧
      (∀ j, j ≠ e.slot → s.arbiter.grantOf j = s.grantOf j) ∧ s.arbiter.slots = s.slots) := by
  refine ⟨State.arbiter_of_interlock, State.arbiter_of_nil, fun hq hk h => ?_, fun hq hk h hpart => ?_,
    fun hi hq hk h => ?_⟩
  · cases hi : s.interlock with
    | true => exact State.arbiter_of_interlock hi
    | false =>
      rw [State.arbiter_of_unfit hq (by rw [State.fits_boot hk, decide_eq_false_iff_not]; omega) hi, State.stopAt, hk]
  · cases hi : s.interlock with
    | true => exact State.arbiter_of_interlock hi
    | false =>
      rw [State.arbiter_of_unfit hq (by rw [State.fits_upgrade hk, decide_eq_false_iff_not]; omega) hi, State.stopAt, hk]
      exact State.partialStep_of_not hpart
  · rw [State.arbiter_single_upgrade hi hq hk, if_pos (by rw [State.fits_upgrade hk, decide_eq_true_eq]; exact h)]
    obtain ⟨hqueue, hslots⟩ := s.upgrade_queue e.slot
    rw [State.upgrade_grantOf, if_pos rfl]
    refine ⟨?_, rfl, rfl, rfl, rfl, fun j hj => ?_, hslots⟩
    · rw [hqueue, hq]
      simp [hk]
    · rw [State.upgrade_grantOf, if_neg hj]

/-! ### The capped mark -/

theorem remark_sets_line (s : State) (i : SlotId) :
    ∃ t : State, s.remark i = t ∧ t = { s with rails := t.rails, grants := t.grants, meters := t.meters } ∧
      (∀ j, t.grantOf j =
        if j = i then
          { s.grantOf i with
            capped := decide ((s.grantOf i).grant < (s.grantOf i).target) || (s.grantOf i).thermalCap }
        else s.grantOf j) ∧
      ((t.grantOf i).capped ≠ (s.grantOf i).capped → (t.rail i).powerCap = (t.grantOf i).capped) := by
  refine ⟨s.remark i, rfl, ?_, s.remark_grantOf i, fun h => ?_⟩
  · rw [State.remark_frame]
  · rw [State.remark_grantOf, if_pos rfl] at h ⊢
    rw [State.remark_rail_self]
    exact if_neg h

/-! ### Targets -/

theorem State.updGrant_updGrant (s : State) (i : SlotId) (f g : Grant → Grant) :
    (s.updGrant i f).updGrant i g = s.updGrant i fun r => g (f r) := by
  simp only [State.updGrant, Tab.upd_upd]

theorem State.updGrant_congr {s : State} {i : SlotId} {f g : Grant → Grant} (h : f (s.grantOf i) = g (s.grantOf i)) :
    s.updGrant i f = s.updGrant i g := by
  simp only [State.updGrant, Tab.upd_congr (t := s.grants) h]

theorem State.enqueue_of_nil {s : State} {i : SlotId} {k : EntryKind} (h : s.powerQueue = []) :
    ∃ e : PowerEntry, (s.enqueue i k).powerQueue = [e] ∧ e.slot = i ∧ e.kind = k := by
  have hno : ¬ s.hasEntry i k = true := by simp [State.hasEntry, h]
  have hren : s.renumberQueue.powerQueue = [] := by
    unfold State.renumberQueue
    split
    · exact h
    · change renumbered s.powerQueue = []
      rw [h]
      rfl
  rw [State.enqueue, if_neg hno]
  dsimp only
  rw [hren]
  exact ⟨_, rfl, rfl, rfl⟩

theorem State.partialStep_grantOf_self (s : State) (i : SlotId) :
    ((s.partialStep i).grantOf i).grant =
        (if (s.grantOf i).grant < s.capLevel i ∧ (s.capLevel i : Int) - ((s.grantOf i).grant : Int) ≤ s.headroom then
          s.capLevel i
        else (s.grantOf i).grant) ∧
      ((s.partialStep i).grantOf i).target = (s.grantOf i).target ∧
      (s.partialStep i).powerQueue = s.powerQueue := by
  unfold State.partialStep
  by_cases h : (s.grantOf i).grant < s.capLevel i ∧ (s.capLevel i : Int) - ((s.grantOf i).grant : Int) ≤ s.headroom
  · rw [if_pos (by simpa using h), if_pos h, State.remark_grantOf, if_pos rfl, State.updGrant_grantOf_self,
      State.remark_powerQueue]
    exact ⟨rfl, rfl, rfl⟩
  · rw [if_neg (by simpa using h), if_neg h]
    exact ⟨rfl, rfl, rfl⟩

/-- An UPGRADE that joins an empty queue, the interlock released: granted in full, or by its partial step. -/
theorem State.upgrade_alone {u : State} {i : SlotId} {power : Nat} (hi : u.interlock = false) (hq : u.powerQueue = [])
    (htarget : (u.grantOf i).target = power) (hcool : (u.grantOf i).thermalCap = false) (t : State)
    (ht : t = ((u.enqueue i .upgrade).arbiter).remark i) :
    (t.grantOf i).target = power ∧
    ((power : Int) - ((u.grantOf i).grant : Int) ≤ u.headroom →
      (t.grantOf i).grant = power ∧ t.powerQueue = [] ∧ (t.grantOf i).capped = false) ∧
    (u.headroom < (power : Int) - ((u.grantOf i).grant : Int) →
      (t.grantOf i).grant =
        (if (u.grantOf i).grant < min (u.policy i).capFloor power ∧
            ((min (u.policy i).capFloor power : Nat) : Int) - ((u.grantOf i).grant : Int) ≤ u.headroom then
          min (u.policy i).capFloor power
        else (u.grantOf i).grant) ∧
      t.hasEntry i .upgrade = true) := by
  obtain ⟨e, hqueue, hslot, hkind⟩ := State.enqueue_of_nil (i := i) (k := .upgrade) hq
  have hframe := u.enqueue_frame i .upgrade
  generalize u.enqueue i .upgrade = v at *
  have hvi : v.interlock = false := by rw [hframe]; exact hi
  have hgrant : v.grantOf i = u.grantOf i := by rw [hframe]; rfl
  have hlevel : v.capLevel i = min (u.policy i).capFloor power := by
    rw [State.capLevel, hgrant, htarget, hframe]
    rfl
  have hheadroom : v.headroom = u.headroom := by rw [hframe]; rfl
  have hfits : v.fits e = decide ((power : Int) - ((u.grantOf i).grant : Int) ≤ u.headroom) := by
    rw [State.fits_upgrade hkind, hslot, hgrant, htarget, hheadroom]
  have hrun := State.arbiter_single_upgrade hvi hqueue hkind
  rw [hslot, hfits] at hrun
  have hentry : v.hasEntry i .upgrade = true := by
    rw [← hslot, ← hkind]
    exact State.hasEntry_of_head hqueue
  have hself : t.grantOf i = { v.arbiter.grantOf i with capped := (v.arbiter.grantOf i).shouldCap } := by
    rw [ht, State.remark_grantOf, if_pos rfl]
  have htqueue : t.powerQueue = v.arbiter.powerQueue := by rw [ht, State.remark_powerQueue]
  by_cases hfit : (power : Int) - ((u.grantOf i).grant : Int) ≤ u.headroom
  · rw [if_pos (by simpa using hfit)] at hrun
    have hup : v.arbiter.grantOf i =
        { u.grantOf i with grant := power, budgetCapped := false, capped := false } := by
      rw [hrun, State.upgrade_grantOf, if_pos rfl, hgrant, htarget, hcool]
    refine ⟨by rw [hself, hup]; exact htarget, fun _ => ⟨by rw [hself, hup], ?_, ?_⟩, fun h => absurd hfit (by omega)⟩
    · rw [htqueue, hrun, (v.upgrade_queue i).1, hqueue]
      simp [hslot, hkind]
    · rw [hself, hup]
      simp [Grant.shouldCap, htarget, hcool]
  · rw [if_neg (by simpa using hfit)] at hrun
    obtain ⟨hpgrant, hptarget, hpqueue⟩ := v.partialStep_grantOf_self i
    rw [← hrun] at hpgrant hptarget hpqueue
    refine ⟨?_, fun h => absurd h hfit, fun _ => ⟨?_, ?_⟩⟩
    · rw [hself]
      exact hptarget.trans ((congrArg Grant.target hgrant).trans htarget)
    · rw [hself]
      refine hpgrant.trans ?_
      rw [hlevel, hgrant, hheadroom]
    · rw [State.hasEntry, htqueue, hpqueue]
      exact hentry

/-- The state of R85 before its UPGRADE joins: the thermal cap lifted, the declared power the target. -/
def State.targetTaken (s : State) (i : SlotId) (power : Nat) : State :=
  (s.liftThermalCap i).updGrant i fun g => { g with target := power }

theorem State.targetTaken_spec (s u : State) (i : SlotId) (power : Nat) (hu : u = s.targetTaken i power) :
    (∀ j, u.grantOf j =
      if j = i then { s.grantOf i with target := power, thermalCap := false } else s.grantOf j) ∧
    u.headroom = s.headroom ∧ u.powerQueue = s.powerQueue ∧ u.interlock = s.interlock ∧ u.policies = s.policies := by
  have hside := s.liftThermalCap_side i
  have hgrants : ∀ j, u.grantOf j =
      if j = i then { s.grantOf i with target := power, thermalCap := false } else s.grantOf j := fun j => by
    rw [hu, State.targetTaken, State.updGrant_grantOf, State.liftThermalCap_grantOf, State.liftThermalCap_grantOf,
      if_pos rfl]
    split <;> rfl
  refine ⟨hgrants, ?_, ?_, ?_, ?_⟩
  · have hc : u.cAvail = s.cAvail := by
      rw [hu, State.targetTaken, hside]
      exact State.cAvail_congr rfl rfl rfl
    have hheld : u.grantsHeld = s.grantsHeld := State.grantsHeld_congr fun j => by
      rw [hgrants]
      split
      · next e => subst e; rfl
      · rfl
    rw [State.headroom, hc, hheld]
    rfl
  all_goals
    rw [hu, State.targetTaken, hside]
    rfl

theorem window_target_granted (s : State) (i : SlotId) (power : Nat) :
    ∃ w u : State, w = { s with grants := w.grants } ∧
      (∀ j, w.grantOf j = if j = i then { s.grantOf i with thermalCap := false } else s.grantOf j) ∧
      u = { (if (s.grantOf i).thermalCap then w.raise (.thermalCapOff i) else s) with grants := u.grants } ∧
      (power ≤ (s.grantOf i).grant →
        (∀ j, u.grantOf j =
          if j = i then
            { s.grantOf i with grant := power, target := power, thermalCap := false, budgetCapped := false }
          else s.grantOf j) ∧
        s.acceptTarget i power = (if power < (s.grantOf i).grant then u.arbiter else u).remark i) ∧
      ((s.grantOf i).grant < power →
        (∀ j, u.grantOf j =
          if j = i then { s.grantOf i with target := power, thermalCap := false } else s.grantOf j) ∧
        s.acceptTarget i power = ((u.enqueue i .upgrade).arbiter).remark i ∧
        (s.interlock = false → s.powerQueue = [] →
          ((s.acceptTarget i power).grantOf i).target = power ∧
          ((power : Int) - ((s.grantOf i).grant : Int) ≤ s.headroom →
            ((s.acceptTarget i power).grantOf i).grant = power ∧ (s.acceptTarget i power).powerQueue = [] ∧
            ((s.acceptTarget i power).grantOf i).capped = false) ∧
          (s.headroom < (power : Int) - ((s.grantOf i).grant : Int) →
            ((s.acceptTarget i power).grantOf i).grant =
              (if (s.grantOf i).grant < min (s.policy i).capFloor power ∧
                  ((min (s.policy i).capFloor power : Nat) : Int) - ((s.grantOf i).grant : Int) ≤ s.headroom then
                min (s.policy i).capFloor power
              else (s.grantOf i).grant) ∧
            (s.acceptTarget i power).hasEntry i .upgrade = true))) := by
  obtain ⟨hgrants, hheadroom, hqueue, hinterlock, hpolicies⟩ := s.targetTaken_spec _ i power rfl
  by_cases h : power ≤ (s.grantOf i).grant
  · refine ⟨s.updGrant i fun g => { g with thermalCap := false },
      (s.targetTaken i power).updGrant i fun r => { r with grant := power, budgetCapped := false }, rfl,
      fun j => s.updGrant_grantOf i _ j, rfl, fun _ => ⟨fun j => ?_, if_pos h⟩, fun hlt => absurd h (by omega)⟩
    rw [State.updGrant_grantOf, hgrants, hgrants, if_pos rfl]
    split <;> rfl
  · have haccept : s.acceptTarget i power = (((s.targetTaken i power).enqueue i .upgrade).arbiter).remark i := if_neg h
    refine ⟨s.updGrant i fun g => { g with thermalCap := false }, s.targetTaken i power, rfl,
      fun j => s.updGrant_grantOf i _ j, rfl, fun hle => absurd hle h, fun _ => ⟨hgrants, haccept, fun hi hq => ?_⟩⟩
    have hself := hgrants i
    rw [if_pos rfl] at hself
    have halone := State.upgrade_alone (u := s.targetTaken i power) (i := i) (power := power) (hinterlock.trans hi)
      (hqueue.trans hq) (by rw [hself]) (by rw [hself]) _ haccept
    rw [hheadroom, hself] at halone
    have hpolicy : (s.targetTaken i power).policy i = s.policy i := by rw [State.policy, hpolicies]; rfl
    rw [hpolicy] at halone
    exact halone

theorem refresh_target_moves (s : State) (i : SlotId) (power : Nat) :
    ∃ u : State, u = { s with grants := u.grants, powerQueue := u.powerQueue } ∧
      (power < (s.grantOf i).target → power ≤ (s.grantOf i).grant →
        (∀ j, u.grantOf j =
          if j = i then { s.grantOf i with grant := power, target := power, budgetCapped := false }
          else s.grantOf j) ∧
        u.powerQueue = s.powerQueue.filter (fun e => !(e.slot = i && e.kind = .upgrade)) ∧
        s.refreshTarget i power =
          (if power < (s.grantOf i).grant ∨ s.hasEntry i .upgrade = true then u.arbiter else u).remark i) ∧
      ((s.grantOf i).grant < power →
        (∀ j, u.grantOf j = if j = i then { s.grantOf i with target := power } else s.grantOf j) ∧
        u.powerQueue = s.powerQueue ∧
        (power < (s.grantOf i).target ∨ (s.grantOf i).thermalCap = true ∨ s.hasEntry i .upgrade = true →
          s.refreshTarget i power = u.remark i) ∧
        ((s.grantOf i).target ≤ power → (s.grantOf i).thermalCap = false → s.hasEntry i .upgrade = false →
          s.refreshTarget i power = ((u.enqueue i .upgrade).arbiter).remark i)) := by
  by_cases h : power ≤ (s.grantOf i).grant
  · let u := (s.updGrant i fun g => { g with grant := power, target := power, budgetCapped := false }).dequeue i .upgrade
    refine ⟨u, rfl, fun hlt _ => ⟨fun j => s.updGrant_grantOf i _ j, rfl, ?_⟩, fun hlt => absurd h (by omega)⟩
    have hu : ((s.updGrant i fun r => { r with target := power, grant := min (s.grantOf i).grant power }).updGrant i
        fun r => { r with budgetCapped := false }).dequeue i .upgrade = u := by
      rw [State.updGrant_updGrant]
      refine congrArg (fun t => State.dequeue t i .upgrade) (State.updGrant_congr ?_)
      rw [min_eq_right h]
    rw [State.refreshTarget, if_pos hlt, State.lowerTarget]
    rw [if_pos h, hu]
    simp only [h, decide_true, Bool.true_and, Bool.or_eq_true, decide_eq_true_eq]
  · let u := s.updGrant i fun g => { g with target := power }
    refine ⟨u, rfl, fun _ hle => absurd hle h, fun _ => ⟨fun j => s.updGrant_grantOf i _ j, rfl, fun hno => ?_,
      fun hle hcool hentry => ?_⟩⟩
    · by_cases hlt : power < (s.grantOf i).target
      · have hu : (s.updGrant i fun r => { r with target := power, grant := min (s.grantOf i).grant power }) = u :=
          State.updGrant_congr (by rw [min_eq_left (by omega)])
        rw [State.refreshTarget, if_pos hlt, State.lowerTarget]
        rw [if_neg h, hu, if_neg]
        simp only [Bool.or_eq_true, Bool.and_eq_true, decide_eq_true_eq]
        omega
      · rw [State.refreshTarget, if_neg hlt, State.raiseTarget]
        rw [if_neg]
        rcases hno.resolve_left hlt with hcap | hentry
        · simp [hcap]
        · simp [hentry]
    · rw [State.refreshTarget, if_neg (by omega), State.raiseTarget]
      rw [if_pos (by simp [hcool, hentry])]

/-! ### Thermal caps -/

theorem thermal_cap_set (s : State) (i : SlotId) :
    ((s.grantOf i).thermalCap = true ∨ (s.grantOf i).releasing = true → s.setThermalCap i = s) ∧
    ((s.grantOf i).thermalCap = false → (s.grantOf i).releasing = false →
      ∃ w u : State, w = { s with grants := w.grants } ∧
        (∀ j, w.grantOf j = if j = i then { s.grantOf i with thermalCap := true } else s.grantOf j) ∧
        u = { w.raise (.thermalCapOn i) with
          grants := u.grants, powerQueue := s.powerQueue.filter fun e => !(e.slot = i && e.kind = .upgrade) } ∧
        (∀ j, u.grantOf j =
          if j = i then
            { s.grantOf i with thermalCap := true, grant := min (s.grantOf i).grant (s.capLevel i) }
          else s.grantOf j) ∧
        s.setThermalCap i = (u.remark i).arbiter) := by
  refine ⟨fun h => if_pos (by simpa using h), fun hcool hheld => ?_⟩
  let w := s.updGrant i fun g => { g with thermalCap := true }
  have hw : ∀ j, w.grantOf j = if j = i then { s.grantOf i with thermalCap := true } else s.grantOf j :=
    fun j => s.updGrant_grantOf i _ j
  have hset : s.setThermalCap i =
      ((((w.raise (.thermalCapOn i)).dequeue i .upgrade).updGrant i fun g =>
        { g with grant := min g.grant (s.capLevel i) }).remark i).arbiter := if_neg (by simp [hcool, hheld])
  have hqueue : (w.raise (.thermalCapOn i)).powerQueue = s.powerQueue := by rw [State.raise_powerQueue]; rfl
  have hgrant : ∀ j, (w.raise (.thermalCapOn i)).grantOf j = w.grantOf j := fun j => State.raise_grantOf _ _ j
  refine ⟨w,
    ((w.raise (.thermalCapOn i)).dequeue i .upgrade).updGrant i fun g => { g with grant := min g.grant (s.capLevel i) },
    rfl, hw, ?_, fun j => ?_, hset⟩
  · rw [State.dequeue, hqueue]
    rfl
  · have hdequeue : ∀ j,
        ((w.raise (.thermalCapOn i)).dequeue i .upgrade).grantOf j = (w.raise (.thermalCapOn i)).grantOf j := fun _ => rfl
    rw [State.updGrant_grantOf, hdequeue, hdequeue, hgrant, hgrant, hw, hw, if_pos rfl]
    split <;> rfl

theorem thermal_cap_cleared (s : State) (i : SlotId) :
    ((s.grantOf i).thermalCap = false → s.clearThermalCap i = s) ∧
    ((s.grantOf i).thermalCap = true →
      ∃ w : State, w = { s with grants := w.grants } ∧
        (∀ j, w.grantOf j = if j = i then { s.grantOf i with thermalCap := false } else s.grantOf j) ∧
        ((s.slot i).state = .heldOnline ∨ (s.slot i).state = .online →
          (s.grantOf i).grant < (s.grantOf i).target → (s.grantOf i).releasing = false →
          s.clearThermalCap i = (((w.raise (.thermalCapOff i)).enqueue i .upgrade).arbiter).remark i) ∧
        ((s.slot i).state ≠ .heldOnline ∧ (s.slot i).state ≠ .online ∨
            (s.grantOf i).target ≤ (s.grantOf i).grant ∨ (s.grantOf i).releasing = true →
          s.clearThermalCap i = (w.raise (.thermalCapOff i)).remark i)) := by
  refine ⟨fun h => if_neg (by simp [h]), fun h => ?_⟩
  let w := s.updGrant i fun g => { g with thermalCap := false }
  have hw : ∀ j, w.grantOf j = if j = i then { s.grantOf i with thermalCap := false } else s.grantOf j :=
    fun j => s.updGrant_grantOf i _ j
  have hlift : s.liftThermalCap i = w.raise (.thermalCapOff i) := if_pos h
  have hclear : s.clearThermalCap i =
      (if (w.raise (.thermalCapOff i)).mayUpgrade i &&
          ((w.raise (.thermalCapOff i)).grantOf i).grant < ((w.raise (.thermalCapOff i)).grantOf i).target &&
          !((w.raise (.thermalCapOff i)).grantOf i).releasing then
        ((w.raise (.thermalCapOff i)).enqueue i .upgrade).arbiter
      else w.raise (.thermalCapOff i)).remark i := by
    rw [State.clearThermalCap, if_pos h, hlift]
  have hmay : (w.raise (.thermalCapOff i)).mayUpgrade i =
      (decide ((s.slot i).state = .heldOnline) || decide ((s.slot i).state = .online)) := by
    rw [State.mayUpgrade, State.raise_slot]
    rfl
  rw [hmay, State.raise_grantOf, hw, if_pos rfl] at hclear
  refine ⟨w, rfl, hw, fun hst hlt hheld => ?_, fun hno => ?_⟩
  · rw [hclear, if_pos]
    simp only [Bool.and_eq_true, Bool.or_eq_true, decide_eq_true_eq, hheld]
    exact ⟨⟨hst, hlt⟩, rfl⟩
  · rw [hclear, if_neg]
    simp only [Bool.and_eq_true, Bool.or_eq_true, decide_eq_true_eq, Bool.not_eq_true']
    rintro ⟨⟨hst, hlt⟩, hheld⟩
    rcases hno with ⟨hne, hne'⟩ | hle | hrel
    · exact hst.elim hne hne'
    · omega
    · rw [hheld] at hrel
      cases hrel

/-- Settles O23: the arbiter's head, the capped mark, the targets and the thermal caps. -/
theorem arbiterServesFromHead : Obligations.ArbiterServesFromHead := by
  unfold Obligations.ArbiterServesFromHead
  exact ⟨arbiter_serves_head, remark_sets_line, window_target_granted, refresh_target_moves, thermal_cap_set,
    thermal_cap_cleared⟩

end Sys2Proof.Machine

/-! ### The chassis interlock (O18) -/

namespace Sys2Proof.Machine

/-- A fold whose steps keep P, and touch a view of the states that satisfy P only at one element of its list, has there the
one change. -/
theorem foldl_view_of {α β : Type} {F : State → α → State} {π : State → β} {P : State → Prop} {a : α}
    (hkeep : ∀ s b, P s → P (F s b)) (h : ∀ s b, P s → b ≠ a → π (F s b) = π s) {l : List α} (hl : l.Nodup)
    (ha : a ∈ l) {s : State} (hs : P s) :
    ∃ t, P t ∧ π t = π s ∧ π (l.foldl F s) = π (F t a) := by
  have hrest : ∀ (l : List α), a ∉ l → ∀ s, P s → P (l.foldl F s) ∧ π (l.foldl F s) = π s := by
    intro l
    induction l with
    | nil => exact fun _ s hs => ⟨hs, rfl⟩
    | cons b l ih =>
      intro hb s hs
      rw [List.mem_cons, not_or] at hb
      obtain ⟨hp, hv⟩ := ih hb.2 (F s b) (hkeep s b hs)
      exact ⟨hp, hv.trans (h s b hs (Ne.symm hb.1))⟩
  obtain ⟨before, after, rfl⟩ := List.append_of_mem ha
  have hbefore : a ∉ before := fun hb => (List.nodup_append.1 hl).2.2 a hb a List.mem_cons_self rfl
  have hafter : a ∉ after := (List.nodup_cons.1 (List.nodup_append.1 hl).2.1).1
  obtain ⟨hp, hv⟩ := hrest before hbefore s hs
  refine ⟨before.foldl F s, hp, hv, ?_⟩
  rw [List.foldl_append, List.foldl_cons]
  exact (hrest after hafter _ (hkeep _ a hp)).2

theorem Rail.interlock_wires (v : RailEnv) (r : Rail) :
    (r.interlock v).mainEnable = false ∧ (r.interlock v).bladeReset = true ∧
      (r.interlock v).powerGood = r.powerGood ∧ (r.interlock v).powerCap = r.powerCap := by
  have hmain : (Rail.releaseMain v { r with bladeReset := true }).mainEnable = false ∧
      (Rail.releaseMain v { r with bladeReset := true }).bladeReset = true ∧
      (Rail.releaseMain v { r with bladeReset := true }).powerGood = r.powerGood ∧
      (Rail.releaseMain v { r with bladeReset := true }).powerCap = r.powerCap := by
    unfold Rail.releaseMain
    split
    · exact ⟨rfl, rfl, rfl, rfl⟩
    · next h => exact ⟨by simpa using h, rfl, rfl, rfl⟩
  unfold Rail.interlock
  dsimp only
  split <;> exact hmain

/-- A RAMP_DOWN keeps a released main enable and an asserted blade reset. -/
theorem Rail.rampDown_keeps {v : RailEnv} {c : DrainCause} {r : Rail} (hm : r.mainEnable = false)
    (hb : r.bladeReset = true) : (r.rampDown v c).mainEnable = false ∧ (r.rampDown v c).bladeReset = true := by
  by_cases h : r.op = .rampDown
  · rw [Rail.rampDown, if_pos h]
    exact ⟨hm, hb⟩
  · obtain ⟨-, -, hreset, hmain, -⟩ := Rail.rampDown_taken (v := v) (c := c) h
    exact ⟨hmain, hreset⟩

/-! ### A drain while the interlock is asserted -/

theorem State.drainGrant_locked {s : State} {i : SlotId} {c : DrainCause} (hi : s.interlock = true) (hc : c ≠ .budget) :
    s.drainGrant i c = (s.updGrant i fun g => { g with releasing := true }).dequeue i .upgrade := by
  rw [State.drainGrant, if_neg hc, State.markReleasing]
  exact State.arbiter_of_interlock hi

/-- With the interlock asserted a drain's start changes the one slot's records alone. -/
theorem State.startDrain_locked {s : State} {i : SlotId} (h : (s.slot i).state.drainable = true)
    (hi : s.interlock = true) {c : DrainCause} (hc : c ≠ .budget) (n : DrainNext) (f : FaultCause) (t : State)
    (ht : t = s.startDrain i c n f) :
    (∀ j, t.slot j = if j = i then { Slot.recordDrain c n f (s.slot i) with state := .draining } else s.slot j) ∧
    (∃ v, ∀ j, t.rail j = if j = i then (s.rail i).rampDown v c else s.rail j) ∧
    (∀ j, t.grantOf j = if j = i then { s.grantOf i with releasing := true } else s.grantOf j) ∧
    t.interlock = true ∧ t.inventory = s.inventory ∧ t.stations = s.stations ∧ t.meters = s.meters ∧
    t.requests = s.requests := by
  have hframe := s.leaveForDrain_frame i c n f
  have hlocked : (s.leaveForDrain i c n f).interlock = true := by rw [hframe]; exact hi
  have hg := State.drainGrant_locked (i := i) hlocked hc
  obtain ⟨hslot, hrail, hgrants, -, -⟩ := State.startDrain_at h c n f _ t hg.symm ht
  have hside := s.startDrain_drainSide i c n f
  have hmeters : t.meters = s.meters := by
    rw [ht, State.startDrain_eq h, State.enter, State.raise_meters, hg, hframe]
    rfl
  rw [← ht] at hside
  have hleave := s.leaveForDrain_slot i c n f
  generalize State.railEnv _ = v at hrail
  refine ⟨fun j => ?_, ⟨v, fun j => (hrail j).trans ?_⟩, fun j => ?_, by rw [hside]; exact hi,
    by rw [hside]; rfl, by rw [hside]; rfl, hmeters, by rw [hside]; rfl⟩
  · rw [hslot]
    change (if j = i then { (s.leaveForDrain i c n f).slot i with state := .draining }
      else (s.leaveForDrain i c n f).slot j) = _
    rw [hleave, hleave, if_pos rfl]
    split <;> rfl
  · rw [hframe]
    rfl
  · rw [State.grantOf, hgrants, hframe]
    exact s.updGrant_grantOf i _ j

/-- What the interlock's course leaves of slot j when it acts on slot i. -/
theorem State.emergency_spec (s : State) (i : SlotId) (hi : s.interlock = true) :
    (∀ j, j ≠ i → (s.emergency i).slot j = s.slot j ∧ (s.emergency i).rail j = s.rail j ∧
      (s.emergency i).grantOf j = s.grantOf j) ∧
    (s.emergency i).interlock = true ∧ (s.emergency i).inventory = s.inventory ∧
    (s.emergency i).stations = s.stations ∧ (s.emergency i).meters = s.meters ∧
    (s.emergency i).requests = s.requests := by
  unfold State.emergency
  split
  · exact ⟨fun j hj => ⟨s.updSlot_slot_ne _ hj, rfl, rfl⟩, hi, rfl, rfl, rfl, rfl⟩
  · by_cases hd : (s.slot i).state.drainable = true
    · obtain ⟨hslot, hrail, hgrant, hrest⟩ :=
        State.startDrain_locked hd hi (c := .emergency) (by decide) .present .none _ rfl
      refine ⟨fun j hj => ⟨by rw [hslot, if_neg hj], ?_, by rw [hgrant, if_neg hj]⟩, hrest⟩
      obtain ⟨v, hv⟩ := hrail
      rw [hv, if_neg hj]
    · rw [State.startDrain, if_neg hd]
      exact ⟨fun _ _ => ⟨rfl, rfl, rfl⟩, hi, rfl, rfl, rfl, rfl⟩

theorem exec_interlockAsserted (s : State) :
    exec .interlockAsserted s = .next (if s.interlock then s else s.interlockOn) := rfl

/-- The records of one slot that the interlock's course reads and writes. -/
def State.slotRecords (s : State) (j : SlotId) : Slot × Rail × Grant := (s.slot j, s.rail j, s.grantOf j)

/-- The chassis with the interlock asserted, the rail records as R39 leaves them. -/
def State.cutRails (s : State) : State :=
  { s with
    interlock := true
    rails := Tab.each (fun _ r => Rail.interlock (State.railEnv { s with interlock := true }) r) s.rails }

theorem State.cutRails_rail (s : State) (j : SlotId) :
    s.cutRails.rail j = Rail.interlock (State.railEnv { s with interlock := true }) (s.rail j) :=
  Tab.get_each _ _ _

/-- Each slot's part of the interlock's course is taken from a state that agrees with the start on the slot's records. -/
theorem State.interlock_slot (s : State) (j : SlotId) :
    ∃ w : State, w.interlock = true ∧ w.slotRecords j = s.cutRails.slotRecords j ∧
      (allSlots.foldl State.emergency s.cutRails).slotRecords j = (w.emergency j).slotRecords j := by
  refine foldl_view_of (P := fun s => s.interlock = true) (π := fun s => s.slotRecords j)
    (fun s i hs => (s.emergency_spec i hs).2.1) (fun s i hs hne => ?_) (List.nodup_finRange 16) (List.mem_finRange j) rfl
  obtain ⟨hslot, hrail, hgrant⟩ := (s.emergency_spec i hs).1 j (Ne.symm hne)
  simp only [State.slotRecords, hslot, hrail, hgrant]

/-- What the interlock's course leaves of the rest of the state. -/
theorem State.interlock_rest (l : List SlotId) : ∀ s : State, s.interlock = true →
    (l.foldl State.emergency s).interlock = true ∧ (l.foldl State.emergency s).inventory = s.inventory ∧
    (l.foldl State.emergency s).stations = s.stations ∧ (l.foldl State.emergency s).meters = s.meters ∧
    (l.foldl State.emergency s).requests = s.requests := by
  induction l with
  | nil => exact fun s hs => ⟨hs, rfl, rfl, rfl, rfl⟩
  | cons i l ih =>
    intro s hs
    obtain ⟨-, hi, hinv, hstations, hmeters, hrequests⟩ := s.emergency_spec i hs
    obtain ⟨hi', hinv', hstations', hmeters', hrequests'⟩ := ih (s.emergency i) hi
    exact ⟨hi', hinv'.trans hinv, hstations'.trans hstations, hmeters'.trans hmeters, hrequests'.trans hrequests⟩

/-- One slot's part of the interlock's course, its main enable released and its blade reset asserted before. -/
theorem State.emergency_self {w : State} {j : SlotId} (hi : w.interlock = true) (t : State) (ht : t = w.emergency j)
    (hm : (w.rail j).mainEnable = false) (hb : (w.rail j).bladeReset = true) :
    ((t.rail j).mainEnable = false ∧ (t.rail j).bladeReset = true ∧ (t.rail j).powerGood = (w.rail j).powerGood ∧
      (t.rail j).powerCap = (w.rail j).powerCap) ∧
    ((w.slot j).state.drainable = true →
      t.slot j =
        { w.slot j with state := .draining, drainCause := .emergency, drainNext := .present, hold := none } ∧
      (t.grantOf j).releasing = true ∧ (t.rail j).op = .rampDown) ∧
    ((w.slot j).state = .draining → t.slot j = Slot.redirectEmergency (w.slot j)) ∧
    ((w.slot j).state.powered = false → t.slot j = w.slot j) := by
  by_cases hdraining : (w.slot j).state = .draining
  · have hrun : t = w.updSlot j Slot.redirectEmergency := ht.trans (if_pos hdraining)
    subst hrun
    refine ⟨⟨hm, hb, rfl, rfl⟩, fun h => ?_, fun _ => w.updSlot_slot_self j _, fun h => ?_⟩
    · rw [hdraining] at h
      cases h
    · rw [hdraining] at h
      cases h
  · have hrun : t = w.startDrain j .emergency .present .none := ht.trans (if_neg hdraining)
    by_cases hd : (w.slot j).state.drainable = true
    · obtain ⟨hslot, hrail, hgrant, -⟩ := State.startDrain_locked hd hi (c := .emergency) (by decide) .present .none t hrun
      obtain ⟨v, hrail⟩ := hrail
      have hv := hrail j
      rw [if_pos rfl] at hv
      obtain ⟨hkm, hkb⟩ := Rail.rampDown_keeps (v := v) (c := .emergency) hm hb
      obtain ⟨hgood, hcap⟩ := Rail.rampDown_wires v .emergency (w.rail j)
      rw [hv]
      refine ⟨⟨hkm, hkb, hgood, hcap⟩, fun _ => ⟨?_, ?_, Rail.rampDown_op _ _ _⟩, fun h => absurd h hdraining, fun h => ?_⟩
      · rw [hslot, if_pos rfl]
        rfl
      · rw [hgrant, if_pos rfl]
      · rw [SlotState.powered_of_drainable hd] at h
        cases h
    · rw [State.startDrain, if_neg hd] at hrun
      subst hrun
      exact ⟨⟨hm, hb, rfl, rfl⟩, fun h => absurd h hd, fun h => absurd h hdraining, fun _ => rfl⟩

/-- Settles O18: each slot's part of the course is its own, since the arbiter grants nothing under the interlock. -/
theorem interlockCutsEverySlot : Obligations.InterlockCutsEverySlot := by
  unfold Obligations.InterlockCutsEverySlot
  intro s hoff
  let f := allSlots.foldl State.emergency s.cutRails
  have hexec : exec .interlockAsserted s = .next (f.raise .interlockAsserted) := by
    rw [exec_interlockAsserted, if_neg (by simp [hoff])]
    rfl
  obtain ⟨hlevel, hinv, hstations, hmeters, hrequests⟩ := State.interlock_rest allSlots s.cutRails rfl
  have hslots : ∀ j,
      ((f.rail j).mainEnable = false ∧ (f.rail j).bladeReset = true ∧ (f.rail j).powerGood = (s.rail j).powerGood ∧
        (f.rail j).powerCap = (s.rail j).powerCap) ∧
      ((s.slot j).state.drainable = true →
        f.slot j =
          { s.slot j with state := .draining, drainCause := .emergency, drainNext := .present, hold := none } ∧
        (f.grantOf j).releasing = true ∧ (f.rail j).op = .rampDown) ∧
      ((s.slot j).state = .draining → f.slot j = Slot.redirectEmergency (s.slot j)) ∧
      ((s.slot j).state.powered = false → f.slot j = s.slot j) := fun j => by
    obtain ⟨w, hw, hstart, hend⟩ := s.interlock_slot j
    simp only [State.slotRecords, Prod.mk.injEq] at hstart hend
    obtain ⟨hwslot, hwrail, -⟩ := hstart
    obtain ⟨hfslot, hfrail, hfgrant⟩ := hend
    obtain ⟨hmain, hreset, hgood, hcap⟩ :=
      Rail.interlock_wires (State.railEnv { s with interlock := true }) (s.rail j)
    rw [State.cutRails_rail] at hwrail
    have hself := State.emergency_self hw _ rfl (by rw [hwrail]; exact hmain) (by rw [hwrail]; exact hreset)
    rw [← hfslot, ← hfrail, ← hfgrant, hwslot, hwrail, hgood, hcap] at hself
    exact hself
  refine ⟨_, hexec, ?_, fun i => ?_, fun i h => ?_, fun i h => ?_, fun i h => ?_, ?_, ?_, ?_, ?_⟩
  · rw [State.raise_interlock]
    exact hlevel
  · rw [State.raise_rail]
    exact (hslots i).1
  · rw [State.raise_slot, State.raise_grantOf, State.raise_rail]
    exact (hslots i).2.1 h
  · rw [State.raise_slot, (hslots i).2.2.1 h, Slot.redirectEmergency]
    split
    · exact ⟨h, rfl, rfl⟩
    · exact ⟨h, rfl, rfl⟩
  · rw [State.raise_slot]
    exact (hslots i).2.2.2 h
  · rw [State.raise_inventory]
    exact hinv
  · rw [State.raise_stations]
    exact hstations
  · rw [State.raise_meters]
    exact hmeters
  · rw [State.raise_requests]
    exact hrequests

end Sys2Proof.Machine

/-! ### The power request (O7) -/

namespace Sys2Proof.Machine

/-! ### What a service leaves of the queue -/

/-- A RAMP_UP request leaves the grants, the queue, the counter and the admission sequences. -/
theorem State.startRamp_kept (s : State) (i j : SlotId) :
    ((s.startRamp i).slot j).admission = (s.slot j).admission ∧ (s.startRamp i).grants = s.grants ∧
      (s.startRamp i).powerQueue = s.powerQueue ∧ (s.startRamp i).admissionCounter = s.admissionCounter := by
  have hreports : ∀ (l : List RailReport) (u : State),
      (((u.takeReports i l).slot j).admission, (u.takeReports i l).grants, (u.takeReports i l).powerQueue,
        (u.takeReports i l).admissionCounter) =
      ((u.slot j).admission, u.grants, u.powerQueue, u.admissionCounter) := fun l u => by
    refine foldl_kept (fun s : State => ((s.slot j).admission, s.grants, s.powerQueue, s.admissionCounter))
      (fun s r _ => ?_) u
    have hstate : ∀ st : SlotState, ((s.setSlotState i st).slot j).admission = (s.slot j).admission := fun st => by
      rw [State.setSlotState, State.updSlot_slot]
      split
      · next e => rw [e]
      · rfl
    unfold State.takeReport
    split
    · split
      · exact congrArg (·, s.grants, s.powerQueue, s.admissionCounter) (hstate _)
      · rfl
    · split
      · exact congrArg (·, s.grants, s.powerQueue, s.admissionCounter) (hstate _)
      · rfl
    all_goals rfl
  have hramp := hreports ((s.rail i).rampUp s.railEnv).2
    ((s.setRail i ((s.rail i).rampUp s.railEnv).1).setSlotState i .ramping)
  simp only [Prod.mk.injEq] at hramp
  obtain ⟨hslot, hgrants, hqueue, hcounter⟩ := hramp
  have hstart : (((s.setRail i ((s.rail i).rampUp s.railEnv).1).setSlotState i .ramping).slot j).admission =
      (s.slot j).admission := by
    rw [State.setSlotState, State.updSlot_slot]
    split
    · next e => rw [e]; rfl
    · rfl
  rw [State.startRamp]
  refine ⟨?_, ?_, ?_, ?_⟩
  · rw [State.raise_slot]
    exact hslot.trans hstart
  · rw [State.raise_grants]
    exact hgrants
  · rw [State.raise_powerQueue]
    exact hqueue
  · rw [State.raise_admissionCounter]
    exact hcounter

theorem State.admitBoot_powerQueue (s : State) (i : SlotId) :
    (s.admitBoot i).powerQueue = s.powerQueue.filter fun e => !(e.slot = i && e.kind = .boot) := by
  rw [State.admitBoot, (State.startRamp_kept _ i i).2.2.1, State.remark_powerQueue, State.dequeue,
    State.numberAdmission_powerQueue]
  rfl

theorem State.serve_powerQueue (s : State) (e : PowerEntry) :
    (s.serve e).powerQueue = s.powerQueue.filter fun f => !(f.slot = e.slot && f.kind = e.kind) := by
  unfold State.serve
  cases hk : e.kind with
  | boot => exact s.admitBoot_powerQueue e.slot
  | upgrade => exact (s.upgrade_queue e.slot).1

theorem State.stopAt_powerQueue (s : State) (e : PowerEntry) : (s.stopAt e).powerQueue = s.powerQueue := by
  unfold State.stopAt
  split
  · rfl
  · exact (s.partialStep_grantOf_self e.slot).2.2

theorem State.serve_hasEntry (s : State) (e : PowerEntry) (i : SlotId) (k : EntryKind) :
    (s.serve e).hasEntry i k = (s.hasEntry i k && !(i = e.slot && k = e.kind)) := by
  rw [← State.dequeue_hasEntry]
  simp only [State.hasEntry, State.serve_powerQueue, State.dequeue]

/-! ### A slot is in POWER_WAIT exactly while its entry waits -/

/-- A slot that leaves the queue by admission is in one of the states of a power-up. -/
theorem State.startRamp_state (s : State) (i : SlotId) : ((s.startRamp i).slot i).state ≠ .powerWait := by
  have hreports : ∀ (l : List RailReport) (u : State), (u.slot i).state ≠ .powerWait →
      ((u.takeReports i l).slot i).state ≠ .powerWait := fun l => by
    induction l with
    | nil => exact fun _ h => h
    | cons r l ih =>
      intro u h
      refine ih (u.takeReport i r) ?_
      have hset : ∀ st : SlotState, ((u.setSlotState i st).slot i).state = st := fun st => by
        rw [State.setSlotState, State.updSlot_slot_self]
      unfold State.takeReport
      split
      · split
        · rw [hset]
          exact SlotState.noConfusion
        · exact h
      · split
        · change ((u.setSlotState i .announcing).slot i).state ≠ .powerWait
          rw [hset]
          exact SlotState.noConfusion
        · exact h
      all_goals exact h
  rw [State.startRamp, State.raise_slot]
  refine hreports _ _ ?_
  rw [State.setSlotState, State.updSlot_slot_self]
  exact SlotState.noConfusion

/-- Slot i waits with its BOOT entry, or is not in POWER_WAIT. -/
def State.waitsOrLeft (i : SlotId) (s : State) : Prop := s.hasEntry i .boot = true ∨ (s.slot i).state ≠ .powerWait

theorem State.waitsOrLeft_of_passes {i : SlotId} {s t : State} (h : State.Passes i s t)
    (hb : s.hasEntry i .boot = true → t.hasEntry i .boot = true) (hs : s.waitsOrLeft i) : t.waitsOrLeft i := by
  obtain ⟨a, ha⟩ := h.slot
  exact hs.imp hb fun hne => by rw [ha]; exact hne

theorem State.arbiter_waitsOrLeft {i : SlotId} {s : State} (hs : s.waitsOrLeft i) : s.arbiter.waitsOrLeft i := by
  refine State.arbiter_induct (P := fun _ => True) (R := fun s t => s.waitsOrLeft i → t.waitsOrLeft i) (fun _ h => h)
    (fun _ _ _ h k hs => k (h hs)) (fun s e rest _ hq => ⟨fun hs => ?_, trivial⟩) (fun s e rest _ hq hs => ?_) trivial hs
  · have hentry := State.hasEntry_of_head hq
    by_cases hhead : i = e.slot ∧ e.kind = .boot
    · refine .inr ?_
      rw [State.serve, hhead.2, hhead.1]
      exact State.startRamp_state _ _
    · have hserve : State.Passes i s (s.serve e) := by
        unfold State.serve
        cases hk : e.kind with
        | boot => exact State.Passes.admitBoot s fun hi => hhead ⟨hi, hk⟩
        | upgrade => exact State.Passes.upgrade s i e.slot (hk ▸ hentry)
      refine State.waitsOrLeft_of_passes hserve (fun hb => ?_) hs
      rw [State.serve_hasEntry, hb]
      simp only [Bool.true_and, Bool.not_eq_true', Bool.and_eq_false_iff, decide_eq_false_iff_not]
      by_cases hi : i = e.slot
      · exact .inr fun hk => hhead ⟨hi, hk.symm⟩
      · exact .inl hi
  · have hentry := State.hasEntry_of_head hq
    have hstop : State.Passes i s (s.stopAt e) := by
      unfold State.stopAt
      cases hk : e.kind with
      | boot => exact .refl i s
      | upgrade => exact State.Passes.partialStep s i e.slot (hk ▸ hentry)
    exact State.waitsOrLeft_of_passes hstop (fun hb => by rw [State.hasEntry, State.stopAt_powerQueue]; exact hb) hs

theorem State.powerRequest_of_waiting {s : State} {i : SlotId} (h : (s.enqueue i .boot).arbiter.hasEntry i .boot = true) :
    s.powerRequest i = (s.enqueue i .boot).arbiter.enter i .powerWait := if_pos h

theorem State.powerRequest_of_admitted {s : State} {i : SlotId}
    (h : (s.enqueue i .boot).arbiter.hasEntry i .boot = false) : s.powerRequest i = (s.enqueue i .boot).arbiter :=
  if_neg (by simp [h])

theorem powerRequest_waits_iff (s : State) (i : SlotId) :
    (s.powerRequest i).hasEntry i .boot = true ↔ ((s.powerRequest i).slot i).state = .powerWait := by
  cases h : (s.enqueue i .boot).arbiter.hasEntry i .boot with
  | true =>
    rw [State.powerRequest_of_waiting h, State.enter, State.hasEntry, State.raise_powerQueue, State.raise_slot,
      State.setSlotState, State.updSlot_slot_self]
    exact ⟨fun _ => rfl, fun _ => h⟩
  | false =>
    have hstart : (s.enqueue i .boot).waitsOrLeft i := .inl (by simp [State.enqueue_hasEntry])
    have hend := State.arbiter_waitsOrLeft hstart
    rw [State.powerRequest_of_admitted h, h]
    refine ⟨fun hb => Bool.noConfusion hb, fun hst => ?_⟩
    rcases hend with hb | hne
    · rw [h] at hb
      cases hb
    · exact absurd hst hne

/-! ### The slot waits -/

theorem State.enqueue_place {s : State} {i : SlotId} {k : EntryKind} (hb : s.hasEntry i k = false)
    (hc : s.queueCounter < 65535) :
    (s.enqueue i k).powerQueue = insertEntry ⟨i, k, (s.policy i).priority, s.queueCounter + 1⟩ s.powerQueue := by
  have hren : s.renumberQueue = s := if_pos hc
  rw [State.enqueue, if_neg (by simp [hb])]
  dsimp only
  rw [hren]

theorem insertEntry_front {n : PowerEntry} {q : List PowerEntry} (h : ∀ e ∈ q.head?, n.before e = true) :
    insertEntry n q = n :: q := by
  cases q with
  | nil => rfl
  | cons e q => exact if_pos (h e rfl)

theorem insertEntry_behind {n e : PowerEntry} {rest : List PowerEntry} (h : n.before e = false) :
    insertEntry n (e :: rest) = e :: insertEntry n rest := if_neg (by simp [h])

theorem mem_insertEntry_self (n : PowerEntry) (q : List PowerEntry) : n ∈ insertEntry n q :=
  (insertEntry_perm n q).mem_iff.2 List.mem_cons_self

/-- The slot waits where the arbiter leaves its entry. -/
theorem State.powerRequest_waiting {s t : State} {i : SlotId} {n : PowerEntry}
    (ht : (s.enqueue i .boot).arbiter = t) (hn : n ∈ t.powerQueue) (hi : n.slot = i) (hk : n.kind = .boot) :
    ((s.powerRequest i).slot i).state = .powerWait ∧ (s.powerRequest i).grants = t.grants ∧
      (s.powerRequest i).rails = t.rails ∧ (s.powerRequest i).powerQueue = t.powerQueue := by
  have hentry : t.hasEntry i .boot = true := (t.hasEntry_iff i .boot).2 ⟨n, hn, hi, hk⟩
  rw [State.powerRequest_of_waiting (by rw [ht]; exact hentry), ht, State.enter]
  refine ⟨?_, State.raise_grants _ _, State.raise_rails _ _, State.raise_powerQueue _ _⟩
  rw [State.raise_slot, State.setSlotState, State.updSlot_slot_self]

theorem State.partialStep_grantOf (s : State) (i j : SlotId) :
    ((s.partialStep i).grantOf j).grant =
      if j = i ∧ (s.grantOf j).grant < s.capLevel j ∧ (s.capLevel j : Int) - ((s.grantOf j).grant : Int) ≤ s.headroom then
        s.capLevel j
      else (s.grantOf j).grant := by
  by_cases e : j = i
  · subst e
    rw [(s.partialStep_grantOf_self j).1]
    simp only [true_and]
  · rw [if_neg fun h => e h.1]
    unfold State.partialStep
    split
    · rw [State.remark_grantOf, if_neg e, State.updGrant_grantOf_ne _ _ e]
    · rfl

theorem powerRequest_waits (s : State) (i : SlotId) (n : PowerEntry)
    (hn : n = ⟨i, .boot, (s.policy i).priority, s.queueCounter + 1⟩) (hb : s.hasEntry i .boot = false)
    (hc : s.queueCounter < 65535) :
    (s.interlock = true →
      ((s.powerRequest i).slot i).state = .powerWait ∧ (s.powerRequest i).grants = s.grants ∧
      (s.powerRequest i).rails = s.rails ∧ n ∈ (s.powerRequest i).powerQueue) ∧
    (s.interlock = false → (∀ e ∈ s.powerQueue.head?, n.before e = true) →
      s.headroom < ((s.policy i).bootAllowance : Int) →
      ((s.powerRequest i).slot i).state = .powerWait ∧ (s.powerRequest i).grants = s.grants ∧
      (s.powerRequest i).powerQueue = n :: s.powerQueue) ∧
    (∀ e rest, s.interlock = false → s.powerQueue = e :: rest → n.before e = false →
      (e.kind = .boot → s.headroom < ((s.policy e.slot).bootAllowance : Int) →
        ((s.powerRequest i).slot i).state = .powerWait ∧ (s.powerRequest i).grants = s.grants ∧
        n ∈ (s.powerRequest i).powerQueue ∧ (s.powerRequest i).powerQueue.head? = some e) ∧
      (e.kind = .upgrade →
        s.headroom < ((s.grantOf e.slot).target : Int) - ((s.grantOf e.slot).grant : Int) →
        ((s.powerRequest i).slot i).state = .powerWait ∧ n ∈ (s.powerRequest i).powerQueue ∧
        (s.powerRequest i).powerQueue.head? = some e ∧
        ∀ j, ((s.powerRequest i).grantOf j).grant =
          if j = e.slot ∧ (s.grantOf j).grant < s.capLevel j ∧
              (s.capLevel j : Int) - ((s.grantOf j).grant : Int) ≤ s.headroom then s.capLevel j
          else (s.grantOf j).grant)) := by
  have hqueue := State.enqueue_place hb hc
  rw [← hn] at hqueue
  have hslot : n.slot = i := by rw [hn]
  have hkind : n.kind = .boot := by rw [hn]
  have hframe := s.enqueue_frame i .boot
  have hinterlock : (s.enqueue i .boot).interlock = s.interlock := by rw [hframe]
  have hheadroom : (s.enqueue i .boot).headroom = s.headroom := by rw [hframe]; rfl
  have hgrants : (s.enqueue i .boot).grants = s.grants := by rw [hframe]
  have hrails : (s.enqueue i .boot).rails = s.rails := by rw [hframe]
  have hpolicies : (s.enqueue i .boot).policies = s.policies := by rw [hframe]
  have hwait := fun t h => State.powerRequest_waiting (s := s) (t := t) (i := i) (n := n) h
  generalize s.enqueue i .boot = v at *
  have hmem : n ∈ v.powerQueue := by rw [hqueue]; exact mem_insertEntry_self _ _
  have hgrant : ∀ j, v.grantOf j = s.grantOf j := fun j => by rw [State.grantOf, hgrants]; rfl
  have hpolicy : ∀ j, v.policy j = s.policy j := fun j => by rw [State.policy, hpolicies]; rfl
  have hlevel : ∀ j, v.capLevel j = s.capLevel j := fun j => by rw [State.capLevel, hgrant, hpolicy]; rfl
  refine ⟨fun h => ?_, fun h hfront hlow => ?_, fun e rest h hq hbehind => ⟨fun hk hlow => ?_, fun hk hlow => ?_⟩⟩
  · obtain ⟨hst, hg, hr, hp⟩ := hwait v (State.arbiter_of_interlock (hinterlock.trans h)) hmem hslot hkind
    exact ⟨hst, hg.trans hgrants, hr.trans hrails, by rw [hp]; exact hmem⟩
  · rw [insertEntry_front hfront] at hqueue
    have hstop : v.arbiter = v := by
      rw [State.arbiter_of_unfit hqueue _ (hinterlock.trans h), State.stopAt, hkind]
      rw [State.fits_boot hkind, hslot, hpolicy, hheadroom, decide_eq_false_iff_not]
      omega
    obtain ⟨hst, hg, -, hp⟩ := hwait v hstop hmem hslot hkind
    exact ⟨hst, hg.trans hgrants, hp.trans hqueue⟩
  · rw [hq, insertEntry_behind hbehind] at hqueue
    have hstop : v.arbiter = v := by
      rw [State.arbiter_of_unfit hqueue _ (hinterlock.trans h), State.stopAt, hk]
      rw [State.fits_boot hk, hpolicy, hheadroom, decide_eq_false_iff_not]
      omega
    obtain ⟨hst, hg, -, hp⟩ := hwait v hstop hmem hslot hkind
    exact ⟨hst, hg.trans hgrants, by rw [hp]; exact hmem, by rw [hp, hqueue]; rfl⟩
  · rw [hq, insertEntry_behind hbehind] at hqueue
    have hstop : v.arbiter = v.partialStep e.slot := by
      rw [State.arbiter_of_unfit hqueue _ (hinterlock.trans h), State.stopAt, hk]
      rw [State.fits_upgrade hk, hgrant, hheadroom, decide_eq_false_iff_not]
      omega
    have hpq : (v.partialStep e.slot).powerQueue = v.powerQueue := (v.partialStep_grantOf_self e.slot).2.2
    obtain ⟨hst, hg, -, hp⟩ := hwait _ hstop (by rw [hpq]; exact hmem) hslot hkind
    refine ⟨hst, by rw [hp, hpq]; exact hmem, by rw [hp, hpq, hqueue]; rfl, fun j => ?_⟩
    rw [State.grantOf, hg]
    refine (v.partialStep_grantOf e.slot j).trans ?_
    rw [hgrant, hlevel, hheadroom]

/-! ### The slot is admitted -/

theorem State.numberAdmission_counted {s : State} (i : SlotId) (hc : s.admissionCounter < 65535) :
    (s.numberAdmission i).admissionCounter = s.admissionCounter + 1 ∧
    (∀ j, (s.numberAdmission i).slot j =
      if j = i then { s.slot i with admission := s.admissionCounter + 1 } else s.slot j) ∧
    ∀ j, (s.numberAdmission i).grantOf j =
      if j = i then { s.grantOf i with admission := s.admissionCounter + 1 } else s.grantOf j := by
  have hren : s.renumberAdmissions = s := if_pos hc
  rw [State.numberAdmission, hren]
  exact ⟨rfl, fun j => State.updSlot_slot _ i _ j, fun j => State.updGrant_grantOf _ i _ j⟩

/-- The state of an admission before its RAMP_UP is requested (R81). -/
def State.admitted (s : State) (i : SlotId) : State :=
  (((s.updGrant i fun g =>
    { g with grant := (s.policy i).bootAllowance, target := (s.policy i).bootAllowance }).numberAdmission i).dequeue i
      .boot).remark i

theorem State.admitted_spec {s : State} {i : SlotId} (hc : s.admissionCounter < 65535) (w : State)
    (hw : w = s.admitted i) :
    w = s.arbiterSideOf w ∧ w.admissionCounter = s.admissionCounter + 1 ∧
    (∀ j, w.slot j = if j = i then { s.slot i with admission := s.admissionCounter + 1 } else s.slot j) ∧
    (∀ j, (w.grantOf j).admission = if j = i then s.admissionCounter + 1 else (s.grantOf j).admission) ∧
    (w.grantOf i).grant = (s.policy i).bootAllowance ∧ (w.grantOf i).target = (s.policy i).bootAllowance ∧
    (∃ b, w.rail i = { s.rail i with powerCap := b }) ∧ w.contexts = s.contexts ∧
    w.powerQueue = s.powerQueue.filter fun e => !(e.slot = i && e.kind = .boot) := by
  let g := s.updGrant i fun g =>
    { g with grant := (s.policy i).bootAllowance, target := (s.policy i).bootAllowance }
  obtain ⟨hcounter, hslot, hgrant⟩ := g.numberAdmission_counted i hc
  have hframe := g.numberAdmission_frame i
  have hw' : w = ((g.numberAdmission i).dequeue i .boot).remark i := hw
  generalize g.numberAdmission i = n at *
  have hgself : g.grantOf i =
      { s.grantOf i with grant := (s.policy i).bootAllowance, target := (s.policy i).bootAllowance } :=
    s.updGrant_grantOf_self i _
  have hremark := (n.dequeue i .boot).remark_frame i
  have hwgrant := (n.dequeue i .boot).remark_grantOf i
  obtain ⟨b, hrail⟩ := (n.dequeue i .boot).remark_rail i i
  have hqueue := (n.dequeue i .boot).remark_powerQueue i
  rw [← hw'] at hremark hwgrant hrail hqueue
  have hdequeue : ∀ j, (n.dequeue i .boot).grantOf j = n.grantOf j := fun _ => rfl
  simp only [hdequeue] at hwgrant
  refine ⟨?_, ?_, fun j => ?_, fun j => ?_, ?_, ?_, ⟨b, ?_⟩, ?_, ?_⟩
  · rw [hremark, hframe]
    rfl
  · rw [hremark]
    exact hcounter
  · rw [hremark]
    exact hslot j
  · rw [hwgrant]
    by_cases e : j = i
    · rw [if_pos e, if_pos e]
      exact (congrArg Grant.admission ((hgrant i).trans (if_pos rfl)))
    · rw [if_neg e, if_neg e, hgrant, if_neg e]
      exact congrArg Grant.admission (s.updGrant_grantOf_ne _ e)
  · rw [hwgrant, if_pos rfl, hgrant, if_pos rfl, hgself]
  · rw [hwgrant, if_pos rfl, hgrant, if_pos rfl, hgself]
  · rw [hrail]
    change { n.rail i with powerCap := b } = _
    rw [hframe]
    rfl
  · rw [hremark]
    change n.contexts = _
    rw [hframe]
    rfl
  · rw [hqueue]
    change n.powerQueue.filter _ = _
    rw [hframe]
    rfl

theorem State.admitBoot_eq (s : State) (i : SlotId) : s.admitBoot i = (s.admitted i).startRamp i := rfl

/-- What is no slot i's in a run of the arbiter: no entry of slot i waits, and no admission renumbers. -/
def State.unrenumbered (i : SlotId) (s : State) : Prop :=
  (∀ k, s.hasEntry i k = false) ∧ s.admissionCounter + s.powerQueue.length ≤ 65535

/-- From s to t slot i is passed by, its admission sequences kept. -/
def State.KeepsAdmission (i : SlotId) (s t : State) : Prop :=
  State.Passes i s t ∧ (t.slot i).admission = (s.slot i).admission ∧
    (t.grantOf i).admission = (s.grantOf i).admission ∧ (s.powerQueue = [] → t.powerQueue = [])

theorem State.remark_keeps (s : State) (i j : SlotId) :
    (s.remark j).slots = s.slots ∧ ((s.remark j).grantOf i).admission = (s.grantOf i).admission ∧
      (s.remark j).admissionCounter = s.admissionCounter := by
  refine ⟨by rw [State.remark_frame], ?_, by rw [State.remark_frame]⟩
  rw [State.remark_grantOf]
  split
  · next e => rw [e]
  · rfl

theorem State.serve_keepsAdmission {s : State} {i : SlotId} {e : PowerEntry} {rest : List PowerEntry}
    (hs : s.unrenumbered i) (hq : s.powerQueue = e :: rest) :
    State.KeepsAdmission i s (s.serve e) ∧ (s.serve e).unrenumbered i := by
  obtain ⟨hnone, hcount⟩ := hs
  have hentry := State.hasEntry_of_head hq
  have hne : i ≠ e.slot := by
    rintro rfl
    rw [hnone] at hentry
    cases hentry
  have hempty : s.powerQueue = [] → (s.serve e).powerQueue = [] := fun h => by rw [h] at hq; cases hq
  have hlength : (s.serve e).powerQueue.length ≤ rest.length := by
    rw [State.serve_powerQueue, hq]
    simpa using List.length_filter_le _ rest
  have hentries : ∀ k, (s.serve e).hasEntry i k = false := fun k => by rw [State.serve_hasEntry, hnone]; rfl
  rw [hq, List.length_cons] at hcount
  have hcounted : State.Passes i s (s.serve e) ∧ ((s.serve e).slot i).admission = (s.slot i).admission ∧
      ((s.serve e).grantOf i).admission = (s.grantOf i).admission ∧
      (s.serve e).admissionCounter ≤ s.admissionCounter + 1 := by
    unfold State.serve
    cases hk : e.kind with
    | boot =>
      obtain ⟨-, hcounter, hslot, hgrant, -⟩ :=
        State.admitted_spec (s := s) (i := e.slot) (show s.admissionCounter < 65535 by omega) _ rfl
      obtain ⟨hkslot, hkgrants, -, hkcounter⟩ := (s.admitted e.slot).startRamp_kept e.slot i
      refine ⟨State.Passes.admitBoot s hne, ?_, ?_, ?_⟩
      · exact hkslot.trans (by rw [hslot, if_neg hne])
      · change (((s.admitted e.slot).startRamp e.slot).grantOf i).admission = _
        rw [State.grantOf, hkgrants]
        exact (hgrant i).trans (if_neg hne)
      · exact le_of_eq (hkcounter.trans hcounter)
    | upgrade =>
      obtain ⟨-, hslots⟩ := s.upgrade_queue e.slot
      refine ⟨State.Passes.upgrade s i e.slot (hk ▸ hentry), ?_, ?_, ?_⟩
      · change ((s.upgrade e.slot).slot i).admission = _
        rw [State.slot, hslots]
        rfl
      · exact congrArg Grant.admission ((s.upgrade_grantOf e.slot i).trans (if_neg hne))
      · have hcounter := (State.remark_keeps ((s.updGrant e.slot fun g =>
          { g with grant := g.target, budgetCapped := false }).dequeue e.slot .upgrade) i e.slot).2.2
        change (s.upgrade e.slot).admissionCounter = s.admissionCounter at hcounter
        exact le_of_eq_of_le hcounter (Nat.le_succ _)
  obtain ⟨hpass, hslot, hgrant, hcounter⟩ := hcounted
  exact ⟨⟨hpass, hslot, hgrant, hempty⟩, hentries, by omega⟩

theorem State.stopAt_keepsAdmission {s : State} {i : SlotId} {e : PowerEntry} {rest : List PowerEntry}
    (hs : s.unrenumbered i) (hq : s.powerQueue = e :: rest) : State.KeepsAdmission i s (s.stopAt e) := by
  have hentry := State.hasEntry_of_head hq
  have hne : i ≠ e.slot := by
    rintro rfl
    rw [hs.1] at hentry
    cases hentry
  have hempty : s.powerQueue = [] → (s.stopAt e).powerQueue = [] := fun h => by rw [h] at hq; cases hq
  suffices hkeep : State.Passes i s (s.stopAt e) ∧ ((s.stopAt e).slot i).admission = (s.slot i).admission ∧
      ((s.stopAt e).grantOf i).admission = (s.grantOf i).admission from ⟨hkeep.1, hkeep.2.1, hkeep.2.2, hempty⟩
  unfold State.stopAt
  cases hk : e.kind with
  | boot => exact ⟨.refl i s, rfl, rfl⟩
  | upgrade =>
    refine ⟨State.Passes.partialStep s i e.slot (hk ▸ hentry), ?_⟩
    change ((s.partialStep e.slot).slot i).admission = _ ∧ ((s.partialStep e.slot).grantOf i).admission = _
    unfold State.partialStep
    split
    · obtain ⟨hslots, hgrant, -⟩ := State.remark_keeps (s.updGrant e.slot fun g => { g with grant := s.capLevel e.slot })
        i e.slot
      refine ⟨by rw [State.slot, hslots]; rfl, hgrant.trans ?_⟩
      rw [State.updGrant_grantOf_ne _ _ hne]
    · exact ⟨rfl, rfl⟩

theorem State.KeepsAdmission.trans {i : SlotId} {s t u : State} (h : State.KeepsAdmission i s t)
    (k : State.KeepsAdmission i t u) : State.KeepsAdmission i s u := by
  obtain ⟨hp, hs, hg, hq⟩ := h
  obtain ⟨kp, ks, kg, kq⟩ := k
  exact ⟨hp.trans kp, ks.trans hs, kg.trans hg, fun h => kq (hq h)⟩

/-- An admitted slot's grant and RAMP_UP, and then the rest of the queue passing it by. -/
theorem State.arbiter_admits {v : State} {i : SlotId} {n : PowerEntry} {rest : List PowerEntry}
    (hi : v.interlock = false) (hq : v.powerQueue = n :: rest) (hslot : n.slot = i) (hkind : n.kind = .boot)
    (hrest : ∀ e ∈ rest, e.slot ≠ i) (hfit : ((v.policy i).bootAllowance : Int) ≤ v.headroom)
    (hc : v.admissionCounter + rest.length < 65535) :
    State.KeepsAdmission i (v.admitBoot i) v.arbiter ∧ v.arbiter.hasEntry i .boot = false ∧
      (v.admitBoot i).powerQueue = rest := by
  have hfits : v.fits n = true := by rw [State.fits_boot hkind, hslot, decide_eq_true_eq]; exact hfit
  have hrun : v.arbiter = arbiterLoop rest.length (v.admitBoot i) := by
    rw [State.arbiter, if_neg (by simp [hi]), hq, List.length_cons]
    conv_lhs => unfold arbiterLoop
    rw [hq]
    dsimp only
    rw [hfits, State.serve, hkind, hslot]
    rfl
  have hqueue : (v.admitBoot i).powerQueue = rest := by
    rw [State.admitBoot_powerQueue, hq, List.filter_cons_of_neg (by simp [hslot, hkind])]
    exact List.filter_eq_self.2 fun e he => by simp [hrest e he]
  obtain ⟨-, hcounter, -⟩ := State.admitted_spec (s := v) (i := i) (by omega) _ rfl
  have hkept := ((v.admitted i).startRamp_kept i i).2.2.2
  have hstart : (v.admitBoot i).unrenumbered i := by
    refine ⟨fun k => ?_, ?_⟩
    · rw [← Bool.not_eq_true, State.hasEntry_iff, hqueue]
      rintro ⟨e, he, hs, -⟩
      exact hrest e he hs
    · rw [hqueue]
      change ((v.admitted i).startRamp i).admissionCounter + _ ≤ _
      omega
  have hloop : State.KeepsAdmission i (v.admitBoot i) v.arbiter := by
    rw [hrun]
    exact arbiterLoop_induct (P := State.unrenumbered i) (R := State.KeepsAdmission i)
      (fun s => ⟨.refl i s, rfl, rfl, id⟩) (fun _ _ _ => State.KeepsAdmission.trans)
      (fun _ _ _ hs hq => State.serve_keepsAdmission hs hq) (fun _ _ _ hs hq => State.stopAt_keepsAdmission hs hq)
      _ _ hstart
  exact ⟨hloop, hloop.1.entries _ (hstart.1 _), hqueue⟩

/-! ### The course of the RAMP_UP -/

theorem State.startRamp_rail (s : State) (i : SlotId) (r : Rail) (l : List RailReport)
    (h : (s.rail i).rampUp s.railEnv = (r, l)) :
    (s.startRamp i).rail i = r ∧
    (l = [] → ((s.startRamp i).slot i).state = .ramping) ∧
    (l = [.powerGoodSeen] → ((s.startRamp i).slot i).state = .resetHold) ∧
    (l = [.powerGoodSeen, .resetReleased] →
      ((s.startRamp i).slot i).state = .announcing ∧ ((s.startRamp i).context i).mode = .window) := by
  have hrails : ∀ u : State, (u.takeReports i l).rail i = u.rail i := fun u =>
    foldl_kept (fun s : State => s.rail i) (fun s r _ => by
      unfold State.takeReport
      (repeat' split) <;> rfl) u
  rw [State.startRamp, h]
  dsimp only
  rw [State.raise_rail, State.raise_slot, State.raise_context]
  have hslot : (((s.setRail i r).setSlotState i .ramping).slot i).state = .ramping := by
    rw [State.setSlotState, State.updSlot_slot_self]
  refine ⟨(hrails _).trans (State.setRail_rail_self s i r), fun hl => ?_, fun hl => ?_, fun hl => ?_⟩
  · rw [hl]
    exact hslot
  · rw [hl]
    simp [State.takeReports, State.takeReport, State.setSlotState]
  · rw [hl]
    simp [State.takeReports, State.takeReport, State.setSlotState, State.openWindow]

theorem Rail.rampUp_spacing {v : RailEnv} {r : Rail} (hop : r.op = .none) (hv : v.interlock = false) (hd : r.dead ≠ none) :
    r.rampUp v = ({ r with op := .rampUp, bladeReset := true, stage := .spacing }, []) := by
  have hdead : ¬ r.dead.isNone = true := by simpa using hd
  rw [Rail.rampUp, if_pos hop]
  dsimp only
  rw [if_neg (by simp [hv]), if_neg hdead]

theorem Rail.rampUp_asserts {v : RailEnv} {r : Rail} (hop : r.op = .none) (hv : v.interlock = false) (hd : r.dead = none) :
    r.rampUp v = Rail.assertMain v { r with op := .rampUp, bladeReset := true } := by
  rw [Rail.rampUp, if_pos hop]
  dsimp only
  rw [if_neg (by simp [hv]), if_pos (by simp [hd])]

theorem powerRequest_admits (s : State) (i : SlotId) (n : PowerEntry)
    (hn : n = ⟨i, .boot, (s.policy i).priority, s.queueCounter + 1⟩) (hb : s.hasEntry i .boot = false)
    (hc : s.queueCounter < 65535) (hi : s.interlock = false) (hfront : ∀ e ∈ s.powerQueue.head?, n.before e = true)
    (hnone : s.entryOf i = none) (hfit : ((s.policy i).bootAllowance : Int) ≤ s.headroom)
    (hadm : s.admissionCounter + s.powerQueue.length < 65535) (hop : (s.rail i).op = .none) (t : State)
    (ht : t = s.powerRequest i) :
    (t.slot i).admission = s.admissionCounter + 1 ∧ (t.grantOf i).grant = (s.policy i).bootAllowance ∧
    (t.grantOf i).target = (s.policy i).bootAllowance ∧ (t.grantOf i).admission = s.admissionCounter + 1 ∧
    t.hasEntry i .boot = false ∧ (s.powerQueue = [] → t.powerQueue = []) ∧
    ((s.rail i).dead ≠ none →
      (t.slot i).state = .ramping ∧ (t.rail i).op = .rampUp ∧ (t.rail i).bladeReset = true ∧
      (t.rail i).mainEnable = (s.rail i).mainEnable ∧ (t.rail i).stage = .spacing) ∧
    ((s.rail i).dead = none → (s.rail i).powerGood = false →
      (t.slot i).state = .ramping ∧ (t.rail i).op = .rampUp ∧ (t.rail i).bladeReset = true ∧
      (t.rail i).mainEnable = true ∧ (t.rail i).stage = .rising ∧
      (t.rail i).powerGoodTimer = s.timer s.chassis.powerGoodTimeout) ∧
    ((s.rail i).dead = none → (s.rail i).powerGood = true → s.chassis.resetHold ≠ 0 →
      (t.slot i).state = .resetHold ∧ (t.rail i).op = .rampUp ∧ (t.rail i).bladeReset = true ∧
      (t.rail i).mainEnable = true ∧ (t.rail i).seen = true ∧ (t.rail i).stage = .resetting ∧
      (t.rail i).powerGoodTimer = none ∧ (t.rail i).resetTimer = s.timer s.chassis.resetHold) ∧
    ((s.rail i).dead = none → (s.rail i).powerGood = true → s.chassis.resetHold = 0 →
      (t.slot i).state = .announcing ∧ (t.context i).mode = .window ∧ (t.rail i).op = .none ∧
      (t.rail i).bladeReset = false ∧ (t.rail i).mainEnable = true ∧ (t.rail i).seen = true) := by
  have hqueue := State.enqueue_place hb hc
  rw [← hn, insertEntry_front hfront] at hqueue
  have hother : ∀ e ∈ s.powerQueue, e.slot ≠ i := by simpa [State.entryOf] using hnone
  have hframe := s.enqueue_frame i .boot
  have hpolicy : (s.enqueue i .boot).policy i = s.policy i := by rw [hframe]; rfl
  have hheadroom : (s.enqueue i .boot).headroom = s.headroom := by rw [hframe]; rfl
  have hcounter : (s.enqueue i .boot).admissionCounter = s.admissionCounter := by rw [hframe]
  have hrail : (s.enqueue i .boot).rail i = s.rail i := by rw [hframe]; rfl
  have henv : (s.enqueue i .boot).railEnv = s.railEnv := by rw [hframe]; rfl
  have hlock : (s.enqueue i .boot).interlock = false := by rw [hframe]; exact hi
  obtain ⟨⟨hpass, hkslot, hkgrant, hkqueue⟩, hgone, hrest⟩ :=
    State.arbiter_admits (v := s.enqueue i .boot) (i := i) hlock hqueue (by rw [hn]) (by rw [hn]) hother
      (by rw [hpolicy, hheadroom]; exact hfit) (by rw [hcounter]; exact hadm)
  rw [State.powerRequest_of_admitted hgone] at ht
  rw [← ht] at hpass hkslot hkgrant hkqueue hgone
  clear ht
  obtain ⟨hside, -, hwslot, hwadm, hwgrant, hwtarget, ⟨b, hwrail⟩, -, -⟩ :=
    State.admitted_spec (s := s.enqueue i .boot) (i := i) (by omega) _ rfl
  have hadmit : (s.enqueue i .boot).admitBoot i = ((s.enqueue i .boot).admitted i).startRamp i := rfl
  have hwenv : ((s.enqueue i .boot).admitted i).railEnv = s.railEnv := by rw [← henv, hside]; rfl
  have hramp := ((s.enqueue i .boot).admitted i).startRamp_rail i _ _ Prod.mk.eta.symm
  obtain ⟨hrslot, hrgrants, -, -⟩ := ((s.enqueue i .boot).admitted i).startRamp_kept i i
  rw [hwrail, hrail, hwenv] at hramp
  rw [← hadmit] at hramp hrslot hrgrants
  rw [hpolicy] at hwgrant hwtarget
  rw [hcounter] at hwslot hwadm
  generalize (s.enqueue i .boot).admitBoot i = m at *
  generalize (s.enqueue i .boot).admitted i = w at *
  have hmgrant : m.grantOf i = w.grantOf i := by rw [State.grantOf, hrgrants]; rfl
  have hnoup : m.hasEntry i .upgrade = false := by
    rw [← Bool.not_eq_true, State.hasEntry_iff, hrest]
    rintro ⟨e, he, hs, -⟩
    exact hother e he hs
  obtain ⟨a, htgrant⟩ := hpass.grant hnoup
  obtain ⟨c, htslot⟩ := hpass.slot
  obtain ⟨d, htrail⟩ := hpass.rail
  obtain ⟨hmrail, hmnone, hmseen, hmreleased⟩ := hramp
  have hst : (t.slot i).state = (m.slot i).state := by rw [htslot]
  rw [hst, htrail, hpass.context]
  have hlow : s.railEnv.interlock = false := hi
  refine ⟨?_, ?_, ?_, ?_, hgone, fun h => hkqueue (hrest.trans h), fun hd => ?_, fun hd hg => ?_, fun hd hg hr => ?_,
    fun hd hg hr => ?_⟩
  · rw [hkslot, hrslot, hwslot, if_pos rfl]
  · rw [htgrant, hmgrant]
    exact hwgrant
  · rw [htgrant, hmgrant]
    exact hwtarget
  · rw [hkgrant, hmgrant, hwadm, if_pos rfl]
  · rw [Rail.rampUp_spacing (r := { s.rail i with powerCap := b }) hop hlow hd] at hmrail hmnone
    rw [hmrail]
    exact ⟨hmnone rfl, rfl, rfl, rfl, rfl⟩
  · rw [Rail.rampUp_asserts (r := { s.rail i with powerCap := b }) hop hlow hd, Rail.assertMain] at hmrail hmnone
    dsimp only at hmrail hmnone
    rw [if_neg (by simp [hg])] at hmrail hmnone
    rw [hmrail]
    exact ⟨hmnone rfl, rfl, rfl, rfl, rfl, rfl⟩
  · rw [Rail.rampUp_asserts (r := { s.rail i with powerCap := b }) hop hlow hd, Rail.assertMain] at hmrail hmseen
    dsimp only at hmrail hmseen
    rw [if_pos hg, Rail.seePowerGood, Rail.startResetHold, if_neg (show ¬ s.railEnv.chassis.resetHold = 0 from hr)]
      at hmrail hmseen
    rw [hmrail]
    exact ⟨hmseen rfl, rfl, rfl, rfl, rfl, rfl, rfl, rfl⟩
  · rw [Rail.rampUp_asserts (r := { s.rail i with powerCap := b }) hop hlow hd, Rail.assertMain] at hmrail hmreleased
    dsimp only at hmrail hmreleased
    rw [if_pos hg, Rail.seePowerGood, Rail.startResetHold, if_pos (show s.railEnv.chassis.resetHold = 0 from hr)]
      at hmrail hmreleased
    rw [hmrail]
    obtain ⟨hann, hwin⟩ := hmreleased rfl
    exact ⟨hann, hwin, rfl, rfl, rfl, rfl⟩

/-- Settles O7: the entry waits where the arbiter stops at it or before it, and is admitted where it heads the queue and
fits. -/
theorem powerRequestWaitsOrAdmits : Obligations.PowerRequestWaitsOrAdmits := by
  unfold Obligations.PowerRequestWaitsOrAdmits
  refine ⟨fun s i _ => powerRequest_waits_iff s i, fun s i n hn hb hc => ?_⟩
  obtain ⟨hlocked, hfront, hbehind⟩ := powerRequest_waits s i n hn hb hc
  exact ⟨hlocked, hfront, hbehind, fun hi hhead hnone hfit hadm hop =>
    powerRequest_admits s i n hn hb hc hi hhead hnone hfit hadm hop _ rfl⟩

end Sys2Proof.Machine

/-! ### The frame path (O39, O40, O41) -/

namespace Sys2Proof.Machine

theorem exec_slotPortFrame (s : State) (i : SlotId) (bytes : List Byte) :
    exec (.slotPortFrame i bytes) s = .next (s.arriveSlot i bytes) := rfl

theorem exec_uplinkPortFrame (s : State) (u : UplinkId) (bytes : List Byte) :
    exec (.uplinkPortFrame u bytes) s = .next (s.arriveUplink u bytes) := rfl

theorem State.arriveSlot_of_none {s : State} {i : SlotId} {bytes : List Byte} (h : receive bytes = none) :
    s.arriveSlot i bytes = s := by rw [State.arriveSlot, h]

theorem State.arriveUplink_of_none {s : State} {u : UplinkId} {bytes : List Byte} (h : receive bytes = none) :
    s.arriveUplink u bytes = s := by rw [State.arriveUplink, h]

theorem State.servesSlot_iff (s : State) (i : SlotId) : s.servesSlot i = true ↔ i ≠ slot15 ∨ s.portRole = .slot := by
  simp [State.servesSlot]

/-- A frame on a slot port that serves its slot. -/
theorem State.arriveSlot_served {s : State} {i : SlotId} {bytes : List Byte} {f : Received} (h : receive bytes = some f)
    (hserve : s.servesSlot i = true) : s.arriveSlot i bytes = s.fromSlot i f := by
  rw [State.arriveSlot, h]
  exact if_pos hserve

/-- A frame on an uplink's port that is the uplink's. -/
theorem State.arriveUplink_served {s : State} {u : UplinkId} {bytes : List Byte} {f : Received}
    (h : receive bytes = some f) (hserve : u ≠ uplink4 ∨ s.portRole = .stack) :
    s.arriveUplink u bytes = s.fromUplink u f := by
  rw [State.arriveUplink, h]
  refine if_neg fun ⟨hu, hr⟩ => ?_
  rcases hserve with hne | hs
  · exact hne hu
  · rw [hr] at hs
    cases hs

/-! ### Delivery downstream (O41) -/

theorem State.fromUplink_dropped {s : State} {u : UplinkId} {f : Received} (hpart : s.forPart f = false)
    (h : actionOf (s.classifyFrame (uplinkPort u) f) = .drop) : s.fromUplink u f = s := by
  rw [State.fromUplink, if_neg (by simp [hpart]), h]

theorem State.fromUplink_delivered {s : State} {u : UplinkId} {f : Received} (hpart : s.forPart f = false)
    (h : actionOf (s.classifyFrame (uplinkPort u) f) ≠ .drop) : s.fromUplink u f = s.deliver u f := by
  rw [State.fromUplink, if_neg (by simp [hpart])]
  cases ha : actionOf (s.classifyFrame (uplinkPort u) f) with
  | drop => exact absurd ha h
  | forward => rfl
  | forwardSnoop => rfl
  | redirect => rfl

theorem State.receivers_unicast {s : State} {u : UplinkId} {f : Received} (hg : groupBit f.dst = false)
    (hid : (s.identityOf f.dst).isSome = false) (i : SlotId) :
    i ∈ s.receivers u f ↔
      s.holder f.dst = some i ∧ (s.slot i).state = .online ∧ u ∈ (s.group (s.map i).group).active ∧
        s.tagAgrees i f = true := by
  rw [State.receivers, if_neg (by simp [hg]), if_neg (by simp [hid])]
  cases hh : s.holder f.dst with
  | none => simp
  | some j =>
    dsimp only
    split
    · next h =>
      simp only [Bool.and_eq_true, decide_eq_true_eq, State.takesUnicast, List.contains_iff_mem] at h
      obtain ⟨⟨hst, hu⟩, ht⟩ := h
      rw [List.mem_singleton]
      constructor
      · rintro rfl
        exact ⟨rfl, hst, hu, ht⟩
      · rintro ⟨he, -⟩
        exact (Option.some.inj he).symm
    · next h =>
      simp only [Bool.and_eq_true, decide_eq_true_eq, State.takesUnicast, List.contains_iff_mem] at h
      refine ⟨fun hm => absurd hm List.not_mem_nil, fun ⟨he, hst, hu, ht⟩ => ?_⟩
      obtain rfl := Option.some.inj he
      exact absurd ⟨⟨hst, hu⟩, ht⟩ h

theorem State.takesGroup_iff (s : State) (i : SlotId) (u : UplinkId) :
    s.takesGroup i u = true ↔
      ((s.group (s.map i).group).mode = .spread → u ∈ (s.group (s.map i).group).active) ∧
      ((s.group (s.map i).group).mode = .failover → (s.group (s.map i).group).active.head? = some u) := by
  unfold State.takesGroup
  cases (s.group (s.map i).group).mode <;> simp

/-- Settles O41: by the class of the address and the action. -/
theorem uplinkFramesDelivered : Obligations.UplinkFramesDelivered := by
  unfold Obligations.UplinkFramesDelivered
  refine ⟨fun s u bytes h => ?_, fun s u bytes f h hserve hpart => ⟨fun hdrop => ?_, fun hpass => ?_, fun i hg hid => ?_,
    fun hg hid => ?_, fun i hg => ?_⟩⟩
  · rw [exec_uplinkPortFrame, State.arriveUplink_of_none h]
  · rw [exec_uplinkPortFrame, State.arriveUplink_served h hserve, State.fromUplink_dropped hpart hdrop]
  · have hdeliver := foldl_transmit s (stripTag f) (s.receivers u f) s rfl
    refine ⟨s.deliver u f, ?_, ?_, ?_⟩
    · rw [exec_uplinkPortFrame, State.arriveUplink_served h hserve, State.fromUplink_delivered hpart hpass]
    · rw [State.deliver, hdeliver]
    · rw [State.deliver, hdeliver]
  · exact State.receivers_unicast hg hid i
  · rw [State.receivers, if_neg (by simp [hg]), if_pos hid]
  · rw [State.receivers, if_pos hg, List.mem_filter, Bool.and_eq_true, Bool.and_eq_true, decide_eq_true_eq,
      State.takesGroup_iff, and_assoc]
    exact and_iff_right (List.mem_finRange i)

/-! ### Service frames for the part (O39) -/

theorem State.identityOf_isSome_iff (s : State) (a : Addr) :
    (s.identityOf a).isSome = true ↔ ∃ k, (s.identity k).enabled = true ∧ (s.identity k).addr = a := by
  rw [Option.isSome_iff_ne_none, Ne, State.identityOf_eq_none_iff]
  push Not
  rfl

theorem Received.announces_iff (f : Received) : f.announces = true ↔ f.kind = some 4#8 ∨ f.kind = some 7#8 := by
  rw [Received.announces, Bool.or_eq_true, decide_eq_true_eq, decide_eq_true_eq]
  rfl

theorem State.forPart_iff (s : State) (f : Received) :
    s.forPart f = true ↔
      f.tag = none ∧ f.etherType = s.chassis.etherType ∧
      ((∃ k, (s.identity k).enabled = true ∧ (s.identity k).addr = f.dst) ∨
        (f.kind = some 4#8 ∨ f.kind = some 7#8) ∧ f.dst = BitVec.allOnes 48) := by
  rw [State.forPart, Bool.and_eq_true, Bool.and_eq_true, Bool.or_eq_true, Bool.and_eq_true, State.identityOf_isSome_iff,
    Received.announces_iff, State.serviceType, decide_eq_true_eq, decide_eq_true_eq, Option.isNone_iff_eq_none, and_assoc]
  rfl

/-- A frame for the part goes to an address that its kind may be sent to. -/
theorem State.addressed_of_forPart {s : State} {f : Received} (h : s.forPart f = true) :
    s.addressedToPart f.dst = true ∧
      (f.kind ≠ some 4#8 → f.kind ≠ some 7#8 → (s.identityOf f.dst).isSome = true) := by
  obtain ⟨-, -, haddr⟩ := (s.forPart_iff f).1 h
  rcases haddr with hid | ⟨hkind, hcast⟩
  · have hsome := (s.identityOf_isSome_iff f.dst).2 hid
    exact ⟨by simp [State.addressedToPart, hsome], fun _ _ => hsome⟩
  · exact ⟨by simp [State.addressedToPart, Config.broadcast, hcast], fun h4 h7 => absurd hkind (by simp [h4, h7])⟩

theorem State.partFromSlot_of_one {s : State} {i : SlotId} {f : Received} (hv : f.version = some 1#8) :
    s.partFromSlot i f =
      if f.kind = some 4#8 then s.takeAnnounce i f.service
      else if f.kind = some 7#8 then s.takeExtend i f.service
      else if f.kind = some 8#8 then
        if (s.slot i).state = .online then s.takeTelemetry i f.service.payload else s
      else if f.kind = some 1#8 then s.admitRequest (slotPort i) f.service
      else s := if_pos hv

/-- What a frame for the part does on its slot port. -/
theorem State.partFromSlot_spec {s : State} {i : SlotId} {f : Received} (hserve : s.servesSlot i = true)
    (hpart : s.forPart f = true) :
    (f.version ≠ some 1#8 → s.partFromSlot i f = s) ∧
    (f.version = some 1#8 →
      (f.kind = some 4#8 → .next (s.partFromSlot i f) = exec (.announce i f.service) s) ∧
      (f.kind = some 7#8 → .next (s.partFromSlot i f) = exec (.waitExtend i f.service) s) ∧
      (f.kind = some 8#8 →
        ((s.slot i).state = .online →
          .next (s.partFromSlot i f) = exec (.telemetry i f.service) s ∧
          s.partFromSlot i f = s.takeTelemetry i f.service.payload) ∧
        ((s.slot i).state ≠ .online → s.partFromSlot i f = s)) ∧
      (f.kind = some 1#8 → .next (s.partFromSlot i f) = exec (.request (slotPort i) f.service) s) ∧
      (f.kind ≠ some 1#8 → f.kind ≠ some 4#8 → f.kind ≠ some 7#8 → f.kind ≠ some 8#8 → s.partFromSlot i f = s)) := by
  obtain ⟨haddr, hid⟩ := State.addressed_of_forPart hpart
  have hannounce : exec (.announce i f.service) s = .next (s.takeAnnounce i f.service) :=
    congrArg Host.Outcome.next (if_pos (by rw [Bool.and_eq_true]; exact ⟨haddr, hserve⟩))
  have hextend : exec (.waitExtend i f.service) s = .next (s.takeExtend i f.service) :=
    congrArg Host.Outcome.next (if_pos (by rw [Bool.and_eq_true]; exact ⟨haddr, hserve⟩))
  refine ⟨fun hv => if_neg hv, fun hv => ⟨fun hk => ?_, fun hk => ?_, fun hk => ⟨fun hst => ?_, fun hst => ?_⟩, fun hk => ?_,
    fun h1 h4 h7 h8 => ?_⟩⟩
  · rw [hannounce, State.partFromSlot_of_one hv, hk]
    rfl
  · rw [hextend, State.partFromSlot_of_one hv, hk]
    rfl
  · have hsome := hid (by rw [hk]; decide) (by rw [hk]; decide)
    have htelemetry : exec (.telemetry i f.service) s = .next (s.takeTelemetry i f.service.payload) :=
      congrArg Host.Outcome.next (if_pos (by
        rw [Bool.and_eq_true, Bool.and_eq_true, decide_eq_true_eq]
        exact ⟨⟨hsome, hserve⟩, hst⟩))
    have htake : s.partFromSlot i f = s.takeTelemetry i f.service.payload := by
      rw [State.partFromSlot_of_one hv, hk]
      exact if_pos hst
    exact ⟨by rw [htelemetry, htake], htake⟩
  · rw [State.partFromSlot_of_one hv, hk]
    exact if_neg hst
  · rw [State.partFromSlot_of_one hv, hk]
    rfl
  · rw [State.partFromSlot_of_one hv, if_neg h4, if_neg h7, if_neg h8, if_neg h1]

/-- Settles O39: by version, kind and port. -/
theorem otherVersionsDropped : Obligations.OtherVersionsDropped := by
  unfold Obligations.OtherVersionsDropped
  intro s i u bytes f h
  refine ⟨s.forPart_iff f, fun hshort => ?_, fun hlong => ?_, fun hserve => ?_, fun hserve => ?_, fun hr => ?_, fun hr => ?_⟩
  · have hno : ¬ f.hasHeader = true := by simpa [Received.hasHeader] using hshort
    exact ⟨if_neg hno, if_neg hno⟩
  · have hheader : f.hasHeader = true := by simpa [Received.hasHeader] using hlong
    exact ⟨if_pos hheader, if_pos hheader, rfl⟩
  · have hs := (s.servesSlot_iff i).2 hserve
    have harrive : exec (.slotPortFrame i bytes) s = .next (s.fromSlot i f) := by
      rw [exec_slotPortFrame, State.arriveSlot_served h hs]
    rw [harrive]
    refine ⟨fun hpart hv => ?_, fun hpart hv => ?_, fun hpart hgate => ?_⟩
    · rw [State.fromSlot, if_pos hpart, (State.partFromSlot_spec hs hpart).1 hv]
    · obtain ⟨h4, h7, h8, h1, hother⟩ := (State.partFromSlot_spec hs hpart).2 hv
      rw [State.fromSlot, if_pos hpart]
      refine ⟨h4, h7, fun hk => ⟨fun hst => ?_, fun hst => ?_⟩, h1, fun n1 n4 n7 n8 => ?_⟩
      · exact ⟨((h8 hk).1 hst).1, congrArg Host.Outcome.next ((h8 hk).1 hst).2⟩
      · exact congrArg Host.Outcome.next ((h8 hk).2 hst)
      · exact congrArg Host.Outcome.next (hother n1 n4 n7 n8)
    · rw [State.fromSlot, if_neg (by simp [hpart]), if_pos hgate]
  · have harrive : exec (.uplinkPortFrame u bytes) s = .next (s.fromUplink u f) := by
      rw [exec_uplinkPortFrame, State.arriveUplink_served h hserve]
    rw [harrive]
    refine ⟨fun hpart hv => ?_, fun hpart hv => ⟨fun hk => ?_, fun hk => ?_⟩, fun hpart hpass => ?_⟩
    · rw [State.fromUplink, if_pos hpart, State.partFromUplink, if_neg]
      rw [Bool.and_eq_true, decide_eq_true_eq]
      exact fun h => hv h.1
    · rw [State.fromUplink, if_pos hpart, State.partFromUplink, if_pos]
      · exact (exec_request _ _ _).symm
      · simp [hv, hk, kindRequest, Config.serviceVersion]
    · rw [State.fromUplink, if_pos hpart, State.partFromUplink, if_neg]
      rw [Bool.and_eq_true, decide_eq_true_eq, decide_eq_true_eq]
      exact fun h => hk h.2
    · rw [State.fromUplink_delivered hpart hpass]
  · rw [exec_slotPortFrame, exec_uplinkPortFrame, State.arriveUplink_served h (.inr hr), State.arriveSlot, h]
    exact congrArg Host.Outcome.next (if_neg (by simp [State.servesSlot, hr]))
  · rw [exec_slotPortFrame, exec_uplinkPortFrame, State.arriveSlot_served h ((s.servesSlot_iff _).2 (.inr hr)),
      State.arriveUplink, h]
    exact congrArg Host.Outcome.next (if_pos ⟨rfl, hr⟩)

/-! ### Ordinary traffic upstream (O40) -/

theorem BitVec.masked_eq_iff {w : Nat} (a b m : BitVec w) : a &&& m = b &&& m ↔ (a ^^^ b) &&& m = 0#w := by
  have hxor : (a &&& m) ^^^ (b &&& m) = (a ^^^ b) &&& m := by
    ext k hk
    simp only [BitVec.getElem_xor, BitVec.getElem_and]
    cases a[k] <;> cases b[k] <;> cases m[k] <;> rfl
  rw [← BitVec.xor_eq_zero_iff, hxor]

theorem State.kindMatches_iff (s : State) (e : ClassEntry) (f : Received) :
    s.kindMatches e f = true ↔
      (∀ k, f.kind = some k → f.etherType = s.chassis.etherType → (k ^^^ e.kindValue) &&& e.kindMask = 0#8) ∧
      (f.kind = none ∨ f.etherType ≠ s.chassis.etherType → e.kindMask = 0#8) := by
  unfold State.kindMatches State.serviceType
  cases f.kind with
  | none => simp
  | some k =>
    by_cases h : f.etherType = s.chassis.etherType
    · simp [h, BitVec.masked_eq_iff]
    · simp [h]

theorem tagMatches_iff (t : TagMatch) (f : Received) :
    tagMatches t f = true ↔ (t = .tagged → f.tag ≠ none) ∧ (t = .untagged → f.tag = none) := by
  cases t <;> simp [tagMatches, Option.isSome_iff_ne_none]

theorem State.matchesEntry_iff (s : State) (p : PortId) (f : Received) (e : ClassEntry) :
    s.matchesEntry p f e = true ↔
      e.valid = true ∧ e.ports.getLsbD p.val = true ∧ (f.dst ^^^ e.dstValue) &&& e.dstMask = 0#48 ∧
      (f.etherType ^^^ e.typeValue) &&& e.typeMask = 0#16 ∧
      (∀ k, f.kind = some k → f.etherType = s.chassis.etherType → (k ^^^ e.kindValue) &&& e.kindMask = 0#8) ∧
      (f.kind = none ∨ f.etherType ≠ s.chassis.etherType → e.kindMask = 0#8) ∧
      (e.tagMatch = .tagged → f.tag ≠ none) ∧ (e.tagMatch = .untagged → f.tag = none) := by
  rw [State.matchesEntry]
  simp only [Bool.and_eq_true, decide_eq_true_eq, State.kindMatches_iff, tagMatches_iff, BitVec.masked_eq_iff, and_assoc]

theorem State.classifyFrame_eq (s : State) (p : PortId) (f : Received) :
    s.classifyFrame p f =
      ((List.finRange 64).find? fun k => s.matchesEntry p f (s.classEntry k)).map s.classEntry :=
  List.find?_map

theorem State.classifyFrame_lowest {s : State} {p : PortId} {f : Received} {k : Fin 64}
    (hk : s.matchesEntry p f (s.classEntry k) = true)
    (hlow : ∀ j, j < k → s.matchesEntry p f (s.classEntry j) = false) :
    s.classifyFrame p f = some (s.classEntry k) := by
  have hfind : ((List.finRange 64).find? fun k => s.matchesEntry p f (s.classEntry k)) = some k := by
    rw [List.find?_eq_some_iff_getElem]
    refine ⟨hk, k.val, by simp, by simp, fun j hj => ?_⟩
    have hlt : (⟨j, by omega⟩ : Fin 64) < k := hj
    simpa using hlow _ hlt
  rw [State.classifyFrame_eq, hfind]
  rfl

theorem State.steer_forward {s : State} {i : SlotId} {f : Received} {e : Option ClassEntry}
    (h : actionOf e = .forward ∨ actionOf e = .forwardSnoop) : s.steer i f e = s.steerGroup i f := by
  cases e with
  | none => rfl
  | some x => rcases h with h | h <;> rw [State.steer, show x.action = _ from h]

/-- The meter and the frames sent after policing. -/
theorem State.policed_spec (u : State) (i : SlotId) (f : Received) (e : Option ClassEntry) (t : State)
    (ht : t = u.policed i f e) :
    t = { u with meters := t.meters, sent := t.sent } ∧ (∀ j, j ≠ i → t.meter j = u.meter j) ∧
    t.meter i = (u.meter i).police f.raw.length ∧
    ((u.meter i).passes f.raw.length = false → t.sent = u.sent) ∧
    ((u.meter i).passes f.raw.length = true →
      (u.steer i f e = none → t.sent = u.sent) ∧
      ∀ k, u.steer i f e = some k →
        t.sent = if u.link (uplinkPort k) then
          u.sent ++ [⟨uplinkPort k, .upstream i, pushTag (u.map i).tag f.raw⟩] else u.sent) := by
  let w := u.updMeter i fun m => m.police f.raw.length
  have hother : ∀ j, j ≠ i → w.meter j = u.meter j := fun j hj => u.updMeter_meter_ne _ hj
  have hself : w.meter i = (u.meter i).police f.raw.length := u.updMeter_meter_self i _
  cases hpass : (u.meter i).passes f.raw.length with
  | false =>
    have hw : t = w := ht.trans (if_neg (by simp [hpass]))
    subst hw
    exact ⟨rfl, hother, hself, fun _ => rfl, fun h => Bool.noConfusion h⟩
  | true =>
    have hw : t = w.sendUp i f e := ht.trans (if_pos hpass)
    have hsteer : w.steer i f e = u.steer i f e := rfl
    cases hs : u.steer i f e with
    | none =>
      have hstay : t = w := by rw [hw, State.sendUp, hsteer, hs]
      subst hstay
      exact ⟨rfl, hother, hself, fun h => Bool.noConfusion h, fun _ => ⟨fun _ => rfl, fun k hk => (nomatch hk)⟩⟩
    | some k =>
      have hsend : t = w.transmit (uplinkPort k) (.upstream i) (pushTag (u.map i).tag f.raw) := by
        rw [hw, State.sendUp, hsteer, hs]
        rfl
      have hlink : w.link (uplinkPort k) = u.link (uplinkPort k) := rfl
      rw [State.transmit, hlink] at hsend
      cases hl : u.link (uplinkPort k) with
      | true =>
        rw [hl, if_pos rfl] at hsend
        subst hsend
        refine ⟨rfl, hother, hself, fun h => Bool.noConfusion h, fun _ => ⟨fun h => (nomatch h), fun n hn => ?_⟩⟩
        obtain rfl := Option.some.inj hn
        rw [hl, if_pos rfl]
        rfl
      | false =>
        rw [hl] at hsend
        have hstay : t = w := hsend
        subst hstay
        refine ⟨rfl, hother, hself, fun h => Bool.noConfusion h, fun _ => ⟨fun h => (nomatch h), fun n hn => ?_⟩⟩
        obtain rfl := Option.some.inj hn
        rw [hl]
        rfl

theorem Meter.passes_iff (m : Meter) (n : Nat) :
    m.passes n = true ↔ m.effective = 0 ∨ m.effective ≠ 15 ∧ n ≤ m.tokens := by
  simp [Meter.passes]

theorem State.upstream_passed {s : State} {i : SlotId} {f : Received}
    (h : actionOf (s.classifyFrame (slotPort i) f) ≠ .drop) :
    s.upstream i f =
      (if actionOf (s.classifyFrame (slotPort i) f) = .forwardSnoop ∧ s.snoopable f = true then
        s.takeTelemetry i f.payload else s).policed i f (s.classifyFrame (slotPort i) f) := by
  rw [State.upstream]
  cases ha : actionOf (s.classifyFrame (slotPort i) f) with
  | drop => exact absurd ha h
  | forward => simp only [reduceCtorEq, false_and, if_false]
  | redirect => simp only [reduceCtorEq, false_and, if_false]
  | forwardSnoop => simp only [true_and]

theorem State.snoopable_iff (s : State) (f : Received) :
    s.snoopable f = true ↔ f.etherType = s.chassis.etherType ∧ f.version = some 1#8 ∧ f.kind = some 8#8 := by
  rw [State.snoopable, Bool.and_eq_true, Bool.and_eq_true, decide_eq_true_eq, decide_eq_true_eq, and_assoc, State.serviceType,
    decide_eq_true_eq]
  rfl

theorem State.gatePasses_iff (s : State) (i : SlotId) (f : Received) :
    s.gatePasses i f = true ↔ (s.slot i).state = .online ∧ f.tag = none ∧ s.holder f.src = some i := by
  rw [State.gatePasses, Bool.and_eq_true, Bool.and_eq_true, decide_eq_true_eq, decide_eq_true_eq,
    Option.isNone_iff_eq_none, and_assoc]

theorem countUp_eq_min (top n : Nat) : countUp top n = min top (n + 1) := by
  unfold countUp
  split <;> omega

/-- The snoop, the police and the send of a frame that passed the gate. -/
theorem upstream_polices_steers {s : State} {i : SlotId} {f : Received} {e : Option ClassEntry}
    (he : e = s.classifyFrame (slotPort i) f) (h : actionOf e ≠ .drop) :
    ∃ u t : State, s.upstream i f = t ∧
      (actionOf e = .forwardSnoop → f.etherType = s.chassis.etherType →
        f.version = some 1#8 → f.kind = some 8#8 → u = s.takeTelemetry i f.payload) ∧
      (actionOf e ≠ .forwardSnoop ∨ f.etherType ≠ s.chassis.etherType ∨
        f.version ≠ some 1#8 ∨ f.kind ≠ some 8#8 → u = s) ∧
      t = { u with meters := t.meters, sent := t.sent } ∧ (∀ j, j ≠ i → t.meter j = u.meter j) ∧
      ((u.meter i).effective = 15 ∨ (u.meter i).effective ≠ 0 ∧ (u.meter i).tokens < f.raw.length →
        t.sent = u.sent ∧
        t.meter i =
          { u.meter i with
            policeDrops :=
              if (u.meter i).policeDrops < 4294967295 then (u.meter i).policeDrops + 1 else 4294967295 }) ∧
      ((u.meter i).effective = 0 → t.meter i = u.meter i) ∧
      ((u.meter i).effective ≠ 0 → (u.meter i).effective ≠ 15 → f.raw.length ≤ (u.meter i).tokens →
        t.meter i = { u.meter i with tokens := (u.meter i).tokens - f.raw.length }) ∧
      ((u.meter i).effective = 0 ∨ (u.meter i).effective ≠ 15 ∧ f.raw.length ≤ (u.meter i).tokens →
        (u.steer i f e = none → t.sent = u.sent) ∧
        ∀ k, u.steer i f e = some k →
          (u.link (uplinkPort k) = false → t.sent = u.sent) ∧
          (u.link (uplinkPort k) = true → (u.map i).tag = 0 →
            t.sent = u.sent ++ [⟨uplinkPort k, .upstream i, f.raw⟩]) ∧
          (u.link (uplinkPort k) = true → (u.map i).tag ≠ 0 →
            t.sent = u.sent ++ [⟨uplinkPort k, .upstream i,
              withFcs (f.raw.take 12 ++ [0x81#8, 0x00#8] ++ be16 (u.map i).tag ++
                (f.raw.take (f.raw.length - 4)).drop 12)⟩])) := by
  subst he
  let u := if actionOf (s.classifyFrame (slotPort i) f) = .forwardSnoop ∧ s.snoopable f = true then
    s.takeTelemetry i f.payload else s
  have hu : u = if actionOf (s.classifyFrame (slotPort i) f) = .forwardSnoop ∧ s.snoopable f = true then
    s.takeTelemetry i f.payload else s := rfl
  obtain ⟨hside, hother, hself, hstop, hgo⟩ :=
    u.policed_spec i f (s.classifyFrame (slotPort i) f) (s.upstream i f) (State.upstream_passed h)
  clear_value u
  refine ⟨u, s.upstream i f, rfl, fun ha hty hv hk => ?_, fun hno => ?_, hside, hother, fun hp => ?_, fun hp => ?_,
    fun h0 h15 hle => ?_, fun hp => ?_⟩
  · rw [hu, if_pos ⟨ha, (s.snoopable_iff f).2 ⟨hty, hv, hk⟩⟩]
  · rw [hu, if_neg]
    rintro ⟨ha, hsnoop⟩
    obtain ⟨hty, hv, hk⟩ := (s.snoopable_iff f).1 hsnoop
    rcases hno with h | h | h | h
    · exact h ha
    · exact h hty
    · exact h hv
    · exact h hk
  · have hno : ¬ (u.meter i).passes f.raw.length = true := by
      rw [Meter.passes_iff]
      rintro (h0 | ⟨h15, hle⟩)
      · rcases hp with h | ⟨h, -⟩
        · rw [h0] at h
          exact absurd h (by decide)
        · exact h h0
      · rcases hp with h | ⟨-, hlt⟩
        · exact h15 h
        · omega
    refine ⟨hstop (by simpa using hno), ?_⟩
    rw [hself, Meter.police, if_neg hno]
    rfl
  · rw [hself, Meter.police, if_pos ((Meter.passes_iff _ _).2 (.inl hp)), if_pos hp]
  · rw [hself, Meter.police, if_pos ((Meter.passes_iff _ _).2 (.inr ⟨h15, hle⟩)), if_neg h0]
  · obtain ⟨hnone, hsome⟩ := hgo ((Meter.passes_iff _ _).2 hp)
    refine ⟨hnone, fun k hk => ⟨fun hl => ?_, fun hl ht => ?_, fun hl ht => ?_⟩⟩
    · rw [hsome k hk, hl]
      rfl
    · rw [hsome k hk, hl, pushTag, if_pos ht]
      rfl
    · rw [hsome k hk, hl, pushTag, if_neg ht]
      rfl

/-- Settles O40: by the gate, the classification and the meter. -/
theorem slotFramesGatedPolicedSteered : Obligations.SlotFramesGatedPolicedSteered := by
  unfold Obligations.SlotFramesGatedPolicedSteered
  refine ⟨fun s i bytes => ⟨fun h => ?_, fun f h hserve hpart => ?_⟩, fun s p f => ⟨s.matchesEntry_iff p f, ?_, fun k hk hlow =>
    State.classifyFrame_lowest hk hlow⟩, fun s i f e g hg => ⟨fun ha => ⟨fun hm => ?_, fun hm hnil => ?_, fun hm _ => ?_⟩,
    fun x hx hr => ?_⟩⟩
  · rw [exec_slotPortFrame, State.arriveSlot_of_none h]
  · have harrive : exec (.slotPortFrame i bytes) s = .next (s.fromSlot i f) := by
      rw [exec_slotPortFrame, State.arriveSlot_served h hserve]
    rw [harrive, State.fromSlot, if_neg (by simp [hpart])]
    refine ⟨fun hno => ?_, fun hst ht hh => ?_⟩
    · have hgate : ¬ s.gatePasses i f = true := by
        rw [State.gatePasses_iff]
        rintro ⟨hst, ht, hh⟩
        rcases hno with h | h | h
        · exact h hst
        · exact h ht
        · exact h hh
      rw [if_neg hgate]
      refine ⟨_, rfl, rfl, fun j => ?_⟩
      rw [State.updGateDrop_gateDrop, countUp_eq_min]
      rfl
    · rw [if_pos ((s.gatePasses_iff i f).2 ⟨hst, ht, hh⟩)]
      refine ⟨fun hdrop => ?_, fun hpass => ?_⟩
      · rw [State.upstream, hdrop]
      · obtain ⟨u, t, hrun, hrest⟩ := upstream_polices_steers rfl hpass
        exact ⟨u, t, congrArg Host.Outcome.next hrun, hrest⟩
  · rw [State.classifyFrame_eq, Option.map_eq_none_iff, List.find?_eq_none]
    simp
  · rw [State.steer_forward ha, State.steerGroup, ← hg, hm]
    rfl
  · rw [State.steer_forward ha, State.steerGroup, ← hg, hm, hnil]
    rfl
  · rw [State.steer_forward ha, State.steerGroup, ← hg, hm]
    rfl
  · rw [hx, State.steer, hr]

end Sys2Proof.Machine

/-! ### Fragments, deadlines and the whole-record checks (O33, O31, and the refusals of O32) -/

namespace Sys2Proof.Machine

/-! ### Slot i's context and the frames sent -/

/-- The state s with slot i's context c and the frames l sent. -/
def State.setContext (s : State) (i : SlotId) (c : Context) (l : List Sent) : State :=
  { s.updContext i fun _ => c with sent := l }

namespace State

variable (s : State) (i : SlotId) (c : Context) (l : List Sent)

theorem setContext_context (j : SlotId) : (s.setContext i c l).context j = if j = i then c else s.context j :=
  s.updContext_context i _ j

@[simp] theorem setContext_context_self : (s.setContext i c l).context i = c := by
  rw [setContext_context, if_pos rfl]

theorem setContext_frame : s.setContext i c l =
    { s with contexts := (s.setContext i c l).contexts, sent := (s.setContext i c l).sent } := rfl

theorem updContext_eq_setContext (f : Context → Context) :
    s.updContext i f = s.setContext i (f (s.context i)) s.sent := by
  have htab : Tab.upd s.contexts i f = Tab.upd s.contexts i fun _ => f (s.context i) := Tab.upd_congr rfl
  simp only [State.setContext, State.updContext, htab]

theorem setContext_updContext (f : Context → Context) :
    (s.setContext i c l).updContext i f = s.setContext i (f c) l := by
  have htab : Tab.upd (Tab.upd s.contexts i fun _ => c) i f = Tab.upd s.contexts i fun _ => f c := by
    rw [Tab.upd_upd]
  simp only [State.setContext, State.updContext, htab]

/-- The frames sent once a reply in a context has been handed to slot i's port. -/
def replied (p : List Byte) : List Sent :=
  if s.link (slotPort i) then
    l ++ [⟨slotPort i, .announceReply, s.serviceFrame c.replyDst kindAnnounceReply c.replySeq p⟩]
  else l

theorem setContext_sendReply (p : List Byte) :
    (s.setContext i c l).sendReply i p = s.setContext i c (s.replied i c l p) := by
  rw [State.sendReply, State.transmit_frame, setContext_context_self]
  rfl

theorem setContext_closeContext : (s.setContext i c l).closeContext i = s.setContext i contextClosed l := by
  rw [State.closeContext, setContext_updContext]

end State

/-- The context of a slot that has taken a frame (R47). -/
def Context.noted (c : Context) (f : ServiceFrame) : Context := { c with replyAddr := some f.src, replySeq := f.sequence }

theorem State.noteSender_eq (s : State) (i : SlotId) (f : ServiceFrame) :
    s.noteSender i f = s.setContext i ((s.context i).noted f) s.sent := s.updContext_eq_setContext i _

/-- What the failure of a window or a refresh does. -/
theorem State.setContext_failContext (s : State) (i : SlotId) (c : Context) (l : List Sent) (reason : RefuseReason)
    (cause : FaultCause) (u : State)
    (hu : u = s.setContext i contextClosed (s.replied i c l (refusePayload reason))) :
    (c.mode = .closed → (s.setContext i c l).failContext i reason cause = s.setContext i c l) ∧
    (c.mode = .window → (s.slot i).state = .announcing →
      (s.setContext i c l).failContext i reason cause = u.startDrain i .fault .fault cause) ∧
    (c.mode = .refresh → (s.setContext i c l).failContext i reason cause = u.raise (.refreshFailed i reason)) := by
  have hclose : ((s.setContext i c l).sendReply i (refusePayload reason)).closeContext i = u := by
    rw [State.setContext_sendReply, State.setContext_closeContext, hu]
  refine ⟨fun h => ?_, fun h hst => ?_, fun h => ?_⟩
  · rw [State.failContext, State.setContext_context_self, h]
  · rw [State.failContext, State.setContext_context_self, h, hclose]
    refine if_pos ?_
    rw [hu]
    exact hst
  · rw [State.failContext, State.setContext_context_self, h, hclose]

theorem State.failContext_closed {s : State} {i : SlotId} (h : (s.context i).mode = .closed) (reason : RefuseReason)
    (cause : FaultCause) : s.failContext i reason cause = s := by rw [State.failContext, h]

theorem State.setContext_self (s : State) (i : SlotId) : s.setContext i (s.context i) s.sent = s := by
  have htab : Tab.upd s.contexts i (fun _ => s.context i) = s.contexts := Tab.ext_get fun j => by
    rw [Tab.get_upd]
    split
    · next e => subst e; rfl
    · rfl
  simp only [State.setContext, State.updContext, htab]

/-- A REFUSE to the frame that a context has taken. -/
theorem State.refused_of_noted (s : State) (i : SlotId) (f : ServiceFrame) (c : Context) (reason : RefuseReason)
    (haddr : c.replyAddr = some f.src) (hseq : c.replySeq = f.sequence) :
    s.refused (s.setContext i contextClosed (s.replied i c s.sent (refusePayload reason))) i f reason := by
  refine ⟨rfl, fun j => s.setContext_context i _ _ j, ?_⟩
  rw [← hseq]
  have hdst : c.replyDst = f.src := by rw [Context.replyDst, haddr]; rfl
  change s.replied i c s.sent (refusePayload reason) = _
  rw [State.replied, hdst]
  rfl

/-! ### Deadlines (O33) -/

theorem exec_waitExtend {s : State} {i : SlotId} {f : ServiceFrame} (ha : s.addressedToPart f.dst = true)
    (hs : s.servesSlot i = true) : exec (.waitExtend i f) s = .next (s.takeExtend i f) :=
  congrArg Host.Outcome.next (if_pos (by rw [Bool.and_eq_true]; exact ⟨ha, hs⟩))

theorem exec_announceDeadlineExpiry (s : State) (i : SlotId) :
    exec (.announceDeadlineExpiry i) s =
      .next (if (s.context i).overdue s.clock then s.failContext i .timeout .announceTimeout else s) := rfl

/-- Settles O33: by the context's mode, the extensions made and the due times. -/
theorem announceDeadlinesExtendAndExpire : Obligations.AnnounceDeadlinesExtendAndExpire := by
  unfold Obligations.AnnounceDeadlinesExtendAndExpire
  refine ⟨fun s i f ha hs => ⟨fun h => ?_, fun h => ?_⟩, fun s i => ⟨fun h => ?_, fun hp hw => ?_, fun h hdue => ?_⟩⟩
  · rw [exec_waitExtend ha hs, State.takeExtend, if_pos h]
  · have htake : s.takeExtend i f =
        if 2 ≤ f.payload.length ∧ (s.context i).extensions < 4 then
          s.setContext i (((s.context i).noted f).extend (clamp 1 10000 (nat16At f.payload 0))) s.sent
        else s.setContext i ((s.context i).noted f) s.sent := by
      rw [State.takeExtend, if_neg h, State.noteSender_eq]
      dsimp only
      rw [State.setContext_updContext]
      simp only [Bool.and_eq_true, decide_eq_true_eq]
      rfl
    rw [exec_waitExtend ha hs, htake]
    by_cases hext : 2 ≤ f.payload.length ∧ (s.context i).extensions < 4
    · rw [if_pos hext]
      refine ⟨_, rfl, rfl, fun j hj => ?_, fun _ _ => ?_, fun hno => absurd hno (by omega)⟩
      · rw [State.setContext_context, if_neg hj]
      · rw [State.setContext_context_self, clamp_eq]
        rfl
    · rw [if_neg hext]
      refine ⟨_, rfl, rfl, fun j hj => ?_, fun h1 h2 => absurd ⟨h1, h2⟩ hext, fun _ => ?_⟩
      · rw [State.setContext_context, if_neg hj]
      · rw [State.setContext_context_self]
        rfl
  · rw [exec_announceDeadlineExpiry, State.failContext_closed h, ite_self]
  · rw [exec_announceDeadlineExpiry, if_neg]
    rw [Context.overdue_iff]
    rintro (⟨d, hd, hle⟩ | ⟨w, hw', hle⟩)
    · exact absurd (hp d hd) (Nat.not_lt.2 hle)
    · exact absurd (hw w hw') (Nat.not_lt.2 hle)
  · have hexec : exec (.announceDeadlineExpiry i) s =
        .next ((s.setContext i (s.context i) s.sent).failContext i .timeout .announceTimeout) := by
      rw [exec_announceDeadlineExpiry, if_pos ((Context.overdue_iff _ _).2 hdue), State.setContext_self]
    obtain ⟨-, hwindow, hrefresh⟩ := s.setContext_failContext i (s.context i) s.sent .timeout .announceTimeout _ rfl
    refine ⟨s.setContext i contextClosed (s.replied i (s.context i) s.sent (refusePayload .timeout)), rfl, fun j hj => ?_, ?_,
      ?_, ?_, rfl, fun hm hst => ?_, fun hm => ?_⟩
    · rw [State.setContext_context, if_neg hj]
    · rw [State.setContext_context_self]
      rfl
    · rw [State.setContext_context_self]
      rfl
    · rw [State.setContext_context_self]
      rfl
    · rw [hexec, hwindow hm hst]
    · rw [hexec, hrefresh hm]

/-! ### Rejects -/

/-- A context with one more reject (R51). -/
def Context.rejected (c : Context) (gap : Deadline) : Context :=
  { c with rejects := c.rejects + 1, pending := if c.pendingFirst then c.pending else some gap }

theorem State.setContext_rejectFragment {s : State} {i : SlotId} {c : Context} {l : List Sent} (h : c.rejects < 3) :
    (s.setContext i c l).rejectFragment i =
      s.setContext i (c.rejected s.gapDeadline) (s.replied i c l (resendPayload c.expected)) := by
  have hgap : (s.setContext i c l).gapDeadline = s.gapDeadline := rfl
  have hreplied : s.replied i { c with rejects := c.rejects + 1 } l (resendPayload c.expected) =
      s.replied i c l (resendPayload c.expected) := rfl
  have hpending : (if Context.pendingFirst { c with rejects := c.rejects + 1 } then { c with rejects := c.rejects + 1 }
      else { c with rejects := c.rejects + 1, pending := some s.gapDeadline }) = c.rejected s.gapDeadline := by
    change (if c.pendingFirst = true then _ else _) = _
    unfold Context.rejected
    split <;> rfl
  rw [State.rejectFragment, State.setContext_context_self, if_pos (show c.rejects < Config.rejectLimit from h),
    State.setContext_updContext, State.setContext_sendReply, State.setContext_updContext, hgap, hreplied, hpending]

theorem State.setContext_rejectFragment_last {s : State} {i : SlotId} {c : Context} {l : List Sent} (h : 3 ≤ c.rejects) :
    (s.setContext i c l).rejectFragment i = (s.setContext i c l).failContext i .rejectLimit .announceRejected := by
  rw [State.rejectFragment, State.setContext_context_self]
  exact if_neg (Nat.not_lt.2 h)

/-! ### The course of one fragment -/

theorem exec_announce {s : State} {i : SlotId} {f : ServiceFrame} (ha : s.addressedToPart f.dst = true)
    (hs : s.servesSlot i = true) : exec (.announce i f) s = .next (s.takeAnnounce i f) :=
  congrArg Host.Outcome.next (if_pos (by rw [Bool.and_eq_true]; exact ⟨ha, hs⟩))

theorem State.takeAnnounce_open {s : State} {i : SlotId} {f : ServiceFrame} (h : (s.context i).mode ≠ .closed) :
    s.takeAnnounce i f = (s.setContext i ((s.context i).noted f) s.sent).takeFragment i f.payload := by
  rw [State.takeAnnounce, if_neg h, State.noteSender_eq]

theorem Context.declare_of_consistent {c : Context} {length count : Nat} (h : c.consistent length count = true) :
    c.declare length count = { c with declaredLength := some length, declaredCount := some count } := by
  have hpart : ∀ (o : Option Nat) (n : Nat), (o = none ∨ o = some n) → o.getD n = n := fun o n ho => by
    rcases ho with rfl | rfl <;> rfl
  rw [Context.consistent, Bool.and_eq_true, Bool.or_eq_true, Bool.or_eq_true] at h
  simp only [decide_eq_true_eq] at h
  rw [Context.declare, hpart _ _ h.1, hpart _ _ h.2]

section

variable {s : State} {i : SlotId} {f : ServiceFrame}

/-- A fragment that is refused, and not declared, is a reject. -/
theorem State.takeFragment_refused (h : s.fragmentRefused i f.payload) :
    (s.setContext i ((s.context i).noted f) s.sent).takeFragment i f.payload =
      (s.setContext i ((s.context i).noted f) s.sent).rejectFragment i := by
  have hc : (s.setContext i ((s.context i).noted f) s.sent).context i = (s.context i).noted f :=
    State.setContext_context_self ..
  have hexpected : ((s.context i).noted f).expected = (s.context i).expected := rfl
  rw [State.takeFragment, hc, hexpected]
  rcases h with h | h | ⟨hidx, hinc⟩
  · rw [if_neg (by simp [h])]
  · split
    · rw [if_neg (by omega), if_neg (by omega)]
    · rfl
  · split
    · rw [State.expectedFragment, hc]
      exact if_neg (show ¬ (s.context i).consistent _ _ = true by simp [hinc])
    · rfl

/-- A fragment without room is a reject of the context that has declared it. -/
theorem State.takeFragment_tooLong (h : s.fragmentTooLong i f.payload) :
    (s.setContext i ((s.context i).noted f) s.sent).takeFragment i f.payload =
      (s.setContext i { (s.context i).noted f with
        declaredLength := some (nat8At f.payload 0), declaredCount := some (nat8At f.payload 1) } s.sent).rejectFragment
          i := by
  obtain ⟨hwell, hidx, hcons, hroom⟩ := h
  have hc : (s.setContext i ((s.context i).noted f) s.sent).context i = (s.context i).noted f :=
    State.setContext_context_self ..
  rw [State.takeFragment, if_pos hwell, hc, if_pos (show nat8At f.payload 2 = ((s.context i).noted f).expected from hidx),
    State.expectedFragment, hc]
  dsimp only
  rw [if_pos (show ((s.context i).noted f).consistent _ _ = true from hcons), State.setContext_updContext,
    Context.declare_of_consistent (show ((s.context i).noted f).consistent _ _ = true from hcons), if_neg]
  change ¬ (s.context i).hasRoom (nat8At f.payload 0) (f.payload.drop 3).length = true
  rw [List.length_drop, hroom]
  decide

/-- The context that has taken the expected fragment. -/
def Context.appended (c : Context) (f : ServiceFrame) (gap : Deadline) : Context :=
  { c with
    replyAddr := some f.src, replySeq := f.sequence, declaredLength := some (nat8At f.payload 0),
    declaredCount := some (nat8At f.payload 1), assembly := c.assembly ++ f.payload.drop 3, expected := c.expected + 1,
    pending := some gap }

/-- The expected fragment, consistent and with room, is appended; the last one leads to the whole-record checks. -/
theorem State.takeFragment_appended (hwell : fragmentWellFormed f.payload = true)
    (hidx : nat8At f.payload 2 = (s.context i).expected)
    (hcons : (s.context i).consistent (nat8At f.payload 0) (nat8At f.payload 1) = true)
    (hroom : (s.context i).hasRoom (nat8At f.payload 0) (f.payload.length - 3) = true) :
    (s.setContext i ((s.context i).noted f) s.sent).takeFragment i f.payload =
      if nat8At f.payload 2 + 1 = nat8At f.payload 1 then
        (s.setContext i ((s.context i).appended f s.gapDeadline) s.sent).checkRecord i
      else s.setContext i ((s.context i).appended f s.gapDeadline) s.sent := by
  have hc : (s.setContext i ((s.context i).noted f) s.sent).context i = (s.context i).noted f :=
    State.setContext_context_self ..
  have hroom' : ((s.context i).noted f).hasRoom (nat8At f.payload 0) (f.payload.drop 3).length = true := by
    rw [List.length_drop]
    exact hroom
  rw [State.takeFragment, if_pos hwell, hc, if_pos (show nat8At f.payload 2 = ((s.context i).noted f).expected from hidx),
    State.expectedFragment, hc]
  dsimp only
  rw [if_pos (show ((s.context i).noted f).consistent _ _ = true from hcons), State.setContext_updContext,
    Context.declare_of_consistent (show ((s.context i).noted f).consistent _ _ = true from hcons), if_pos hroom',
    State.appendFragment, State.setContext_updContext]
  rfl

theorem State.takeFragment_below (hwell : fragmentWellFormed f.payload = true)
    (hlow : nat8At f.payload 2 < (s.context i).expected) :
    (s.setContext i ((s.context i).noted f) s.sent).takeFragment i f.payload =
      s.setContext i ((s.context i).noted f) s.sent := by
  have hc : (s.setContext i ((s.context i).noted f) s.sent).context i = (s.context i).noted f :=
    State.setContext_context_self ..
  have hexpected : ((s.context i).noted f).expected = (s.context i).expected := rfl
  rw [State.takeFragment, if_pos hwell, hc, hexpected, if_neg (by omega), if_pos hlow]

/-- A refused fragment is neither the expected one nor below it. -/
theorem State.not_fragmentRefused (hwell : fragmentWellFormed f.payload = true)
    (h : nat8At f.payload 2 < (s.context i).expected ∨ nat8At f.payload 2 = (s.context i).expected ∧
      (s.context i).consistent (nat8At f.payload 0) (nat8At f.payload 1) = true) :
    ¬ s.fragmentRefused i f.payload := by
  rintro (hno | hno | ⟨hidx, hinc⟩)
  · rw [hwell] at hno
    cases hno
  · omega
  · rcases h with h | ⟨-, h⟩
    · omega
    · rw [hinc] at h
      cases h

end

/-- The reject of a fragment, in the terms of the statements. -/
theorem State.reject_spec (s : State) (i : SlotId) (f : ServiceFrame) (c : Context) (u : State)
    (hu : u = s.setContext i ((c.noted f).rejected s.gapDeadline)
      (s.replied i (c.noted f) s.sent (resendPayload c.expected))) :
    u = { s with contexts := u.contexts, sent := u.sent } ∧ (∀ j, j ≠ i → u.context j = s.context j) ∧
    u.sent =
      (if s.link (slotPort i) then
        s.sent ++ [⟨slotPort i, .announceReply,
          s.serviceFrame f.src kindAnnounceReply f.sequence [1#8, byte1 c.expected]⟩]
      else s.sent) ∧
    u.context i =
      { c with
        replyAddr := some f.src, replySeq := f.sequence, rejects := c.rejects + 1,
        pending := if c.pendingFirst then c.pending else some ⟨.gap, s.clock + s.chassis.gapTimeout⟩ } := by
  subst hu
  refine ⟨rfl, fun j hj => ?_, rfl, ?_⟩
  · rw [State.setContext_context, if_neg hj]
  · rw [State.setContext_context_self]
    rfl

/-- The fourth reject, or another refusal of the frame that a context has taken, in the terms of the statements. -/
theorem State.fail_spec {s : State} {i : SlotId} {f : ServiceFrame} {c : Context} {reason : RefuseReason}
    {cause : FaultCause} {t : State} (haddr : c.replyAddr = some f.src) (hseq : c.replySeq = f.sequence)
    (hmode : c.mode = (s.context i).mode) (ht : t = (s.setContext i c s.sent).failContext i reason cause) :
    ∃ u : State, s.refused u i f reason ∧
      ((s.context i).mode = .window → (s.slot i).state = .announcing → t = u.startDrain i .fault .fault cause) ∧
      ((s.context i).mode = .refresh → t = u.raise (.refreshFailed i reason)) := by
  obtain ⟨-, hwindow, hrefresh⟩ := s.setContext_failContext i c s.sent reason cause _ rfl
  refine ⟨_, s.refused_of_noted i f c reason haddr hseq, fun hm hst => ?_, fun hm => ?_⟩
  · rw [ht, hwindow (hmode.trans hm) hst]
  · rw [ht, hrefresh (hmode.trans hm)]

/-- Settles O31: by the fragment's index, the tests of R48 and R49 and the rejects made. -/
theorem announceTakesFragments : Obligations.AnnounceTakesFragments := by
  unfold Obligations.AnnounceTakesFragments
  intro s i f ha hs
  refine ⟨fun h => ?_, fun h => ⟨?_, fun hno hthree => ?_⟩⟩
  · rw [exec_announce ha hs, State.takeAnnounce, if_pos h]
  · rw [exec_announce ha hs, State.takeAnnounce_open h]
    by_cases happend : fragmentWellFormed f.payload = true ∧ nat8At f.payload 2 = (s.context i).expected ∧
        (s.context i).consistent (nat8At f.payload 0) (nat8At f.payload 1) = true ∧
        (s.context i).hasRoom (nat8At f.payload 0) (f.payload.length - 3) = true ∧
        nat8At f.payload 2 + 1 ≠ nat8At f.payload 1
    · obtain ⟨hwell, hidx, hcons, hroom, hlast⟩ := happend
      refine ⟨s.setContext i ((s.context i).appended f s.gapDeadline) s.sent, rfl, fun j hj => ?_, fun _ _ _ _ _ => ⟨?_, rfl,
        ?_⟩, fun _ hlow => absurd hidx (by omega), fun hno _ => ?_⟩
      · rw [State.setContext_context, if_neg hj]
      · rw [State.takeFragment_appended hwell hidx hcons hroom, if_neg hlast]
      · rw [State.setContext_context_self]
        rfl
      · rcases hno with hno | ⟨-, -, -, hno⟩
        · exact absurd hno (State.not_fragmentRefused hwell (.inr ⟨hidx, hcons⟩))
        · rw [hroom] at hno
          cases hno
    · by_cases hlow : fragmentWellFormed f.payload = true ∧ nat8At f.payload 2 < (s.context i).expected
      · obtain ⟨hwell, hlow⟩ := hlow
        refine ⟨s.setContext i ((s.context i).noted f) s.sent, rfl, fun j hj => ?_, fun _ hidx => absurd hidx (by omega),
          fun _ _ => ⟨?_, rfl, ?_⟩, fun hno _ => ?_⟩
        · rw [State.setContext_context, if_neg hj]
        · rw [State.takeFragment_below hwell hlow]
        · rw [State.setContext_context_self]
          rfl
        · rcases hno with hno | ⟨-, hidx, -⟩
          · exact absurd hno (State.not_fragmentRefused hwell (.inl hlow))
          · omega
      · by_cases hno : (s.fragmentRefused i f.payload ∨ s.fragmentTooLong i f.payload) ∧ (s.context i).rejects < 3
        · obtain ⟨hno, hfew⟩ := hno
          rcases hno with hno | hno
          · obtain ⟨hside, hother, hsent, hself⟩ := s.reject_spec i f (s.context i) _ rfl
            refine ⟨_, hside, hother, fun h1 h2 h3 h4 h5 => absurd ⟨h1, h2, h3, h4, h5⟩ happend,
              fun h1 h2 => absurd ⟨h1, h2⟩ hlow, fun _ _ => ⟨?_, hsent, s.context i, fun _ => rfl, fun hlong => ?_, hself⟩⟩
            · rw [State.takeFragment_refused hno, State.setContext_rejectFragment (c := (s.context i).noted f) hfew]
              rfl
            · exact absurd hno (State.not_fragmentRefused hlong.1 (.inr ⟨hlong.2.1, hlong.2.2.1⟩))
          · let c : Context := { s.context i with
              declaredLength := some (nat8At f.payload 0), declaredCount := some (nat8At f.payload 1) }
            obtain ⟨hside, hother, hsent, hself⟩ := s.reject_spec i f c _ rfl
            refine ⟨_, hside, hother, fun h1 h2 h3 h4 h5 => absurd ⟨h1, h2, h3, h4, h5⟩ happend,
              fun h1 h2 => absurd ⟨h1, h2⟩ hlow, fun _ _ => ⟨?_, hsent, c, fun href => ?_, fun _ => rfl, hself⟩⟩
            · rw [State.takeFragment_tooLong hno]
              exact congrArg Host.Outcome.next (State.setContext_rejectFragment (c := c.noted f) hfew)
            · exact absurd href (State.not_fragmentRefused hno.1 (.inr ⟨hno.2.1, hno.2.2.1⟩))
        · exact ⟨s, rfl, fun _ _ => rfl, fun h1 h2 h3 h4 h5 => absurd ⟨h1, h2, h3, h4, h5⟩ happend,
            fun h1 h2 => absurd ⟨h1, h2⟩ hlow, fun h1 h2 => absurd ⟨h1, h2⟩ hno⟩
  · rw [exec_announce ha hs, State.takeAnnounce_open h]
    simp only [Host.Outcome.next.injEq]
    rcases hno with hno | hno
    · rw [State.takeFragment_refused hno, State.setContext_rejectFragment_last (c := (s.context i).noted f) hthree]
      exact State.fail_spec (c := (s.context i).noted f) rfl rfl rfl rfl
    · rw [State.takeFragment_tooLong hno, State.setContext_rejectFragment_last (c := { (s.context i).noted f with
        declaredLength := some (nat8At f.payload 0), declaredCount := some (nat8At f.payload 1) }) hthree]
      exact State.fail_spec (c := { (s.context i).noted f with
        declaredLength := some (nat8At f.payload 0), declaredCount := some (nat8At f.payload 1) }) rfl rfl rfl rfl

end Sys2Proof.Machine

/-! ### Readings, staleness and the grace timer (O34) -/

namespace Sys2Proof.Machine

/-! ### The readings of a payload -/

/-- What one reading's bytes do. -/
def State.takePair (s : State) (i : SlotId) (a b : Byte) : State :=
  if h : a.toNat < 4 then s.takeReading i ⟨a.toNat, h⟩ b.toInt else s

theorem takeReadings_succ (i : SlotId) (payload : List Byte) (n off : Nat) (s : State) :
    takeReadings i payload (n + 1) off s =
      takeReadings i payload n (off + 2) (s.takePair i (byteAt payload off) (byteAt payload (off + 1))) := rfl

/-- The readings after the first are those of the payload without it. -/
theorem takeReadings_shift (i : SlotId) (c a b d : Byte) (rest : List Byte) (n : Nat) : ∀ (off : Nat) (s : State),
    takeReadings i (c :: a :: b :: rest) n (off + 3) s = takeReadings i (d :: rest) n (off + 1) s := by
  induction n with
  | zero => exact fun _ _ => rfl
  | succ n ih =>
    intro off s
    rw [takeReadings_succ, takeReadings_succ]
    exact ih (off + 2) _

theorem byte1_toNat {n : Nat} (h : n < 256) : (byte1 n).toNat = n := by
  rw [byte1, BitVec.toNat_ofNat, Nat.mod_eq_of_lt h]

theorem State.takeTelemetry_readings {s : State} {i : SlotId} {n : Nat} {l : List Byte} (h1 : 1 ≤ n) (h4 : n ≤ 4)
    (hl : l.length = 2 * n) : s.takeTelemetry i (byte1 n :: l) = takeReadings i (byte1 n :: l) n 1 s := by
  have hn : nat8At (byte1 n :: l) 0 = n := byte1_toNat (by omega)
  have hwell : telemetryWellFormed (byte1 n :: l) = true := by
    rw [telemetryWellFormed, hn, List.length_cons, hl]
    simp only [Bool.and_eq_true, decide_eq_true_eq]
    omega
  rw [State.takeTelemetry, if_pos hwell, hn]

theorem State.takeTelemetry_one (s : State) (i : SlotId) (a b : Byte) :
    s.takeTelemetry i [1#8, a, b] = s.takePair i a b :=
  State.takeTelemetry_readings (n := 1) (l := [a, b]) (by omega) (by omega) rfl

theorem State.takeTelemetry_cons (s : State) (i : SlotId) (n : Nat) (a b : Byte) (rest : List Byte) (h1 : 1 ≤ n)
    (h3 : n ≤ 3) (hl : rest.length = 2 * n) :
    s.takeTelemetry i (byte1 (n + 1) :: a :: b :: rest) =
      (s.takeTelemetry i [1#8, a, b]).takeTelemetry i (byte1 n :: rest) := by
  rw [State.takeTelemetry_one, State.takeTelemetry_readings h1 (by omega) hl,
    State.takeTelemetry_readings (n := n + 1) (l := a :: b :: rest) (by omega) (by omega)
      (by simp only [List.length_cons]; omega), takeReadings_succ]
  exact takeReadings_shift i (byte1 (n + 1)) a b (byte1 n) rest n 0 _

theorem State.takePair_id (s : State) (i : SlotId) (id : SensorId) (b : Byte) :
    s.takePair i (byte1 id.val) b = s.takeReading i id b.toInt := by
  have hid : (byte1 id.val).toNat = id.val := byte1_toNat (by omega)
  rw [State.takePair, dif_pos (by rw [hid]; exact id.isLt)]
  exact congrArg (fun n => s.takeReading i n b.toInt) (Fin.ext hid)

theorem State.takePair_unknown {s : State} {i : SlotId} {a b : Byte}
    (h : ∀ id : SensorId, byte1 id.val = a → (s.thermalOf i).find id = none) : s.takePair i a b = s := by
  unfold State.takePair
  split
  · next ha =>
    have hfind := h ⟨a.toNat, ha⟩ (BitVec.eq_of_toNat_eq (byte1_toNat (by omega)))
    rw [State.takeReading, hfind]
  · rfl

/-! ### One reading -/

theorem temperatureInRange_iff (t : Int) : temperatureInRange t = true ↔ -40 ≤ t ∧ t ≤ 125 := by
  rw [temperatureInRange, Bool.and_eq_true, decide_eq_true_eq, decide_eq_true_eq]

theorem Sensor.store_fresh (limit : Nat) (t : Int) (x : Sensor) : (x.store t).stale limit = false := by
  simp [Sensor.store, Sensor.stale]

theorem Sensor.store_critical (limit : Nat) (t : Int) (x : Sensor) :
    (x.store t).critical limit = true ↔ x.limits.crit ≤ t := by
  rw [Sensor.critical, Sensor.store_fresh]
  exact decide_eq_true_iff

theorem Sensor.store_hot {limit : Nat} {t : Int} {x : Sensor} (h : x.limits.crit ≤ t) :
    (x.store t).cool limit = false := by
  rw [Sensor.cool, Sensor.store_fresh]
  exact decide_eq_false (show ¬ t < x.limits.crit - 3 by omega)

theorem State.setThermalCap_thermal (s : State) (i : SlotId) : (s.setThermalCap i).thermal = s.thermal := by
  obtain ⟨hset, hnew⟩ := thermal_cap_set s i
  by_cases h : (s.grantOf i).thermalCap = true ∨ (s.grantOf i).releasing = true
  · rw [hset h]
  · simp only [not_or, Bool.not_eq_true] at h
    obtain ⟨w, u, hw, -, hu, -, hrun⟩ := hnew h.1 h.2
    rw [hrun, State.arbiter_thermal, State.remark_thermal, hu]
    change (w.raise (.thermalCapOn i)).thermal = _
    rw [State.raise_thermal, hw]

theorem State.setThermalCap_cap {s : State} {i : SlotId} (hr : (s.grantOf i).releasing = false) :
    ((s.setThermalCap i).grantOf i).thermalCap = true := by
  obtain ⟨hset, hnew⟩ := thermal_cap_set s i
  cases h : (s.grantOf i).thermalCap with
  | true => rw [hset (.inl h), h]
  | false =>
    obtain ⟨w, u, -, -, -, hgrant, hrun⟩ := hnew h hr
    rw [hrun, State.arbiter_thermalCap, State.remark_thermalCap, hgrant, if_pos rfl]

theorem State.takeReading_in {s : State} {i : SlotId} {id : SensorId} {t : Int} {x : Sensor}
    (hx : (s.thermalOf i).find id = some x) (ht : temperatureInRange t = true) :
    s.takeReading i id t =
      ((s.updThermal i fun r => r.modify id (Sensor.store t)).setTest i [x.store t]).clearTest i := by
  rw [State.takeReading, hx]
  exact if_pos ht

theorem State.takeReading_out {s : State} {i : SlotId} {id : SensorId} {t : Int} {x : Sensor}
    (hx : (s.thermalOf i).find id = some x) (ht : temperatureInRange t = false) :
    s.takeReading i id t = (s.updThermal i fun r => r.modify id Sensor.spoil).clearTest i := by
  rw [State.takeReading, hx]
  exact if_neg (by simp [ht])

/-- With the critical flag clear no clear test clears. -/
theorem State.clears_of_flag {s : State} {i : SlotId} (h : (s.thermalOf i).critical = false) : s.clears i = false := by
  rw [State.clears, h, Bool.false_and]

/-- A sensor that is not cool keeps the critical flag. -/
theorem State.clears_of_hot {s : State} {i : SlotId} {x : Sensor} (hx : x ∈ (s.thermalOf i).sensors)
    (hhot : x.cool s.chassis.staleLimit = false) : s.clears i = false := by
  rw [State.clears, Bool.and_eq_false_iff, List.all_eq_false]
  exact .inr ⟨x, hx, by simp [hhot]⟩

theorem ThermalRecord.find_mem {r : ThermalRecord} {id : SensorId} {x : Sensor} (h : r.find id = some x) :
    x ∈ r.sensors ∧ x.limits.id = id := by
  refine ⟨List.mem_of_find?_eq_some h, ?_⟩
  have hp := List.find?_some h
  simpa using hp

theorem ThermalRecord.mem_modify {r : ThermalRecord} {id : SensorId} {x : Sensor} (f : Sensor → Sensor)
    (h : r.find id = some x) : f x ∈ (r.modify id f).sensors := by
  obtain ⟨hmem, hid⟩ := ThermalRecord.find_mem h
  exact List.mem_map.2 ⟨x, hmem, if_pos hid⟩

theorem exec_telemetry (s : State) (i : SlotId) (f : ServiceFrame) :
    exec (.telemetry i f) s =
      .next (if (s.identityOf f.dst).isSome && s.servesSlot i && (s.slot i).state = .online
        then s.takeTelemetry i f.payload else s) := rfl

theorem exec_telemetry_taken {s : State} {i : SlotId} {f : ServiceFrame} (hid : (s.identityOf f.dst).isSome = true)
    (hs : s.servesSlot i = true) (hst : (s.slot i).state = .online) :
    exec (.telemetry i f) s = .next (s.takeTelemetry i f.payload) := by
  rw [exec_telemetry, if_pos]
  rw [Bool.and_eq_true, Bool.and_eq_true, decide_eq_true_eq]
  exact ⟨⟨hid, hs⟩, hst⟩

/-- One reading with the critical flag clear. -/
theorem reading_with_flag_clear {s : State} {i : SlotId} {id : SensorId} {t : Int} {x : Sensor}
    (hx : (s.thermalOf i).find id = some x) (hcrit : (s.thermalOf i).critical = false) (w : State)
    (hw : w = s.takeReading i id t) :
    (-40 ≤ t → t ≤ 125 → t < x.limits.crit →
      w = { s with thermal := w.thermal } ∧ (∀ j, j ≠ i → w.thermalOf j = s.thermalOf j) ∧
      (w.thermalOf i).sensors =
        (s.thermalOf i).sensors.map (fun y =>
          if y.limits.id = id then { y with last := some ⟨t, 0⟩, validity := .valid } else y) ∧
      (w.thermalOf i).critical = false ∧ (w.thermalOf i).grace = (s.thermalOf i).grace) ∧
    (-40 ≤ t → t ≤ 125 → x.limits.crit ≤ t → (s.grantOf i).releasing = false →
      (w.thermalOf i).critical = true ∧ (w.thermalOf i).grace = s.timer s.chassis.criticalGrace ∧
      (w.grantOf i).thermalCap = true) ∧
    (t < -40 ∨ 125 < t →
      w = { s with thermal := w.thermal } ∧ (∀ j, j ≠ i → w.thermalOf j = s.thermalOf j) ∧
      (w.thermalOf i).sensors =
        (s.thermalOf i).sensors.map (fun y => if y.limits.id = id then { y with validity := .invalid } else y) ∧
      (w.thermalOf i).critical = false) := by
  refine ⟨fun hlo hhi hlt => ?_, fun hlo hhi hle hrel => ?_, fun hout => ?_⟩
  · let m := s.updThermal i fun r => r.modify id (Sensor.store t)
    have hmself : m.thermalOf i = (s.thermalOf i).modify id (Sensor.store t) := s.updThermal_thermalOf_self i _
    have hmcrit : (m.thermalOf i).critical = false := by rw [hmself]; exact hcrit
    have hset : m.setTest i [x.store t] = m := by
      refine State.setTest_of_not (.inr ?_)
      rw [List.any_cons, List.any_nil, Bool.or_false, ← Bool.not_eq_true, Sensor.store_critical]
      omega
    have hrun : w = m := by
      rw [hw, State.takeReading_in hx ((temperatureInRange_iff t).2 ⟨hlo, hhi⟩)]
      change (m.setTest i [x.store t]).clearTest i = m
      rw [hset, State.clearTest_of_not (State.clears_of_flag hmcrit)]
    subst hrun
    exact ⟨rfl, fun j hj => s.updThermal_thermalOf_ne _ hj, by rw [hmself]; rfl, hmcrit, by rw [hmself]; rfl⟩
  · let m := s.updThermal i fun r => r.modify id (Sensor.store t)
    have hmself : m.thermalOf i = (s.thermalOf i).modify id (Sensor.store t) := s.updThermal_thermalOf_self i _
    have hset := State.setTest_of_critical (s := m) (i := i) (xs := [x.store t]) (by rw [hmself]; exact hcrit)
      (by rw [List.any_cons, (Sensor.store_critical _ _ _).2 hle]; rfl)
    have hrun : w = (m.setTest i [x.store t]).clearTest i := by
      rw [hw, State.takeReading_in hx ((temperatureInRange_iff t).2 ⟨hlo, hhi⟩)]
    have hcap : (((m.updThermal i fun r => { r with critical := true }).setThermalCap i).grantOf i).thermalCap = true :=
      State.setThermalCap_cap (s := m.updThermal i fun r => { r with critical := true }) hrel
    have hthermal : ((m.updThermal i fun r => { r with critical := true }).setThermalCap i).thermal =
        (m.updThermal i fun r => { r with critical := true }).thermal := State.setThermalCap_thermal _ i
    rw [hset] at hrun
    generalize (m.updThermal i fun r => { r with critical := true }).setThermalCap i = z at *
    have hzself : z.thermalOf i = { m.thermalOf i with critical := true } := by
      rw [State.thermalOf, hthermal]
      exact m.updThermal_thermalOf_self i _
    have hself : (z.updThermal i fun r => { r with grace := m.timer m.chassis.criticalGrace }).thermalOf i =
        { m.thermalOf i with critical := true, grace := s.timer s.chassis.criticalGrace } := by
      rw [State.updThermal_thermalOf_self, hzself]
      rfl
    have hhot : (z.updThermal i fun r => { r with grace := m.timer m.chassis.criticalGrace }).clears i = false := by
      refine State.clears_of_hot (x := x.store t) ?_ (Sensor.store_hot hle)
      rw [hself, hmself]
      exact ThermalRecord.mem_modify _ hx
    rw [State.clearTest_of_not hhot] at hrun
    rw [hrun, hself]
    exact ⟨rfl, rfl, hcap⟩
  · let m := s.updThermal i fun r => r.modify id Sensor.spoil
    have hmself : m.thermalOf i = (s.thermalOf i).modify id Sensor.spoil := s.updThermal_thermalOf_self i _
    have hmcrit : (m.thermalOf i).critical = false := by rw [hmself]; exact hcrit
    have hrange : temperatureInRange t = false := by
      rw [← Bool.not_eq_true, temperatureInRange_iff]
      omega
    have hrun : w = m := by
      rw [hw, State.takeReading_out hx hrange]
      exact State.clearTest_of_not (State.clears_of_flag hmcrit)
    subst hrun
    exact ⟨rfl, fun j hj => s.updThermal_thermalOf_ne _ hj, by rw [hmself]; rfl, hmcrit⟩

/-- What one reading leaves of a record: stored in range, spoiled out of it. -/
def Sensor.read (t : Int) (x : Sensor) : Sensor :=
  if -40 ≤ t ∧ t ≤ 125 then { x with last := some ⟨t, 0⟩, validity := .valid } else { x with validity := .invalid }

/-- One reading with the critical flag set: the sensors, and then the clear test alone. -/
theorem reading_with_flag_set {s : State} {i : SlotId} {id : SensorId} {t : Int}
    (hx : ((s.thermalOf i).find id).isSome = true) (hcrit : (s.thermalOf i).critical = true) :
    s.takeReading i id t = (s.updThermal i fun r => r.modify id (Sensor.read t)).clearTest i := by
  obtain ⟨x, hx⟩ := Option.isSome_iff_exists.1 hx
  cases hrange : temperatureInRange t with
  | true =>
    have hread : Sensor.read t = Sensor.store t := funext fun x => if_pos ((temperatureInRange_iff t).1 hrange)
    rw [State.takeReading_in hx hrange, State.setTest_of_not, hread]
    rw [State.updThermal_thermalOf_self]
    exact .inl hcrit
  | false =>
    have hread : Sensor.read t = Sensor.spoil := funext fun x => if_neg fun h => by
      rw [(temperatureInRange_iff t).2 h] at hrange
      cases hrange
    rw [State.takeReading_out hx hrange, hread]

theorem reading_clears_or_stands (s : State) (i : SlotId) (id : SensorId) (b : Byte) (xs : List Sensor)
    (hx : ((s.thermalOf i).find id).isSome = true) (hcrit : (s.thermalOf i).critical = true)
    (hxs : xs = (s.thermalOf i).sensors.map (fun y =>
      if y.limits.id = id then
        if -40 ≤ b.toInt ∧ b.toInt ≤ 125 then { y with last := some ⟨b.toInt, 0⟩, validity := .valid }
        else { y with validity := .invalid }
      else y)) :
    ((∃ y ∈ xs, y.cool s.chassis.staleLimit = false) →
      ∃ t : State, s.takeTelemetry i [1#8, byte1 id.val, b] = t ∧ t = { s with thermal := t.thermal } ∧
        ∀ j, t.thermalOf j = if j = i then { s.thermalOf i with sensors := xs } else s.thermalOf j) ∧
    ((∀ y ∈ xs, y.cool s.chassis.staleLimit = true) →
      ∃ u : State, s.takeTelemetry i [1#8, byte1 id.val, b] = u.clearThermalCap i ∧ u = { s with thermal := u.thermal } ∧
        (∀ j, u.thermalOf j =
          if j = i then { sensors := xs, critical := false, grace := none } else s.thermalOf j) ∧
        ((u.clearThermalCap i).grantOf i).thermalCap = false) := by
  let m := s.updThermal i fun r => r.modify id (Sensor.read b.toInt)
  have hrun : s.takeTelemetry i [1#8, byte1 id.val, b] = m.clearTest i := by
    rw [State.takeTelemetry_one, State.takePair_id, reading_with_flag_set hx hcrit]
  have hm : ∀ j, m.thermalOf j = if j = i then { s.thermalOf i with sensors := xs } else s.thermalOf j := fun j => by
    rw [State.updThermal_thermalOf, hxs]
    rfl
  have hself := hm i
  rw [if_pos rfl] at hself
  rw [hrun]
  refine ⟨fun ⟨y, hy, hhot⟩ => ?_, fun hall => ?_⟩
  · refine ⟨m, State.clearTest_of_not (State.clears_of_hot (x := y) ?_ hhot), rfl, hm⟩
    rw [hself]
    exact hy
  · have hclear : m.clearTest i =
        (m.updThermal i fun r => { r with critical := false, grace := none }).clearThermalCap i := by
      refine if_pos ?_
      rw [hself, Bool.and_eq_true, List.all_eq_true]
      exact ⟨hcrit, hall⟩
    refine ⟨m.updThermal i fun r => { r with critical := false, grace := none }, hclear, rfl, fun j => ?_, ?_⟩
    · rw [State.updThermal_thermalOf, hself, hm]
      split <;> rfl
    · rw [State.clearThermalCap_thermalCap, if_pos rfl]

/-! ### Staleness -/

theorem exec_sensorStale (s : State) (i : SlotId) (id : SensorId) :
    exec (.sensorStale i id) s =
      .next (if (s.thermalOf i).validSensor id then
          (s.updThermal i fun r => r.modify id (Sensor.agePast s.chassis.staleLimit)).clearTest i
        else s) := rfl

theorem Sensor.agePast_stale {limit : Nat} (h : limit < 65535) (x : Sensor) : (x.agePast limit).stale limit = true := by
  unfold Sensor.stale Sensor.agePast
  cases x.last with
  | none => rfl
  | some r =>
    have hage : limit < max r.age (min Config.ageTop (limit + 1)) :=
      lt_max_of_lt_right (lt_min h (Nat.lt_succ_self limit))
    simp only [Option.map_some, Bool.or_eq_true, decide_eq_true_eq]
    exact .inr hage

/-- The age of a sensor passes the stale limit. -/
theorem sensor_turns_stale (s : State) (i : SlotId) (id : SensorId) (hlimit : s.chassis.staleLimit < 65535) (t : State)
    (ht : t = (s.updThermal i fun r => r.modify id (Sensor.agePast s.chassis.staleLimit)).clearTest i) :
    (∀ x ∈ (t.thermalOf i).sensors, x.limits.id = id → x.stale s.chassis.staleLimit = true) ∧
    ((s.thermalOf i).critical = false → t = { s with thermal := t.thermal }) ∧
    ((∃ x ∈ (s.thermalOf i).sensors, x.limits.id ≠ id ∧ x.cool s.chassis.staleLimit = false) →
      t = { s with thermal := t.thermal } ∧ (∀ j, j ≠ i → t.thermalOf j = s.thermalOf j) ∧
      (t.thermalOf i).critical = (s.thermalOf i).critical ∧ (t.thermalOf i).grace = (s.thermalOf i).grace ∧
      (t.grantOf i).thermalCap = (s.grantOf i).thermalCap ∧
      (t.thermalOf i).sensors.filter (fun x => x.limits.id ≠ id) =
        (s.thermalOf i).sensors.filter (fun x => x.limits.id ≠ id)) ∧
    ((s.thermalOf i).critical = true →
      (∀ x ∈ (s.thermalOf i).sensors, x.limits.id = id ∨ x.cool s.chassis.staleLimit = true) →
      (t.thermalOf i).critical = false ∧ (t.thermalOf i).grace = none ∧ (t.grantOf i).thermalCap = false) := by
  let m := s.updThermal i fun r => r.modify id (Sensor.agePast s.chassis.staleLimit)
  have hmself : m.thermalOf i = (s.thermalOf i).modify id (Sensor.agePast s.chassis.staleLimit) :=
    s.updThermal_thermalOf_self i _
  have hsensors : (t.thermalOf i).sensors = ((s.thermalOf i).modify id (Sensor.agePast s.chassis.staleLimit)).sensors := by
    rw [ht, State.clearTest_thermalOf]
    have hm := congrArg ThermalRecord.sensors hmself
    split
    · exact hm
    · exact hm
  have hmem : ∀ y ∈ ((s.thermalOf i).modify id (Sensor.agePast s.chassis.staleLimit)).sensors,
      ∃ x ∈ (s.thermalOf i).sensors, y = if x.limits.id = id then x.agePast s.chassis.staleLimit else x := fun y hy => by
    obtain ⟨x, hx, he⟩ := List.mem_map.1 hy
    exact ⟨x, hx, he.symm⟩
  refine ⟨fun y hy hid => ?_, fun hflag => ?_, fun ⟨x, hx, hne, hhot⟩ => ?_, fun hflag hall => ?_⟩
  · rw [hsensors] at hy
    obtain ⟨x, -, rfl⟩ := hmem y hy
    by_cases e : x.limits.id = id
    · rw [if_pos e]
      exact Sensor.agePast_stale hlimit x
    · rw [if_neg e] at hid
      exact absurd hid e
  · have hstay : t = m := ht.trans (State.clearTest_of_not (State.clears_of_flag (by rw [hmself]; exact hflag)))
    subst hstay
    rfl
  · have hstay : t = m := by
      refine ht.trans (State.clearTest_of_not (State.clears_of_hot (x := x) ?_ hhot))
      rw [hmself]
      exact List.mem_map.2 ⟨x, hx, if_neg hne⟩
    subst hstay
    refine ⟨rfl, fun j hj => s.updThermal_thermalOf_ne _ hj, by rw [hmself]; rfl, by rw [hmself]; rfl, rfl, ?_⟩
    rw [hmself]
    change ((s.thermalOf i).sensors.map _).filter _ = _
    generalize (s.thermalOf i).sensors = l
    induction l with
    | nil => rfl
    | cons y l ih =>
      rw [List.map_cons]
      by_cases e : y.limits.id = id
      · rw [if_pos e, List.filter_cons_of_neg (by simp [Sensor.agePast, e]), List.filter_cons_of_neg (by simp [e]), ih]
      · rw [if_neg e, List.filter_cons_of_pos (by simp [e]), List.filter_cons_of_pos (by simp [e]), ih]
  · have hclears : m.clears i = true := by
      rw [State.clears, hmself, Bool.and_eq_true, List.all_eq_true]
      refine ⟨hflag, fun y hy => ?_⟩
      obtain ⟨x, hx, rfl⟩ := hmem y hy
      by_cases e : x.limits.id = id
      · rw [if_pos e, Sensor.cool]
        exact Bool.or_eq_true_iff.2 (.inl (Sensor.agePast_stale hlimit x))
      · rw [if_neg e]
        exact (hall x hx).resolve_left e
    rw [ht, State.clearTest_thermalOf, State.clearTest_thermalCap, if_pos ⟨rfl, hclears⟩, if_pos ⟨rfl, hclears⟩]
    exact ⟨rfl, rfl, rfl⟩

/-! ### The grace timer -/

theorem exec_criticalGraceExpiry (s : State) (i : SlotId) :
    exec (.criticalGraceExpiry i) s = .next (if (s.thermalOf i).grace.isSome then s.graceExpired i else s) := rfl

/-- Settles O34: by the range of the reading, the critical flag and the other sensors. -/
theorem readingsMoveThermalRecord : Obligations.ReadingsMoveThermalRecord := by
  unfold Obligations.ReadingsMoveThermalRecord
  refine ⟨fun s i f => ⟨fun h => ?_, exec_telemetry_taken, fun id b x hp hid hs hst hx hcrit => ?_⟩, State.takeTelemetry_cons,
    fun s i a b h => ?_, reading_clears_or_stands, fun s i id hlimit => ⟨fun h => ?_, fun h => ?_⟩,
    fun s i => ⟨fun h => ?_, fun h hcrit hst => ?_⟩⟩
  · rw [exec_telemetry]
    split
    · next hrow =>
      rw [Bool.and_eq_true, Bool.and_eq_true, decide_eq_true_eq] at hrow
      rcases h with h | h
      · rw [State.takeTelemetry, if_neg (by simp [h])]
      · exact absurd hrow.2 h
    · rfl
  · have hexec : exec (.telemetry i f) s = .next (s.takeReading i id b.toInt) := by
      rw [exec_telemetry_taken hid hs hst, hp, State.takeTelemetry_one, State.takePair_id]
    obtain ⟨hin, hhot, hout⟩ := reading_with_flag_clear hx hcrit _ rfl
    exact ⟨fun h1 h2 h3 => ⟨_, hexec, hin h1 h2 h3⟩, fun h1 h2 h3 h4 => ⟨_, hexec, hhot h1 h2 h3 h4⟩,
      fun h1 => ⟨_, hexec, hout h1⟩⟩
  · rw [State.takeTelemetry_one, State.takePair_unknown h]
  · rw [exec_sensorStale, if_neg (by simp [h])]
  · exact ⟨_, by rw [exec_sensorStale, if_pos h], sensor_turns_stale s i id hlimit _ rfl⟩
  · rw [exec_criticalGraceExpiry, h]
    rfl
  · refine ⟨s.updThermal i fun r => { r with grace := none }, ?_, rfl, fun j => s.updThermal_thermalOf i _ j⟩
    rw [exec_criticalGraceExpiry, if_pos (Option.isSome_iff_ne_none.2 h), State.graceExpired, if_pos hcrit]
    exact congrArg Host.Outcome.next (if_pos hst)

end Sys2Proof.Machine

/-! ### The Station Table: offerings, removals and re-offers (O32) -/

namespace Sys2Proof.Machine

/-! ### The first index of a property -/

/-- The search of a table from its lowest index finds the lowest that has the property. -/
theorem find?_finRange_of_lowest {n : Nat} {p : Fin n → Bool} {k : Fin n} (hk : p k = true)
    (hlow : ∀ j, j < k → p j = false) : (List.finRange n).find? p = some k := by
  rw [List.find?_eq_some_iff_getElem]
  refine ⟨hk, k, by simp, by simp, fun j hj => ?_⟩
  simp only [List.getElem_finRange, Bool.not_eq_true']
  exact hlow _ (by simpa [Fin.lt_def] using hj)

theorem State.holder_none_iff (s : State) (a : Addr) :
    s.holder a = none ↔ ∀ k x, s.station k = some x → x.addr ≠ a := by
  refine ⟨fun h k x hx => State.not_held_of_holder (by simp [h]) k x hx, fun h => ?_⟩
  have hnone : (stationIndexes.find? fun k => holdsAddr a (s.station k)) = none := by
    rw [List.find?_eq_none]
    intro k _ hheld
    obtain ⟨x, hx, ha⟩ := (holdsAddr_iff _ _).1 hheld
    exact h k x hx ha
  rw [State.holder, hnone]

/-! ### Entries made -/

theorem State.install_frame (s : State) (a : Addr) (i : SlotId) :
    s.install a i = { s with stations := (s.install a i).stations } := by
  unfold State.install
  split <;> rfl

/-- An entry is made at the lowest free index. -/
theorem State.install_station {s : State} {k : Fin 64} (hfree : s.station k = none)
    (hlow : ∀ j, j < k → s.station j ≠ none) (a : Addr) (i : SlotId) (j : Fin 64) :
    (s.install a i).station j = if j = k then some ⟨a, i⟩ else s.station j := by
  have hfind : (stationIndexes.find? fun k => (s.station k).isNone) = some k :=
    find?_finRange_of_lowest (by simp [hfree]) fun j hj => by
      simpa [Option.isNone_eq_false_iff, Option.isSome_iff_ne_none] using hlow j hj
  rw [State.install, hfind]
  exact s.updStation_station k _ j

/-! ### Removal and re-offer -/

theorem State.seeks_iff {s : State} {a : Addr} {i : SlotId} :
    s.seeks a i = true ↔ (s.slot i).state.mayHoldStation = true ∧
      ∃ r, (s.inv i).record = some r ∧ (⟨a, .conflict⟩ : ListedAddr) ∈ r.addrs := by
  rw [State.seeks, Bool.and_eq_true]
  refine and_congr_right fun _ => ?_
  cases (s.inv i).record with
  | none => simp
  | some r =>
    simp only [List.any_eq_true, Bool.and_eq_true, decide_eq_true_eq, Option.some.injEq, exists_eq_left']
    exact ⟨fun ⟨⟨_, _⟩, hx, ha, hc⟩ => by simp only at ha hc; subst ha hc; exact hx, fun h => ⟨_, h, rfl, rfl⟩⟩

theorem State.seeks_congr {s t : State} {i : SlotId} (hslot : t.slot i = s.slot i) (hinv : t.inv i = s.inv i) (a : Addr) :
    t.seeks a i = s.seeks a i := by
  rw [State.seeks, State.seeks, hslot, hinv]

theorem State.reoffer_of_none {s : State} {a : Addr} (h : ∀ i, s.seeks a i = false) : s.reoffer a = s := by
  have hnone : (allSlots.find? fun i => s.seeks a i) = none := by
    rw [List.find?_eq_none]
    exact fun i _ => by simp [h i]
  rw [State.reoffer, hnone]

theorem State.reoffer_of_first {s : State} {a : Addr} {i : SlotId} (hi : s.seeks a i = true)
    (hlow : ∀ j, j < i → s.seeks a j = false) :
    s.reoffer a =
      ((s.install a i).updInv i fun v => { v with record := v.record.map fun r => r.promote a }).raise
        (.addressChange i) := by
  rw [State.reoffer, show (allSlots.find? fun i => s.seeks a i) = some i from find?_finRange_of_lowest hi hlow]

theorem InvRecord.promote_eq (r : InvRecord) (a : Addr) :
    r.promote a =
      { r with
        addrs := r.addrs.map fun x => if x.addr = a ∧ x.status = .conflict then ⟨a, .installed⟩ else x } := by
  unfold InvRecord.promote
  congr 1
  refine List.map_congr_left fun x _ => ?_
  obtain ⟨b, st⟩ := x
  by_cases h : b = a ∧ st = .conflict
  · obtain ⟨rfl, rfl⟩ := h
    simp
  · rw [if_neg h, if_neg (by simpa using h)]

/-- An entry leaves the table, and its address goes to the lowest slot that seeks it. -/
theorem removal_reoffers (s : State) (k : Fin 64) (e : Station) :
    ∃ u w : State, u = { s with stations := u.stations } ∧
      (∀ j, u.station j = if j = k then none else s.station j) ∧ w = u.raise (.addressChange e.slot) ∧
      ((∀ i, s.seeks e.addr i = false) → s.removeStation k e = w) ∧
      ∀ i m, s.seeks e.addr i = true → (∀ j, j < i → s.seeks e.addr j = false) → u.station m = none →
        (∀ j, j < m → u.station j ≠ none) →
        (s.slot i).state ∉ [SlotState.empty, .debounce, .disabled] ∧
        ∃ (v : State) (r : InvRecord), s.removeStation k e = v.raise (.addressChange i) ∧
          v = { w with stations := v.stations, inventory := v.inventory } ∧
          (∀ j, v.station j = if j = m then some ⟨e.addr, i⟩ else u.station j) ∧
          (s.inv i).record = some r ∧ (⟨e.addr, .conflict⟩ : ListedAddr) ∈ r.addrs ∧
          ∀ j, v.inv j =
            if j = i then
              { s.inv i with
                record := some { r with
                  addrs := r.addrs.map fun x =>
                    if x.addr = e.addr ∧ x.status = .conflict then ⟨e.addr, .installed⟩ else x } }
            else s.inv j := by
  let u := s.updStation k fun _ => none
  let w := u.raise (.addressChange e.slot)
  have hseeks : ∀ i, w.seeks e.addr i = s.seeks e.addr i := fun i =>
    State.seeks_congr (State.raise_slot ..) (State.raise_inv ..) _
  refine ⟨u, w, rfl, s.updStation_station k _, rfl, fun hnone => ?_, fun i m hi hlow hfree hfull => ⟨?_, ?_⟩⟩
  · exact State.reoffer_of_none fun i => (hseeks i).trans (hnone i)
  · obtain ⟨hmay, -⟩ := State.seeks_iff.1 hi
    cases hst : (s.slot i).state <;> simp_all [SlotState.mayHoldStation]
  · obtain ⟨-, r, hr, hmem⟩ := State.seeks_iff.1 hi
    have hstation : ∀ j, w.station j = u.station j := fun j => State.raise_station ..
    refine ⟨(w.install e.addr i).updInv i fun v => { v with record := v.record.map fun r => r.promote e.addr }, r,
      State.reoffer_of_first ((hseeks i).trans hi) fun j hj => (hseeks j).trans (hlow j hj), ?_, fun j => ?_, hr, hmem,
      fun j => ?_⟩
    · rw [State.install_frame]
      rfl
    · rw [← hstation j]
      exact State.install_station ((hstation m).trans hfree) (fun j hj => by rw [hstation]; exact hfull j hj) _ _ j
    · have hinv : ∀ j, (w.install e.addr i).inv j = s.inv j := fun j => by
        rw [State.install_frame]
        exact State.raise_inv ..
      rw [State.updInv_inv, hinv, hinv, hr, Option.map_some, InvRecord.promote_eq]

/-! ### The removal of the addresses a new list drops -/

/-- From s to t, entries of slot i whose address is not kept only leave: its records stand, its other entries and every
other slot's stay, and it gets none. -/
structure State.Withdraws (i : SlotId) (keep : List Addr) (s t : State) : Prop where
  slot : t.slot i = s.slot i
  inv : t.inv i = s.inv i
  kept : ∀ k x, s.station k = some x → x.slot ≠ i ∨ x.addr ∈ keep → t.station k = some x
  none_new : ∀ k x, t.station k = some x → x.slot = i → s.station k = some x

namespace State.Withdraws

variable {i : SlotId} {keep : List Addr} {s t u : State}

theorem refl (i : SlotId) (keep : List Addr) (s : State) : State.Withdraws i keep s s :=
  ⟨rfl, rfl, fun _ _ h _ => h, fun _ _ h _ => h⟩

theorem trans (h : State.Withdraws i keep s t) (k : State.Withdraws i keep t u) : State.Withdraws i keep s u :=
  ⟨k.slot.trans h.slot, k.inv.trans h.inv, fun n x hx hne => k.kept n x (h.kept n x hx hne) hne,
    fun n x hx hi => h.none_new n x (k.none_new n x hx hi) hi⟩

theorem raise (i : SlotId) (keep : List Addr) (s : State) (e : Event) : State.Withdraws i keep s (s.raise e) :=
  ⟨State.raise_slot .., State.raise_inv .., fun n x h _ => by rw [State.raise_station]; exact h,
    fun n x h _ => by rw [State.raise_station] at h; exact h⟩

theorem seeks (h : State.Withdraws i keep s t) (a : Addr) : t.seeks a i = s.seeks a i := State.seeks_congr h.slot h.inv a

theorem reoffer {a : Addr} (hi : s.seeks a i = false) : State.Withdraws i keep s (s.reoffer a) := by
  unfold State.reoffer
  split
  · exact refl i keep s
  · next j hj =>
    have hne : j ≠ i := by
      rintro rfl
      have hseeks : s.seeks a j = true := List.find?_some hj
      rw [hi] at hseeks
      cases hseeks
    refine trans ?_ (raise i keep _ _)
    unfold State.install
    split
    · exact ⟨rfl, State.updInv_inv_ne _ _ (Ne.symm hne), fun _ _ h _ => h, fun _ _ h _ => h⟩
    · next k hk =>
      have hfree : s.station k = none := by simpa using List.find?_some hk
      refine ⟨rfl, State.updInv_inv_ne _ _ (Ne.symm hne), fun n x hx _ => ?_, fun n x hx hxi => ?_⟩
      · rw [State.updInv_station, State.updStation_station, if_neg (by rintro rfl; rw [hfree] at hx; cases hx)]
        exact hx
      · rw [State.updInv_station, State.updStation_station] at hx
        split at hx
        · obtain rfl := Option.some.inj hx
          exact absurd hxi hne
        · exact hx

/-- An entry of slot i that is not kept leaves the table. -/
theorem removeStation {k : Fin 64} {e : Station} (hk : s.station k = some e) (he : e.slot = i) (hkeep : e.addr ∉ keep)
    (hi : s.seeks e.addr i = false) :
    State.Withdraws i keep s (s.removeStation k e) ∧ ∀ x, (s.removeStation k e).station k = some x → x.slot ≠ i := by
  have hclear : State.Withdraws i keep s (s.updStation k fun _ => none) := by
    refine ⟨rfl, rfl, fun n x hx hne => ?_, fun n x hx _ => ?_⟩
    · rw [State.updStation_station, if_neg]
      · exact hx
      · rintro rfl
        rw [hk] at hx
        cases hx
        exact hne.elim (fun h => h he) hkeep
    · rw [State.updStation_station] at hx
      split at hx
      · cases hx
      · exact hx
  have hraised := hclear.trans (raise i keep _ (.addressChange e.slot))
  have hafter : State.Withdraws i keep ((s.updStation k fun _ => none).raise (.addressChange e.slot))
      (s.removeStation k e) := reoffer ((hraised.seeks _).trans hi)
  refine ⟨hraised.trans hafter, fun x hx hxi => ?_⟩
  have hold := hafter.none_new k x hx hxi
  rw [State.raise_station, State.updStation_station_self] at hold
  cases hold

end State.Withdraws

/-- One step of the removal of slot i's entries whose address is not kept. -/
def State.withdrawAt (i : SlotId) (keep : List Addr) (s : State) (k : Fin 64) : State :=
  match s.station k with
  | none => s
  | some e => if e.slot = i && !keep.contains e.addr then s.removeStation k e else s

theorem State.removeStations_eq (s : State) (i : SlotId) (keep : List Addr) :
    s.removeStations i keep = stationIndexes.foldl (State.withdrawAt i keep) s := rfl

namespace State.Withdraws

variable {i : SlotId} {keep : List Addr} {s : State}

theorem withdrawAt (k : Fin 64) (hi : ∀ a, a ∉ keep → s.seeks a i = false) :
    State.Withdraws i keep s (s.withdrawAt i keep k) ∧
      ∀ x, (s.withdrawAt i keep k).station k = some x → x.slot = i → x.addr ∈ keep := by
  unfold State.withdrawAt
  split
  · next hk => exact ⟨refl i keep s, fun x hx => by rw [hk] at hx; cases hx⟩
  · next e hk =>
    split
    · next he =>
      simp only [Bool.and_eq_true, decide_eq_true_eq, Bool.not_eq_true', List.contains_eq_mem, decide_eq_false_iff_not] at he
      obtain ⟨hdrop, hnone⟩ := removeStation hk he.1 he.2 (hi _ he.2)
      exact ⟨hdrop, fun x hx hxi => absurd hxi (hnone x hx)⟩
    · next he =>
      refine ⟨refl i keep s, fun x hx hxi => ?_⟩
      rw [hk] at hx
      cases hx
      simpa [hxi] using he

theorem foldl_withdrawAt (l : List (Fin 64)) : ∀ s : State, (∀ a, a ∉ keep → s.seeks a i = false) →
    State.Withdraws i keep s (l.foldl (State.withdrawAt i keep) s) ∧
      ∀ k ∈ l, ∀ x, (l.foldl (State.withdrawAt i keep) s).station k = some x → x.slot = i → x.addr ∈ keep := by
  induction l with
  | nil => exact fun s _ => ⟨refl i keep s, fun k hk => absurd hk List.not_mem_nil⟩
  | cons k l ih =>
    intro s hi
    obtain ⟨hdrop, hout⟩ := withdrawAt (s := s) k hi
    obtain ⟨hrest, hlist⟩ := ih _ fun a ha => (hdrop.seeks a).trans (hi a ha)
    refine ⟨hdrop.trans hrest, fun n hn x hx hxi => ?_⟩
    rcases List.mem_cons.1 hn with rfl | hn
    · exact hout x (hrest.none_new n x hx hxi) hxi
    · exact hlist n hn x hx hxi

end State.Withdraws

/-- Once a slot seeks no address that its new list drops, its entries are those of the addresses it keeps. -/
theorem removal_keeps_listed (s : State) (i : SlotId) (keep : List Addr) (h : ∀ a, a ∉ keep → s.seeks a i = false) :
    (∀ k x, (s.removeStations i keep).station k = some x → x.slot = i → x.addr ∈ keep) ∧
    ∀ k x, s.station k = some x → x.slot ≠ i ∨ x.addr ∈ keep → (s.removeStations i keep).station k = some x := by
  obtain ⟨hdrop, hout⟩ := State.Withdraws.foldl_withdrawAt stationIndexes s h
  exact ⟨fun k => hout k (List.mem_finRange k), hdrop.kept⟩

/-! ### Offerings -/

theorem State.setAddrStatus_inv (s : State) (i : SlotId) (pos : Nat) (st : AddrStatus) (j : SlotId) :
    (s.setAddrStatus i pos st).inv j =
      if j = i then
        { s.inv i with
          record := (s.inv i).record.map fun r =>
            { r with addrs := r.addrs.modify pos fun x => { x with status := st } } }
      else s.inv j := s.updInv_inv i _ j

theorem offerAll_cons (i : SlotId) (earlier : List Addr) (a : Addr) (rest : List Addr) (s : State) :
    offerAll i earlier (a :: rest) s =
      offerAll i (earlier ++ [a]) rest
        (if a ∈ earlier then s.setAddrStatus i earlier.length .invalid
        else if s.holder a = some i then s.setAddrStatus i earlier.length .installed
        else s.offer i earlier.length a) := by
  rw [offerAll]
  simp only [List.contains_eq_mem, decide_eq_true_eq]

/-- One address of a new list is offered, or is answered without an offering. -/
theorem offering_answers (s : State) (i : SlotId) (earlier : List Addr) (a : Addr) (rest : List Addr) :
    ∃ (t u : State) (st : AddrStatus),
      offerAll i earlier (a :: rest) s = offerAll i (earlier ++ [a]) rest t ∧
      u = { s with stations := u.stations, inventory := u.inventory } ∧
      (∀ j, u.inv j =
        if j = i then
          { s.inv i with
            record := (s.inv i).record.map fun r =>
              { r with addrs := r.addrs.modify earlier.length fun x => { x with status := st } } }
        else s.inv j) ∧
      (a ∈ earlier → st = .invalid ∧ u.stations = s.stations ∧ t = u) ∧
      (a ∉ earlier → s.holder a = some i → st = .installed ∧ u.stations = s.stations ∧ t = u) ∧
      (a ∉ earlier → s.holder a ≠ some i → t = u.raise (.addressChange i) ∧
        (groupBit a = true ∨ a = 0#48 → st = .invalid ∧ u.stations = s.stations) ∧
        (groupBit a = false → a ≠ 0#48 → s.holder a ≠ none → st = .conflict ∧ u.stations = s.stations) ∧
        (groupBit a = false → a ≠ 0#48 → s.holder a = none → st = .installed ∧
          ∀ k, s.station k = none → (∀ j, j < k → s.station j ≠ none) →
            ∀ j, u.station j = if j = k then some ⟨a, i⟩ else s.station j)) := by
  rw [offerAll_cons]
  by_cases hmem : a ∈ earlier
  · rw [if_pos hmem]
    exact ⟨_, s.setAddrStatus i earlier.length .invalid, .invalid, rfl, rfl, s.setAddrStatus_inv i _ _,
      fun _ => ⟨rfl, rfl, rfl⟩, fun h => absurd hmem h, fun h => absurd hmem h⟩
  · by_cases hown : s.holder a = some i
    · rw [if_neg hmem, if_pos hown]
      exact ⟨_, s.setAddrStatus i earlier.length .installed, .installed, rfl, rfl, s.setAddrStatus_inv i _ _,
        fun h => absurd h hmem, fun _ _ => ⟨rfl, rfl, rfl⟩, fun _ h => absurd hown h⟩
    · rw [if_neg hmem, if_neg hown]
      let v := if s.offerAnswer a = .installed then s.install a i else s
      have hv : v = { s with stations := v.stations } := by
        dsimp only [v]
        split
        · exact s.install_frame a i
        · rfl
      have hvinv : ∀ j, v.inv j = s.inv j := fun j => by rw [hv]; rfl
      have hstand : s.offerAnswer a ≠ .installed → v.stations = s.stations := fun h => by
        dsimp only [v]
        rw [if_neg h]
      refine ⟨_, v.setAddrStatus i earlier.length (s.offerAnswer a), s.offerAnswer a, rfl, ?_, fun j => ?_,
        fun h => absurd h hmem, fun _ h => absurd h hown, fun _ _ => ⟨rfl, fun h => ?_, fun hg h0 h => ?_, fun hg h0 h => ?_⟩⟩
      · calc
          _ = { v with inventory := (v.setAddrStatus i earlier.length (s.offerAnswer a)).inventory } := rfl
          _ = _ := congrArg (fun x : State =>
            { x with inventory := (v.setAddrStatus i earlier.length (s.offerAnswer a)).inventory }) hv
      · rw [State.setAddrStatus_inv, hvinv, hvinv]
      · have hans : s.offerAnswer a = .invalid := if_pos (by simpa using h)
        exact ⟨hans, hstand (by rw [hans]; decide)⟩
      · have hans : s.offerAnswer a = .conflict := by
          rw [State.offerAnswer, if_neg (by simp [hg, h0]), if_pos (Option.isSome_iff_ne_none.2 h)]
        exact ⟨hans, hstand (by rw [hans]; decide)⟩
      · have hans : s.offerAnswer a = .installed := by
          rw [State.offerAnswer, if_neg (by simp [hg, h0]), if_neg (by simp [h])]
        refine ⟨hans, fun k hfree hlow j => ?_⟩
        change v.station j = _
        dsimp only [v]
        rw [if_pos hans]
        exact State.install_station hfree hlow a i j

end Sys2Proof.Machine

/-! ### What an acceptance leaves of its slot (O32)

The hand-offs of an acceptance (R62) lead to the arbiter, to thermal tests and to notices. `State.Spares` is what all of
them leave of the slot whose record is accepted; `State.Steady` adds its target. -/

namespace Sys2Proof.Machine

/-! ### Frames sent stay listed -/

theorem State.transmit_sent_subset (s : State) (p : PortId) (k : SentKind) (l : List Byte) :
    s.sent ⊆ (s.transmit p k l).sent := by
  unfold State.transmit
  split
  · exact List.subset_append_left _ _
  · exact List.Subset.refl _

theorem State.attemptSend_sent_subset (s : State) : s.sent ⊆ s.attemptSend.sent := by
  unfold State.attemptSend
  split
  · exact List.Subset.refl _
  · next n rest _ =>
    split
    · exact State.transmit_sent_subset
        { s with notices := rest, noticeSeq := nextNoticeSeq s.noticeSeq, spacing := s.spacingStarted } _ _ _
    · exact List.Subset.refl _

theorem State.raise_sent_subset (s : State) (e : Event) : s.sent ⊆ (s.raise e).sent := by
  unfold State.raise
  split
  · split
    · exact List.Subset.refl _
    · exact State.attemptSend_sent_subset { s with notices := s.notices ++ [e.notice] }
  · exact List.Subset.refl _

theorem State.takeReports_sent (s : State) (i : SlotId) (l : List RailReport) : (s.takeReports i l).sent = s.sent := by
  refine foldl_kept State.sent (fun s r _ => ?_) s
  unfold State.takeReport
  (repeat' split) <;> rfl

theorem State.startRamp_sent_subset (s : State) (i : SlotId) : s.sent ⊆ (s.startRamp i).sent := by
  refine List.Subset.trans ?_ (State.raise_sent_subset _ _)
  rw [State.takeReports_sent]
  exact List.Subset.refl _

theorem State.admitBoot_sent_subset (s : State) (i : SlotId) : s.sent ⊆ (s.admitBoot i).sent := by
  refine List.Subset.trans ?_ (State.startRamp_sent_subset _ _)
  rw [State.remark_frame]
  change s.sent ⊆ (State.numberAdmission _ i).sent
  rw [State.numberAdmission_frame]
  exact List.Subset.refl _

/-! ### The relation -/

/-- From s to t slot i keeps its state, its context, its sensors and the lack of a BOOT entry, every setting, every
inventory record and the Station Table stand, and the frames sent stay listed. -/
structure State.Spares (i : SlotId) (s t : State) : Prop where
  settings : t.settings = s.settings
  inventory : t.inventory = s.inventory
  stations : t.stations = s.stations
  state : (t.slot i).state = (s.slot i).state
  context : t.context i = s.context i
  sensors : (t.thermalOf i).sensors = (s.thermalOf i).sensors
  boot : s.hasEntry i .boot = false → t.hasEntry i .boot = false
  sent : s.sent ⊆ t.sent

/-- From s to t slot i is spared and keeps its target. -/
structure State.Steady (i : SlotId) (s t : State) : Prop extends State.Spares i s t where
  target : (t.grantOf i).target = (s.grantOf i).target

namespace State.Spares

variable {i : SlotId} {s t u : State}

theorem trans (h : State.Spares i s t) (k : State.Spares i t u) : State.Spares i s u :=
  ⟨k.settings.trans h.settings, k.inventory.trans h.inventory, k.stations.trans h.stations, k.state.trans h.state,
    k.context.trans h.context, k.sensors.trans h.sensors, fun hb => k.boot (h.boot hb),
    List.Subset.trans h.sent k.sent⟩

theorem updGrant (s : State) (i : SlotId) (f : Grant → Grant) : State.Spares i s (s.updGrant i f) :=
  ⟨rfl, rfl, rfl, rfl, rfl, rfl, id, List.Subset.refl _⟩

end State.Spares

namespace State.Steady

variable {i : SlotId} {s t u : State}

theorem refl (i : SlotId) (s : State) : State.Steady i s s :=
  ⟨⟨rfl, rfl, rfl, rfl, rfl, rfl, id, List.Subset.refl _⟩, rfl⟩

theorem trans (h : State.Steady i s t) (k : State.Steady i t u) : State.Steady i s u :=
  ⟨h.toSpares.trans k.toSpares, k.target.trans h.target⟩

theorem raise (s : State) (i : SlotId) (e : Event) : State.Steady i s (s.raise e) :=
  ⟨⟨State.raise_settings .., State.raise_inventory .., by rw [State.raise_side]; rfl, by rw [State.raise_slot],
    State.raise_context .., by rw [State.raise_thermalOf], fun h => by rw [State.hasEntry, State.raise_powerQueue]; exact h,
    s.raise_sent_subset e⟩, by rw [State.raise_grantOf]⟩

theorem updGrant (s : State) (i j : SlotId) {f : Grant → Grant} (hf : (f (s.grantOf j)).target = (s.grantOf j).target) :
    State.Steady i s (s.updGrant j f) := by
  refine ⟨⟨rfl, rfl, rfl, rfl, rfl, rfl, id, List.Subset.refl _⟩, ?_⟩
  rw [State.updGrant_grantOf]
  split
  · next e => rw [hf, e]
  · rfl

theorem updThermal (s : State) (i : SlotId) {f : ThermalRecord → ThermalRecord}
    (hf : (f (s.thermalOf i)).sensors = (s.thermalOf i).sensors) : State.Steady i s (s.updThermal i f) :=
  ⟨⟨rfl, rfl, rfl, rfl, rfl, by rw [State.updThermal_thermalOf_self, hf], id, List.Subset.refl _⟩, rfl⟩

theorem remark (s : State) (i j : SlotId) : State.Steady i s (s.remark j) := by
  have hframe := s.remark_frame j
  refine ⟨⟨s.remark_settings j, ?_, ?_, ?_, ?_, ?_, fun h => ?_, ?_⟩, ?_⟩
  · rw [hframe]
  · rw [hframe]
  · rw [hframe]; rfl
  · rw [hframe]; rfl
  · rw [hframe]; rfl
  · rw [State.hasEntry, State.remark_powerQueue]; exact h
  · rw [hframe]; exact List.Subset.refl _
  · rw [State.remark_grantOf]
    split
    · next e => rw [e]
    · rfl

theorem dequeue (s : State) (i j : SlotId) (k : EntryKind) : State.Steady i s (s.dequeue j k) :=
  ⟨⟨s.dequeue_settings j k, rfl, rfl, rfl, rfl, rfl, fun h => by rw [State.dequeue_hasEntry, h]; rfl,
    List.Subset.refl _⟩, rfl⟩

theorem enqueue_upgrade (s : State) (i : SlotId) : State.Steady i s (s.enqueue i .upgrade) := by
  have hframe := s.enqueue_frame i .upgrade
  refine ⟨⟨s.enqueue_settings i _, ?_, ?_, ?_, ?_, ?_, fun h => ?_, ?_⟩, ?_⟩
  · rw [hframe]
  · rw [hframe]
  · rw [hframe]; rfl
  · rw [hframe]; rfl
  · rw [hframe]; rfl
  · rw [State.enqueue_hasEntry, h]; simp
  · rw [hframe]; exact List.Subset.refl _
  · rw [hframe]; rfl

/-! ### The arbiter -/

theorem upgrade (s : State) (i j : SlotId) : State.Steady i s (s.upgrade j) :=
  ((updGrant s i j rfl).trans (dequeue _ _ _ _)).trans (remark _ _ _)

theorem partialStep (s : State) (i j : SlotId) : State.Steady i s (s.partialStep j) := by
  unfold State.partialStep
  split
  · exact (updGrant s i j rfl).trans (remark _ _ _)
  · exact refl i s

/-- The admission of another slot. -/
theorem admitBoot (s : State) {i j : SlotId} (h : i ≠ j) : State.Steady i s (s.admitBoot j) := by
  have hview : (s.admitBoot j).view i = s.view i := by
    obtain ⟨-, hne⟩ := State.startRamp_view (((((s.updGrant j fun g =>
      { g with grant := (s.policy j).bootAllowance, target := (s.policy j).bootAllowance }).numberAdmission j).dequeue j
        .boot).remark j)) j
    simpa [State.admitBoot, State.dequeue_view, State.updGrant_view, h] using hne i h
  have hpass := State.Passes.admitBoot s h
  have hside := s.admitBoot_arbiterSide j
  have hsettings := s.admit_settings j
  have hsent := s.admitBoot_sent_subset j
  generalize s.admitBoot j = t at *
  refine ⟨⟨hsettings, ?_, ?_, congrArg View.state hview, hpass.context, ?_, hpass.entries _, hsent⟩,
    congrArg View.target hview⟩
  · rw [hside]; rfl
  · rw [hside]; rfl
  · rw [hside]; rfl

/-- The arbiter spares a slot that has no BOOT entry, and leaves its target. -/
theorem arbiter (hb : s.hasEntry i .boot = false) : State.Steady i s s.arbiter := by
  refine State.arbiter_induct (P := fun s => s.hasEntry i .boot = false) (State.Steady.refl i)
    (fun _ _ _ => State.Steady.trans) (fun s e rest hs hq => ?_) (fun s e rest hs hq => ?_) hb
  · have hserve : State.Steady i s (s.serve e) := by
      have hentry := State.hasEntry_of_head hq
      unfold State.serve
      cases hk : e.kind with
      | boot =>
        refine admitBoot s fun hi => ?_
        rw [hk, ← hi, hs] at hentry
        cases hentry
      | upgrade => exact upgrade s i e.slot
    exact ⟨hserve, hserve.boot hs⟩
  · unfold State.stopAt
    cases hk : e.kind with
    | boot => exact refl i s
    | upgrade => exact partialStep s i e.slot

theorem arbiter_of (h : State.Steady i s t) (hb : s.hasEntry i .boot = false) : State.Steady i s t.arbiter :=
  h.trans (arbiter (h.boot hb))

/-! ### Thermal caps and tests -/

theorem liftThermalCap (s : State) (i : SlotId) : State.Steady i s (s.liftThermalCap i) := by
  unfold State.liftThermalCap
  split
  · exact (updGrant s i i rfl).trans (raise _ _ _)
  · exact refl i s

theorem setThermalCap (hb : s.hasEntry i .boot = false) : State.Steady i s (s.setThermalCap i) := by
  unfold State.setThermalCap
  split
  · exact refl i s
  · refine arbiter_of ?_ hb
    exact ((((updGrant s i i rfl).trans (raise _ _ _)).trans (dequeue _ _ _ _)).trans (updGrant _ _ _ rfl)).trans
      (remark _ _ _)

theorem clearThermalCap (hb : s.hasEntry i .boot = false) : State.Steady i s (s.clearThermalCap i) := by
  unfold State.clearThermalCap
  dsimp only
  split
  · refine State.Steady.trans ?_ (remark _ _ _)
    split
    · exact arbiter_of ((liftThermalCap s i).trans (enqueue_upgrade _ _)) hb
    · exact liftThermalCap s i
  · exact refl i s

theorem setTest (hb : s.hasEntry i .boot = false) (xs : List Sensor) : State.Steady i s (s.setTest i xs) := by
  unfold State.setTest
  split
  · exact ((updThermal s i rfl).trans (setThermalCap hb)).trans (updThermal _ _ rfl)
  · exact refl i s

theorem clearTest (hb : s.hasEntry i .boot = false) : State.Steady i s (s.clearTest i) := by
  unfold State.clearTest
  split
  · exact (updThermal s i rfl).trans (clearThermalCap hb)
  · exact refl i s

end State.Steady

/-! ### Targets -/

/-- A window's declared power becomes the target. -/
theorem State.acceptTarget_spares {s : State} {i : SlotId} (hb : s.hasEntry i .boot = false) (power : Nat) :
    State.Spares i s (s.acceptTarget i power) ∧ ((s.acceptTarget i power).grantOf i).target = power := by
  let u := s.targetTaken i power
  have hu : State.Spares i s u := (State.Steady.liftThermalCap s i).toSpares.trans (.updGrant _ i _)
  have htarget : (u.grantOf i).target = power := by
    change (((s.liftThermalCap i).updGrant i _).grantOf i).target = _
    rw [State.updGrant_grantOf_self]
  have hrest : State.Steady i u (s.acceptTarget i power) := by
    unfold State.acceptTarget
    dsimp only
    split
    · refine State.Steady.trans ?_ (State.Steady.remark _ i i)
      have hgrant : State.Steady i u (u.updGrant i fun r => { r with grant := power, budgetCapped := false }) :=
        .updGrant u i i rfl
      split
      · exact hgrant.arbiter_of (hu.boot hb)
      · exact hgrant
    · exact ((State.Steady.enqueue_upgrade u i).arbiter_of (hu.boot hb)).trans (.remark _ i i)
  exact ⟨hu.trans hrest.toSpares, hrest.target.trans htarget⟩

/-- A refresh that changes the declared power makes it the target. -/
theorem State.refreshTarget_spares {s : State} {i : SlotId} (hb : s.hasEntry i .boot = false) (power : Nat) :
    State.Spares i s (s.refreshTarget i power) ∧ ((s.refreshTarget i power).grantOf i).target = power := by
  unfold State.refreshTarget
  split
  · let u := s.updGrant i fun r => { r with target := power, grant := min (s.grantOf i).grant power }
    have hu : State.Spares i s u := .updGrant s i _
    have hrest : State.Steady i u (s.lowerTarget i power) := by
      unfold State.lowerTarget
      dsimp only
      refine State.Steady.trans ?_ (State.Steady.remark _ i i)
      have hlow : State.Steady i u (if power ≤ (s.grantOf i).grant then
          (u.updGrant i fun r => { r with budgetCapped := false }).dequeue i .upgrade else u) := by
        split
        · exact (State.Steady.updGrant u i i rfl).trans (.dequeue _ _ _ _)
        · exact .refl i u
      split
      · exact hlow.arbiter_of (hu.boot hb)
      · exact hlow
    exact ⟨hu.trans hrest.toSpares, hrest.target.trans (by rw [State.updGrant_grantOf_self])⟩
  · let u := s.updGrant i fun r => { r with target := power }
    have hu : State.Spares i s u := .updGrant s i _
    have hrest : State.Steady i u (s.raiseTarget i power) := by
      unfold State.raiseTarget
      dsimp only
      refine State.Steady.trans ?_ (State.Steady.remark _ i i)
      split
      · exact (State.Steady.enqueue_upgrade u i).arbiter_of (hu.boot hb)
      · exact .refl i u
    exact ⟨hu.trans hrest.toSpares, hrest.target.trans (by rw [State.updGrant_grantOf_self])⟩

/-- The hand-off of the declared power (R64). -/
theorem State.handOffPower_spares {s : State} {i : SlotId} (hb : s.hasEntry i .boot = false) (m : ContextMode)
    (old : Option InvRecord) (power : Nat) (t : State) (ht : t = s.handOffPower i m old power) :
    State.Spares i s t ∧ (m = .window → (t.grantOf i).target = power) ∧
      (m = .refresh → old.map InvRecord.power ≠ some power → (t.grantOf i).target = power) := by
  subst ht
  cases m with
  | closed => exact ⟨(State.Steady.refl i s).toSpares, fun h => (nomatch h), fun h => (nomatch h)⟩
  | window =>
    obtain ⟨hspares, htarget⟩ := State.acceptTarget_spares hb power
    exact ⟨hspares, fun _ => htarget, fun h => (nomatch h)⟩
  | refresh =>
    by_cases h : old.map InvRecord.power = some power
    · have hsame : s.handOffPower i .refresh old power = s := if_pos h
      rw [hsame]
      exact ⟨(State.Steady.refl i s).toSpares, fun h => (nomatch h), fun _ hno => absurd h hno⟩
    · have hmove : s.handOffPower i .refresh old power = s.refreshTarget i power := if_neg h
      obtain ⟨hspares, htarget⟩ := State.refreshTarget_spares hb power
      rw [hmove]
      exact ⟨hspares, fun h => (nomatch h), fun _ _ => htarget⟩

/-- The rebuild of the thermal record (R98, R108). -/
theorem State.rebuildThermal_spec {s : State} {i : SlotId} (hb : s.hasEntry i .boot = false) (new : List SensorLimits) :
    ∃ u : State, u = s.updThermal i (fun r => { r with sensors := mergeSensors r.sensors new }) ∧
      State.Steady i u (s.rebuildThermal i new) := by
  refine ⟨_, rfl, ?_⟩
  unfold State.rebuildThermal
  dsimp only
  have hbu : (s.updThermal i fun r => { r with sensors := mergeSensors r.sensors new }).hasEntry i .boot = false := hb
  split
  · split
    · exact .clearTest hbu
    · exact .setTest hbu _
  · exact .refl i _

end Sys2Proof.Machine

/-! ### The last fragment: restart, refusal, acceptance (O32) -/

namespace Sys2Proof.Machine

/-! ### The whole-record checks (R53, R58) -/

/-- A context whose assembly restarts, with one more reject (R53). -/
def Context.restarted (c : Context) (gap : Deadline) : Context :=
  { c with
    expected := 0, declaredLength := none, declaredCount := none, assembly := [], rejects := c.rejects + 1,
    pending := some gap }

theorem State.setContext_rejectRecord {s : State} {i : SlotId} {c : Context} {l : List Sent} (h : c.rejects < 3) :
    (s.setContext i c l).rejectRecord i =
      s.setContext i (c.restarted s.gapDeadline) (s.replied i c l (resendPayload 0)) := by
  have hgap : (s.setContext i c l).gapDeadline = s.gapDeadline := rfl
  have hreplied : s.replied i { c with rejects := c.rejects + 1 } l (resendPayload 0) =
      s.replied i c l (resendPayload 0) := rfl
  rw [State.rejectRecord, State.setContext_context_self, if_pos (show c.rejects < Config.rejectLimit from h),
    State.setContext_updContext, State.setContext_sendReply, State.setContext_updContext, hgap, hreplied]
  rfl

theorem State.setContext_rejectRecord_last {s : State} {i : SlotId} {c : Context} {l : List Sent} (h : 3 ≤ c.rejects) :
    (s.setContext i c l).rejectRecord i = (s.setContext i c l).failContext i .rejectLimit .announceRejected := by
  rw [State.rejectRecord, State.setContext_context_self]
  exact if_neg (Nat.not_lt.2 h)

section

variable {s : State} {i : SlotId} {n : Nat} {record : List Byte}

theorem State.checkRecord_of_bad (hn : (s.context i).declaredLength = some n) (hr : (s.context i).assembly = record)
    (h : record.length ≠ n ∨ crcGood record = false) : s.checkRecord i = s.rejectRecord i := by
  rw [State.checkRecord, hn, hr]
  refine if_neg ?_
  simp only [Bool.and_eq_true, decide_eq_true_eq, Option.some.injEq]
  rintro ⟨hlen, hcrc⟩
  rcases h with h | h
  · exact h hlen
  · rw [hcrc] at h
    cases h

theorem State.checkRecord_of_good (hn : (s.context i).declaredLength = some n) (hr : (s.context i).assembly = record)
    (hlen : record.length = n) (hcrc : crcGood record = true) :
    (readRecord record = none → s.checkRecord i = s.failContext i .badRecord .badRecord) ∧
    ∀ r, readRecord record = some r → s.checkRecord i = s.acceptRecord i r := by
  have hgood : (some record.length = some n && crcGood record) = true := by simp [hlen, hcrc]
  refine ⟨fun h => ?_, fun r h => ?_⟩
  all_goals
    rw [State.checkRecord, hn, hr, if_pos hgood, h]

end

theorem exec_announce_completes {s : State} {i : SlotId} {f : ServiceFrame} (ha : s.addressedToPart f.dst = true)
    (hs : s.servesSlot i = true) (hopen : (s.context i).mode ≠ .closed) (hlast : s.fragmentCompletes i f.payload) :
    exec (.announce i f) s = .next ((s.setContext i ((s.context i).appended f s.gapDeadline) s.sent).checkRecord i) := by
  obtain ⟨hwell, hidx, hcount, hcons, hroom⟩ := hlast
  rw [exec_announce ha hs, State.takeAnnounce_open hopen, State.takeFragment_appended hwell hidx hcons hroom,
    if_pos hcount]

/-! ### What the Station Table's update leaves (R63) -/

/-- From s to t the Station Table's unit has worked: only statuses of listed addresses change in the records. -/
structure State.Relists (s t : State) : Prop where
  side : t = s.stationSideOf t
  inv : ∀ j, ∃ f : List ListedAddr → List ListedAddr, (∀ l, (f l).map ListedAddr.addr = l.map ListedAddr.addr) ∧
    t.inv j = { s.inv j with record := (s.inv j).record.map fun r => { r with addrs := f r.addrs } }

namespace State.Relists

variable {s t u : State}

theorem of_inv (hside : t = s.stationSideOf t) (hinv : ∀ j, t.inv j = s.inv j) : State.Relists s t := by
  refine ⟨hside, fun j => ⟨id, fun _ => rfl, ?_⟩⟩
  rw [hinv]
  simp

theorem refl (s : State) : State.Relists s s := of_inv rfl fun _ => rfl

theorem trans (h : State.Relists s t) (k : State.Relists t u) : State.Relists s u := by
  refine ⟨State.stationSideOf_trans h.side k.side, fun j => ?_⟩
  obtain ⟨f, hf, hinv⟩ := h.inv j
  obtain ⟨g, hg, hinv'⟩ := k.inv j
  refine ⟨g ∘ f, fun l => (hg _).trans (hf l), ?_⟩
  rw [hinv', hinv, Option.map_map]
  rfl

theorem raise (s : State) (e : Event) : State.Relists s (s.raise e) :=
  of_inv (s.raise_stationSide e) fun _ => State.raise_inv ..

theorem install (s : State) (a : Addr) (i : SlotId) : State.Relists s (s.install a i) := by
  refine of_inv ?_ fun j => ?_
  all_goals
    rw [State.install_frame]
    rfl

/-- One record's list changes in its statuses. -/
theorem updInv (s : State) (i : SlotId) (g : List ListedAddr → List ListedAddr)
    (hg : ∀ l, (g l).map ListedAddr.addr = l.map ListedAddr.addr) :
    State.Relists s (s.updInv i fun v => { v with record := v.record.map fun r => { r with addrs := g r.addrs } }) := by
  refine ⟨rfl, fun j => ?_⟩
  by_cases h : j = i
  · exact ⟨g, hg, by rw [State.updInv_inv, if_pos h, h]⟩
  · exact ⟨id, fun _ => rfl, by rw [State.updInv_inv, if_neg h]; simp⟩

theorem setAddrStatus (s : State) (i : SlotId) (pos : Nat) (st : AddrStatus) :
    State.Relists s (s.setAddrStatus i pos st) := by
  refine updInv s i (fun l => l.modify pos fun x => { x with status := st }) fun l => ?_
  refine List.ext_getElem? fun n => ?_
  simp only [List.getElem?_map, List.getElem?_modify]
  split <;> simp [Function.comp_def]

theorem reoffer (s : State) (a : Addr) : State.Relists s (s.reoffer a) := by
  unfold State.reoffer
  split
  · exact refl s
  · next i _ =>
    let g : ListedAddr → ListedAddr := fun x =>
      if x.addr = a && x.status = .conflict then { x with status := .installed } else x
    have hg : ∀ l : List ListedAddr, (l.map g).map ListedAddr.addr = l.map ListedAddr.addr := fun l => by
      rw [List.map_map]
      refine List.map_congr_left fun x _ => ?_
      change (g x).addr = x.addr
      dsimp only [g]
      split <;> rfl
    exact ((install s a i).trans (updInv _ i (fun l => l.map g) hg)).trans (raise _ _)

theorem removeStations (s : State) (i : SlotId) (keep : List Addr) : State.Relists s (s.removeStations i keep) := by
  have hstep : ∀ (t : State) (k : Fin 64), State.Relists t (t.withdrawAt i keep k) := fun t k => by
    unfold State.withdrawAt
    split
    · exact refl t
    · split
      · exact ((of_inv (t := t.updStation k fun _ => none) rfl fun _ => rfl).trans (raise _ _)).trans (reoffer _ _)
      · exact refl t
  rw [State.removeStations_eq]
  induction stationIndexes generalizing s with
  | nil => exact refl s
  | cons k l ih => exact (hstep s k).trans (ih _)

theorem offerAll (i : SlotId) (l : List Addr) : ∀ (earlier : List Addr) (s : State),
    State.Relists s (Machine.offerAll i earlier l s) := by
  induction l with
  | nil => exact fun _ s => refl s
  | cons a l ih =>
    intro earlier s
    rw [offerAll_cons]
    refine State.Relists.trans ?_ (ih _ _)
    split
    · exact setAddrStatus s i _ _
    · split
      · exact setAddrStatus s i _ _
      · unfold State.offer
        dsimp only
        refine State.Relists.trans (State.Relists.trans ?_ (setAddrStatus _ i _ _)) (raise _ _)
        split
        · exact install s a i
        · exact refl s

/-- An accepted record keeps its fields and its addresses through the update of the Station Table. -/
theorem record {i : SlotId} {r : InvRecord} {g : Nat} (h : State.Relists s t) (hs : s.inv i = ⟨some r, g⟩) :
    ∃ l, l.map ListedAddr.addr = r.addrs.map ListedAddr.addr ∧ t.inv i = ⟨some { r with addrs := l }, g⟩ := by
  obtain ⟨f, hf, hinv⟩ := h.inv i
  rw [hs] at hinv
  exact ⟨f r.addrs, hf _, hinv⟩

end State.Relists

/-! ### The end of an acceptance -/

namespace State.Steady

variable {i : SlotId} {s t u : State}

theorem transmit (s : State) (i : SlotId) (p : PortId) (k : SentKind) (l : List Byte) :
    State.Steady i s (s.transmit p k l) :=
  ⟨⟨State.transmit_settings .., State.transmit_inventory .., State.transmit_stations .., by rw [State.transmit_slot],
    State.transmit_context .., by rw [State.transmit_thermalOf],
    fun h => by rw [State.hasEntry, State.transmit_powerQueue]; exact h, s.transmit_sent_subset p k l⟩,
    by rw [State.transmit_grantOf]⟩

/-- A slot moves to a state; the rest is as it was. -/
theorem move (h : State.Steady i s t) {f : Slot → Slot} {st : SlotState} (hf : (f (t.slot i)).state = st) :
    State.Steady i (s.setSlotState i st) (t.updSlot i f) := by
  refine ⟨⟨h.settings, h.inventory, h.stations, ?_, h.context, h.sensors, h.boot, h.sent⟩, h.target⟩
  rw [State.updSlot_slot_self, hf, State.setSlotState, State.updSlot_slot_self]

end State.Steady

/-- The end of an acceptance: a window's ANNOUNCING slot moves to HELD_ONLINE or ONLINE. -/
theorem State.reportAccepted_steady {s : State} {i : SlotId} (hb : s.hasEntry i .boot = false) (m : ContextMode) :
    ∃ st, State.Steady i (s.setSlotState i st) (s.reportAccepted i m) ∧
      (m = .window → (s.slot i).state = .announcing →
        st = if (s.policy i).holdOnline then .heldOnline else .online) ∧
      (m = .refresh → st = (s.slot i).state) := by
  have hstay : ∀ t, State.Steady i s t → State.Steady i (s.setSlotState i (s.slot i).state) t := fun t h =>
    ⟨⟨h.settings, h.inventory, h.stations, h.state.trans (by rw [State.setSlotState, State.updSlot_slot_self]), h.context,
      h.sensors, h.boot, h.sent⟩, h.target⟩
  cases m with
  | closed => exact ⟨_, hstay _ (.refl i s), fun h => (nomatch h), fun _ => rfl⟩
  | refresh => exact ⟨_, hstay _ (.raise s i _), fun h => (nomatch h), fun _ => rfl⟩
  | window =>
    let t := s.raise (.accepted i)
    have ht : State.Steady i s t := .raise s i _
    have hstate : (t.slot i).state = (s.slot i).state := ht.state
    have hpolicy : t.policy i = s.policy i := State.raise_policy ..
    by_cases hst : (s.slot i).state = .announcing
    · by_cases hhold : (s.policy i).holdOnline = true
      · have hreport : s.reportAccepted i .window = t.enterHeld i .heldOnline := by
          unfold State.reportAccepted
          dsimp only
          rw [if_pos (hstate.trans hst), if_pos (by rw [hpolicy]; exact hhold)]
        refine ⟨.heldOnline, ?_, fun _ _ => by rw [if_pos hhold], fun h => (nomatch h)⟩
        rw [hreport, State.enterHeld_eq]
        exact ((ht.move (f := fun r => { r with hold := t.holdTimer i, state := .heldOnline }) rfl).trans
          (.raise _ _ _)).trans (.raise _ _ _)
      · have hreport : s.reportAccepted i .window = t.enterOnline i := by
          unfold State.reportAccepted
          dsimp only
          rw [if_pos (hstate.trans hst), if_neg (by rw [hpolicy]; exact hhold)]
        refine ⟨.online, ?_, fun _ _ => by rw [if_neg hhold], fun h => (nomatch h)⟩
        rw [hreport, State.enterOnline, State.enter_updSlot]
        have hmoved : State.Steady i (s.setSlotState i .online) ((t.updSlot i fun r =>
            { r with hold := none, retryCount := 0, faultCause := .none, state := .online }).raise (.stateChange i)) :=
          (ht.move (f := fun r => { r with hold := none, retryCount := 0, faultCause := .none, state := .online })
            rfl).trans (.raise _ _ _)
        exact hmoved.trans (.setTest (hmoved.boot hb) _)
    · have hreport : s.reportAccepted i .window = t := by
        unfold State.reportAccepted
        dsimp only
        exact if_neg fun h => hst (hstate.symm.trans h)
      rw [hreport]
      exact ⟨_, hstay _ ht, fun _ h => absurd h hst, fun h => (nomatch h)⟩

/-- The reply's frame is read from the settings. -/
theorem State.serviceFrame_of_settings {s t : State} (h : t.settings = s.settings) (dst : Addr) (kind : Byte)
    (sequence : Nat) (payload : List Byte) :
    t.serviceFrame dst kind sequence payload = s.serviceFrame dst kind sequence payload := by
  simp only [State.serviceFrame, State.identity, State.identities_of_settings h, State.chassis_of_settings h]

/-- What an acceptance does once the Station Table is updated (R62, steps 3 to 7). -/
def State.concludes (w : State) (i : SlotId) (m : ContextMode) (old : Option InvRecord) (power : Nat)
    (sensors : List SensorLimits) (payload : List Byte) : State :=
  ((((w.rebuildThermal i sensors).handOffPower i m old power).sendReply i payload).closeContext i).reportAccepted i m

theorem State.concludes_spec {w t : State} {i : SlotId} {m : ContextMode} {old : Option InvRecord} {power : Nat}
    {sensors : List SensorLimits} {payload : List Byte} (hb : w.hasEntry i .boot = false)
    (ht : t = w.concludes i m old power sensors payload) :
    t.inventory = w.inventory ∧ t.stations = w.stations ∧
    (t.thermalOf i).sensors = mergeSensors (w.thermalOf i).sensors sensors ∧
    (t.context i).mode = .closed ∧
    (w.link (slotPort i) = true →
      (⟨slotPort i, .announceReply,
        w.serviceFrame (w.context i).replyDst kindAnnounceReply (w.context i).replySeq payload⟩ : Sent) ∈ t.sent) ∧
    (m = .window → (t.grantOf i).target = power) ∧
    (m = .refresh → old.map InvRecord.power ≠ some power → (t.grantOf i).target = power) ∧
    (m = .window → (w.slot i).state = .announcing →
      (t.slot i).state = if (w.policy i).holdOnline then .heldOnline else .online) ∧
    (m = .refresh → (t.slot i).state = (w.slot i).state) := by
  let w' := w.updThermal i fun r => { r with sensors := mergeSensors r.sensors sensors }
  obtain ⟨_, rfl, hx⟩ := State.rebuildThermal_spec hb sensors
  unfold State.concludes at ht
  generalize w.rebuildThermal i sensors = x at *
  have hxb := hx.boot hb
  obtain ⟨hy, hwindow, hrefresh⟩ := State.handOffPower_spares hxb m old power _ rfl
  generalize x.handOffPower i m old power = y at *
  have hxy : State.Spares i w' y := hx.toSpares.trans hy
  have hz : State.Steady i y (y.sendReply i payload) := .transmit y i _ _ _
  have hlink : y.link (slotPort i) = w.link (slotPort i) := by
    rw [State.link, State.link, State.links_of_settings hxy.settings]
    rfl
  have hframe : y.serviceFrame (y.context i).replyDst kindAnnounceReply (y.context i).replySeq payload =
      w.serviceFrame (w.context i).replyDst kindAnnounceReply (w.context i).replySeq payload := by
    rw [State.serviceFrame_of_settings hxy.settings, hxy.context]
    rfl
  have hsent : w.link (slotPort i) = true →
      (⟨slotPort i, .announceReply,
        w.serviceFrame (w.context i).replyDst kindAnnounceReply (w.context i).replySeq payload⟩ : Sent) ∈
        (y.sendReply i payload).sent := fun h => by
    rw [State.sendReply, State.transmit_frame, if_pos (hlink.trans h), hframe]
    exact List.mem_append_right _ List.mem_cons_self
  generalize y.sendReply i payload = z at *
  have hwz : State.Spares i w' z := hxy.trans hz.toSpares
  have hclosed : (z.closeContext i).context i = contextClosed := by
    rw [State.closeContext, State.updContext_context_self]
  obtain ⟨st, hst, hmoved, hstays⟩ :=
    State.reportAccepted_steady (s := z.closeContext i) (i := i) (hwz.boot hb) m
  rw [← ht] at hst
  have hzstate : ((z.closeContext i).slot i).state = (w.slot i).state := hwz.state
  have hzpolicy : (z.closeContext i).policy i = w.policy i := by
    change z.policy i = _
    rw [State.policy, State.policies_of_settings hwz.settings]
    rfl
  have htstate : (t.slot i).state = st := by
    rw [hst.state, State.setSlotState, State.updSlot_slot_self]
  have htarget : (t.grantOf i).target = (y.grantOf i).target := hst.target.trans hz.target
  refine ⟨hst.inventory.trans hwz.inventory, hst.stations.trans hwz.stations, ?_, ?_, fun h => hst.sent (hsent h),
    fun h => htarget.trans (hwindow h), fun h hne => htarget.trans (hrefresh h hne), fun h hann => ?_, fun h => ?_⟩
  · refine (hst.sensors.trans hwz.sensors).trans ?_
    rw [State.updThermal_thermalOf_self]
  · rw [hst.context]
    exact congrArg Context.mode hclosed
  · rw [htstate, hmoved h (hzstate.trans hann), hzpolicy]
  · rw [htstate, hstays h, hzstate]

/-! ### Acceptance (R61 to R64) -/

theorem State.acceptRecord_eq (s : State) (i : SlotId) (r : Announced) :
    s.acceptRecord i r =
      ((s.updInv i fun _ => ⟨some (r.stored (nextGeneration (s.inv i).generation) (r.sensors.map SensorLimits.repair)),
          nextGeneration (s.inv i).generation⟩).updateStations i r.addrs).concludes i (s.context i).mode
        (s.inv i).record r.power (r.sensors.map SensorLimits.repair)
        (acceptPayload (nextGeneration (s.inv i).generation) (r.sensors.map SensorLimits.repair ≠ r.sensors)) := rfl

/-- A good record is stored, offered, handed off and answered. -/
theorem State.acceptance_spec {s : State} {i : SlotId} {f : ServiceFrame} {r : Announced} {c : Context}
    (haddr : c.replyAddr = some f.src) (hseq : c.replySeq = f.sequence) (hmode : c.mode = (s.context i).mode)
    (hb : s.hasEntry i .boot = false) (t : State) (ht : t = (s.setContext i c s.sent).acceptRecord i r) :
    ∃ (v w : State) (rec : InvRecord),
      (t.inv i).record = some rec ∧
      (t.inv i).generation = (if (s.inv i).generation < 65535 then (s.inv i).generation + 1 else 1) ∧
      rec.generation = (t.inv i).generation ∧ rec.vendor = r.vendor ∧ rec.hwRev = r.hwRev ∧ rec.power = r.power ∧
      rec.model = r.model ∧ rec.serial = r.serial ∧ rec.firmware = r.firmware ∧
      rec.addrs.map ListedAddr.addr = r.addrs ∧ rec.sensors = r.sensors.map SensorLimits.repair ∧
      v = { s with contexts := v.contexts, inventory := v.inventory } ∧ (∀ j, j ≠ i → v.inv j = s.inv j) ∧
      (v.inv i).record = some { rec with addrs := r.addrs.map fun a => ⟨a, .invalid⟩ } ∧
      w = offerAll i [] r.addrs (v.removeStations i r.addrs) ∧ t.stations = w.stations ∧
      t.inventory = w.inventory ∧
      (t.thermalOf i).sensors = mergeSensors (s.thermalOf i).sensors (r.sensors.map SensorLimits.repair) ∧
      (t.context i).mode = .closed ∧
      (s.link (slotPort i) = true →
        (⟨slotPort i, .announceReply,
          s.serviceFrame f.src kindAnnounceReply f.sequence
            ([0#8] ++ be16 (t.inv i).generation ++
              [flag (decide (r.sensors.map SensorLimits.repair ≠ r.sensors))])⟩ : Sent) ∈ t.sent) ∧
      ((s.context i).mode = .window → (t.grantOf i).target = r.power) ∧
      ((s.context i).mode = .refresh → (s.inv i).record.map InvRecord.power ≠ some r.power →
        (t.grantOf i).target = r.power) ∧
      ((s.context i).mode = .window → (s.slot i).state = .announcing →
        (t.slot i).state = if (s.policy i).holdOnline then .heldOnline else .online) ∧
      ((s.context i).mode = .refresh → (t.slot i).state = (s.slot i).state) := by
  let g := nextGeneration (s.inv i).generation
  let stored := r.stored g (r.sensors.map SensorLimits.repair)
  let v := (s.setContext i c s.sent).updInv i fun _ => ⟨some stored, g⟩
  have hvinv : v.inv i = ⟨some stored, g⟩ := State.updInv_inv_self ..
  have hrelists : State.Relists v (v.updateStations i r.addrs) :=
    (State.Relists.removeStations v i r.addrs).trans (.offerAll i r.addrs [] _)
  have hvcontext : v.context i = c := s.setContext_context_self i c s.sent
  have haccept : t = (v.updateStations i r.addrs).concludes i (s.context i).mode (s.inv i).record r.power
      (r.sensors.map SensorLimits.repair) (acceptPayload g (r.sensors.map SensorLimits.repair ≠ r.sensors)) := by
    rw [ht, State.acceptRecord_eq, State.setContext_context_self, hmode]
    rfl
  obtain ⟨l, hl, hrecord⟩ := hrelists.record hvinv
  have hw : v.updateStations i r.addrs = offerAll i [] r.addrs (v.removeStations i r.addrs) := rfl
  generalize v.updateStations i r.addrs = w at *
  have hwside := hrelists.side
  have hwb : w.hasEntry i .boot = false := by rw [hwside]; exact hb
  have hwcontext : w.context i = c := by rw [hwside]; exact hvcontext
  have hwthermal : w.thermalOf i = s.thermalOf i := by rw [hwside]; rfl
  have hwslot : w.slot i = s.slot i := by rw [hwside]; rfl
  have hwpolicy : w.policy i = s.policy i := by rw [hwside]; rfl
  have hwlink : w.link (slotPort i) = s.link (slotPort i) := by rw [hwside]; rfl
  have hwframe : ∀ dst n p, w.serviceFrame dst kindAnnounceReply n p = s.serviceFrame dst kindAnnounceReply n p :=
    fun dst n p => by rw [hwside]; rfl
  have hdst : c.replyDst = f.src := by rw [Context.replyDst, haddr]; rfl
  obtain ⟨hinventory, hstations, hsensors, hclosed, hsent, hwindow, hrefresh, hmoved, hstays⟩ :=
    State.concludes_spec hwb haccept
  have htinv : t.inv i = ⟨some { stored with addrs := l }, g⟩ := by
    rw [State.inv, hinventory]
    exact hrecord
  rw [hwlink, hwcontext, hwframe, hdst, hseq] at hsent
  rw [hwthermal] at hsensors
  rw [hwslot] at hmoved hstays
  rw [hwpolicy] at hmoved
  rw [htinv]
  refine ⟨v, w, { stored with addrs := l }, rfl, rfl, rfl, rfl, rfl, rfl, rfl, rfl, rfl, ?_, rfl, rfl, fun j hj => ?_, ?_,
    hw, hstations, hinventory, hsensors, hclosed, hsent, hwindow, hrefresh, hmoved, hstays⟩
  · refine hl.trans ?_
    change (r.addrs.map fun a => (⟨a, .invalid⟩ : ListedAddr)).map ListedAddr.addr = _
    rw [List.map_map]
    exact List.map_id _
  · exact State.updInv_inv_ne _ _ hj
  · rw [hvinv]
    rfl

/-- Settles O32: by the whole-record checks, and in the order of an acceptance's steps. -/
theorem announceAcceptsGoodRecord : Obligations.AnnounceAcceptsGoodRecord := by
  unfold Obligations.AnnounceAcceptsGoodRecord
  refine ⟨fun s i f record ha hs hopen hlast hrecord => ?_, offering_answers, State.holder_none_iff,
    removal_keeps_listed, fun s k e _ => removal_reoffers s k e⟩
  let c := (s.context i).appended f s.gapDeadline
  let t := s.setContext i c s.sent
  have hc : t.context i = c := State.setContext_context_self ..
  have hassembly : (t.context i).assembly = record := by rw [hc, hrecord]; rfl
  have hdeclared : (t.context i).declaredLength = some (nat8At f.payload 0) := by rw [hc]; rfl
  have hexec : exec (.announce i f) s = .next (t.checkRecord i) := exec_announce_completes ha hs hopen hlast
  rw [hexec]
  refine ⟨fun hbad => ?_, fun hlen hcrc hread => ?_, fun r hlen hcrc hread hb => ?_⟩
  · rw [State.checkRecord_of_bad hdeclared hassembly hbad]
    refine ⟨fun hfew => ?_, fun hthree => ?_⟩
    · have hreject : t.rejectRecord i =
          s.setContext i (c.restarted s.gapDeadline) (s.replied i c s.sent (resendPayload 0)) :=
        State.setContext_rejectRecord hfew
      rw [hreject]
      exact ⟨_, rfl, rfl, s.setContext_context i _ _, rfl⟩
    · have hreject : t.rejectRecord i = t.failContext i .rejectLimit .announceRejected :=
        State.setContext_rejectRecord_last hthree
      rw [hreject]
      simp only [Host.Outcome.next.injEq]
      exact State.fail_spec (c := c) rfl rfl rfl rfl
  · rw [(State.checkRecord_of_good hdeclared hassembly hlen hcrc).1 hread]
    simp only [Host.Outcome.next.injEq]
    exact State.fail_spec (c := c) rfl rfl rfl rfl
  · rw [(State.checkRecord_of_good hdeclared hassembly hlen hcrc).2 r hread]
    obtain ⟨v, w, rec, hspec⟩ := State.acceptance_spec (c := c) (r := r) (f := f) rfl rfl rfl hb _ rfl
    exact ⟨_, v, w, rec, rfl, hspec⟩

end Sys2Proof.Machine
